-- ==== Sys2Proof/Word.lean ====
section
/-! DEFINITION. The word types of the FN48's outside: the byte of the line, of the configuration memory and of the
converters' 16-bit codes. Inside the machine a load, a strain, a count or a time is an `Int` or a `Nat`, since the manual
computes with them exactly and saturates by name. -/

namespace Sys2Proof

/-- One byte of a message or of the configuration image. -/
abbrev Byte := BitVec 8

/-- A 16-bit field the manual treats as bits: a converter code, an epoch, a programme id, a check sum. -/
abbrev Half := BitVec 16

end Sys2Proof
end

