-- ==== Sys2Proof/Config.lean ====
section
/-! DEFINITION. What one FN48 fixes: the timing constants of R2 and of the chapters, and the free values, which stand for
the orders the manual leaves open between events of one instant (`Config.freeBit`, `Config.freeNat`: no body, so that no
proof can see them). -/

namespace Sys2Proof

/-- Accumulator units to one unit of q or h, and servo ticks to a second (section "Units and representations", R2). -/
def Config.accUnit : Nat := 4000

/-- The full value of q and of h (1024 = full). -/
def Config.full : Nat := 1024

/-- The full value of the accumulators of q and h: 4,096,000. -/
def Config.accFull : Nat := 4096000

/-- Characters of a BEAT: 3 header bytes, 31 body bytes, 2 CRC bytes (section 3.3). -/
def Config.beatCharacters : Nat := 36

/-- Bit times of one character (R2, R144). -/
def Config.characterBits : Nat := 11

/-- Converter time of one scanner sample in microseconds (R2, R68). -/
def Config.sampleUs : Nat := 25

/-- Samples of one ladder read (R77). -/
def Config.ladderSamples : Nat := 4

/-- Bytes of the configuration image (R165). -/
def Config.imageBytes : Nat := 1986

/-- Bits of the image read: 4 command bytes and 1986 image bytes (R165). -/
def Config.imageReadBits : Nat := 15920

/-- Microseconds of the image read, at 2 MHz (R165). -/
def Config.imageReadUs : Nat := 7960

/-- The collision count at which a message is abandoned (R151, R152). -/
def Config.collisionLimit : Nat := 16

/-- Microseconds without a composition that give an INTERVAL beat: 1000 ms (R156). -/
def Config.intervalUs : Nat := 1000000

/-- The age, in milliseconds, at which a peer entry's age holds (R113). -/
def Config.ageLimit : Nat := 65535

/-- FREE VALUE (assumption 4). Decides, at microsecond `t`, an order of two blocks or events which the manual says may
be taken either way (R4, R52, R157), for a mark that the node's own clock raises. -/
opaque Config.freeBit (t : Nat) : Bool

/-- FREE VALUE (assumption 4). Draw `k` at microsecond `t` of the order in which events due at one instant are taken. -/
opaque Config.freeNat (t k : Nat) : Nat

/-- FREE VALUE (assumption 7). Constant `field` of crack site `site` in CFG_FAULT, where the node has taken none from the
image (R93, R167) and the manual does not say what a CRACK reply makes of a kept reading. -/
opaque Config.freeConstant (site field : Nat) : Int

end Sys2Proof
end

