-- ==== Sys2Proof/Syntax.lean ====
section
/-! DEFINITION. The commands: one constructor of `Instr` for each row of spec/opcode_table.json, with the values that
reach the node with it from outside. Where the manual says that blocks take one event in either order, the order is an
operand of the command (assumption 3), so that a claim about the command is a claim about every order. -/

namespace Sys2Proof

/-- What a DIRECTIVE message carries beside its action (section 12.1), with its source station. -/
structure Directive where
  source    : Byte
  mask      : Byte
  epoch     : Half
  entry     : Byte
  programme : Half
  scale     : Half
  accept    : Byte
deriving DecidableEq, Repr

/-- What a QUERY message carries beside its record kind (section 12.1), with its source station. -/
structure Query where
  source : Byte
  target : Byte
  index  : Byte
deriving DecidableEq, Repr

/-- The errors of R147 that discard a message being assembled, but for the gap, which is a command of its own and has its
characters brought before it. -/
inductive ReceiveError where
  /-- a character whose parity is even -/
  | parity
  /-- a stop bit that reads low -/
  | framing
  /-- byte 2 gives a body length over 48 -/
  | tooLong (n : Byte)
  /-- a message of all its characters, which fails a check at its arrival -/
  | rejected (bytes : List Byte)
  /-- no error yet: the characters so far of a message that the gap may end (R146, assumption 17) -/
  | unfinished (characters : List Byte)
deriving DecidableEq, Repr

/-- The commands of the FN48: the rows of spec/opcode_table.json, in the table's order. -/
inductive Instr where
  | powerOnReset
  | resetPinAssert
  /-- the five strap inputs as read at the release (R164) -/
  | resetRelease (straps : BitVec 5)
  /-- the bytes read from the configuration memory, and the scan point whose firing at the start of the clock is taken
  first where several points have fraction 0 (R72) -/
  | imageReadComplete (image : List Byte) (firstPoint : Nat)
  /-- the two raw codes of this tick (R5), and the number of the order in which the four blocks take the tick (R4) -/
  | servoTick (order : Nat) (rawLoad rawDisp : Half)
  | carrierPeriodStart
  | cutoffAssert
  | cutoffRelease
  /-- whether the sequencer takes the mark before the range recorder (R52), and the site whose ladder request is posted
  first (R72) -/
  | cycleMark (sequencerFirst : Bool) (firstSite : Nat)
  | scanPointFire (point : Nat)
  /-- the codes of the record's samples since those that the accumulator holds, in the order taken (R68); where the record takes
  more, they are added to the accumulator and it goes on (assumption 10) -/
  | recordComplete (codes : List Half)
  /-- in the same way the codes of the read's four samples (R77) -/
  | ladderReadComplete (codes : List Half)
  /-- the source station and the 31 body bytes (section 12.1) -/
  | beatArrival (source : Byte) (body : List Byte)
  | replyReceived (source : Byte) (body : List Byte)
  | receiveDiscard (error : ReceiveError)
  | receiveGapExpiry
  | peerStale (station : Nat)
  | peerLost (station : Nat)
  | lockstepRelease
  | intervalBeat
  /-- with whether the barrier is examined before the mode changes (R40, R133: the manual gives no order) -/
  | run (d : Directive) (barrierFirst : Bool)
  | hold (d : Directive)
  | unload (d : Directive)
  | stop (d : Directive)
  | resetTrip (d : Directive)
  | baseline (d : Directive)
  | scale (d : Directive)
  | channel (q : Query)
  | histLo (q : Query)
  | histHi (q : Query)
  | crack (q : Query)
  | segment (q : Query)
  | counters (q : Query)
  | peer (q : Query)
  | queryUnknownKind (kind : Byte) (q : Query)
  | transmitStart
  | transmitComplete
  /-- the number of the message's bit, from 0, that showed the collision (R151) -/
  | collision (bit : Nat)
  | jamEnd
  | backoffEnd
  | lineStuck
  | lineStuckRelease
  | receiveAssemblerReady
  | directiveUnknownAction (action : Byte) (d : Directive)
deriving DecidableEq, Repr

end Sys2Proof
end

