-- ==== Sys2Proof/Decode.lean ====
section
/-! DEFINITION. The words of the opcode table: no row of it has bits (its "fields" are empty and it gives no "fixed"), since a
command of this block is an event or a message, not a word in a memory. The messages' own bytes are decoded in
Machine/Message.lean, the image's in Machine/Image.lean. -/

namespace Sys2Proof

/-- The command a word spells by the table's bits: none, since no row gives any (assumption 1). -/
def decodeTableWord (_nbits _w : Nat) : Option Instr := none

end Sys2Proof
end

