-- ==== Sys2Proof/Machine/State.lean ====
section
/-! DEFINITION. The state of the FN48: one structure for each of the ten blocks of chapter 0, each holding what the manual
says that block owns, the image constants the blocks have taken, and the queue of waiting commands. Plain data throughout. -/

namespace Sys2Proof.Machine

/-- There is no fault: every command of the table has an effect in every state, and the manual gives the part no error
that stops it (safe: the type is empty, so no command can end in one). -/
inductive Fault : Type
deriving DecidableEq, Repr

/-- Why a command has no outcome. -/
inductive Refusal where
  /-- Raised by `exec` alone, for a row of the table that has no meaning yet; no row is left so (safe). -/
  | notModelled (mnemonic : String)
deriving DecidableEq, Repr

/-! ## Codes and constants from the image -/

/-- The frame modes (R126; codes in section 12.3). -/
inductive Mode where
  | start | standby | ascent | run | hold | descent | parked | tripped | cfgFault
deriving DecidableEq, Repr

/-- The trip causes (R126). -/
inductive TripCode where
  | none | cutoff | overload | dispLimit | tracking
deriving DecidableEq, Repr

/-- The start-up fault codes, in the order of the checks of R166. -/
inductive FaultCode where
  | none | noImage | length | checksum | group | limits | servo | timing | policy | segment | chain | channel | site
deriving DecidableEq, Repr

/-- The policies of R140. -/
inductive Policy where
  | note | hold | descent
deriving DecidableEq, Repr

/-- The outcomes of a directive (R132, R160). -/
inductive DirectiveOutcome where
  | none | adopted | refusedMode | refusedProgram | refusedAlarm | refusedComplete | refusedCutoff
deriving DecidableEq, Repr

/-- The wave shapes of a CYCLE (R9, R10). -/
inductive Shape where
  | sine | triangle
deriving DecidableEq, Repr

/-- The kind of a segment record with the fields that kind uses (section 2.1). -/
inductive SegmentBody where
  | none
  | ramp (target : Int) (durationMs : Nat)
  | dwell (durationMs : Nat)
  | cycle (mean : Int) (amplitude period : Nat) (shape : Shape) (count softCycles : Nat)
deriving DecidableEq, Repr

/-- A segment record (section 2.1); `link = none` is END. -/
structure Segment where
  body         : SegmentBody
  groupAdvance : Bool
  pause        : Bool
  link         : Option Nat
deriving DecidableEq, Repr

/-- A scan record (section 4.2); `link = none` is END. -/
structure ScanRecord where
  channel : Nat
  samples : Nat
  link    : Option Nat
deriving DecidableEq, Repr

/-- A scan point (R62): no fraction when disabled, no head when none. -/
structure ScanPoint where
  fraction : Option Nat
  head     : Option Nat
deriving DecidableEq, Repr

/-- The constants of a strain channel (section 5.1). -/
structure ChannelConst where
  enabled   : Bool
  zero      : Int
  cal       : Int
  binWidth  : Nat
  endurance : Nat
  watchAt   : Nat
deriving DecidableEq, Repr

/-- The constants of a crack site (section 6.1). -/
structure SiteConst where
  used      : Bool
  ladder    : Option Nat
  strands   : Nat
  rIntact   : Int
  step      : Nat
  rOpen     : Int
  channel   : Option Nat
  threshold : Nat
  runLength : Nat
  critical  : Nat
deriving DecidableEq, Repr

/-- What the blocks take from the image when start-up ends in STANDBY (R7, R30, R62, R66, R81, R93, R116, R128, R129,
R131, R140, R166). -/
structure Settings where
  group           : Nat
  programme       : Half
  defaultPeriod   : Nat
  staleMs         : Nat
  lostMs          : Nat
  park            : Int
  loadMin         : Int
  loadMax         : Int
  tripMin         : Int
  tripMax         : Int
  dispMin         : Int
  dispMax         : Int
  zeroLoad        : Int
  gainLoad        : Int
  zeroDisp        : Int
  gainDisp        : Int
  kp              : Nat
  ki              : Nat
  imax            : Nat
  umax            : Nat
  errLimit        : Nat
  errTicks        : Nat
  inverted        : Bool
  idleHigh        : Bool
  holdRate        : Nat
  descentRate     : Nat
  band            : Nat
  lockstepTimeout : Nat
  lockWindow      : Nat
  policy1         : Policy
  policy2         : Policy
  policy3         : Policy
  lossPolicy      : Policy
  dropPolicy      : Policy
  segments        : List Segment
  scans           : List ScanRecord
  points          : List ScanPoint
  channels        : List ChannelConst
  sites           : List SiteConst
deriving DecidableEq, Repr

/-! ## Load servo (LSV, chapter 1) -/

/-- What the duty buffer holds, and what the PWM output applies (R20). -/
inductive Duty where
  | idle
  | drive (d : Nat)
deriving DecidableEq, Repr

/-- The load servo's state (R16, R18, R20, R22, R26, R29). -/
structure Servo where
  /-- measured load L, displacement D and command c of R29 -/
  load      : Int
  disp      : Int
  command   : Int
  clampFlag : Bool
  integ     : Int
  tracking  : Nat
  buffer    : Duty
  /-- what the PWM generator applies to the carrier period now running (R20, R21) -/
  output    : Duty
  enable    : Bool
  /-- the level of the cutoff input (R23, R24): true while asserted -/
  cutoff    : Bool
deriving DecidableEq, Repr

/-! ## Segment sequencer (SSQ, chapter 2) -/

/-- The sequencer states (section 2.2). -/
inductive SeqState where
  | idle | active | preCycle | barrier | complete
deriving DecidableEq, Repr

/-- The programme position and the sequencer's other state (R31, R32, R43, R46). -/
structure Sequencer where
  state     : SeqState
  index     : Nat
  started   : Bool
  elapsed   : Nat
  remaining : Nat
  base      : Int
  rampStart : Int
  clean     : Bool
  complete  : Bool
  /-- h_acc; h is a 4000th of it -/
  envelope  : Nat
  /-- the step of a soft start in progress (R44) -/
  softStep  : Option Nat
  scaleBuffer : Nat
  scaleActive : Nat
  partialCycles : Nat
deriving DecidableEq, Repr

/-! ## Cycle clock (CCK, chapter 3) -/

/-- The lock states (R56). -/
inductive Lock where
  | alone | seeking | locked
deriving DecidableEq, Repr

/-- The cycle clock's state (R50). -/
structure Clock where
  phase    : Nat
  nominal  : Nat
  applied  : Nat
  trim     : Int
  lock     : Lock
  buffer   : Option Nat
  /-- the time of each scan point in the current cycle (R63) -/
  times    : List (Option Nat)
  /-- the instant of the most recent cycle mark since reset (R57, R61) -/
  lastMark : Option Nat
deriving DecidableEq, Repr

/-! ## Strain scanner (SSC, chapter 4) -/

/-- A scan point's chain request when it waits (R65); `atMark` says that it was created at a mark which the scanner has
yet to take, and which therefore does not carry it (R76). -/
inductive ChainRequest where
  | none
  | pending (carried atMark : Bool)
deriving DecidableEq, Repr

/-- What the scanner converter is doing (R65): `sample` is the number of the sample being made, which is how many of its record or
read have completed, and `us` the microseconds that sample has taken; `carried` is the flag that the chain request in service
keeps from the time it waited (R69, R76). -/
inductive Converter where
  | idle
  | chain (point record sample us : Nat) (carried : Bool)
  | ladder (site sample us : Nat)
deriving DecidableEq, Repr

/-- The strain scanner's state (R65, R67). A chain or a ladder read is in service when the converter says so. -/
structure Scanner where
  chains       : List ChainRequest
  ladders      : List Bool
  converter    : Converter
  /-- the sum of the samples completed of the record or ladder read in service -/
  accumulator  : Int
  overruns     : List Nat
  late         : Nat
  ladderMerges : Nat
  /-- the multiplexer input last selected -/
  input        : Nat
deriving DecidableEq, Repr

/-! ## Range recorder (RRC, chapter 5) -/

/-- A channel's dynamic record (R82). -/
structure Channel where
  lastStrain : Int
  cycleMax   : Int
  cycleMin   : Int
  samples    : Nat
  lastRange  : Nat
  bins       : List Nat
  damage     : Nat
  missed     : Nat
  overRange  : Nat
  watch      : Bool
deriving DecidableEq, Repr

/-- The range recorder's state (R82, R89, R90). -/
structure Recorder where
  channels : List Channel
  total    : Nat
  steady   : Bool
deriving DecidableEq, Repr

/-! ## Crack monitor (CKM, chapter 6) -/

/-- The site states (R95). -/
inductive SiteState where
  | intact | suspect | confirmed | critical | sensorFault
deriving DecidableEq, Repr

/-- A site's dynamic record (R95). -/
structure Site where
  state        : SiteState
  baseline     : Option Nat
  brokenMax    : Nat
  reading      : Option Int
  stamp        : Nat
  evidence     : Nat
  clears       : Nat
  strainSeen   : Bool
  refRange     : Option Nat
  captureSum   : Nat
  captureCount : Nat
  faultFlag    : Bool
  growth       : Nat
  confirmCycle : Option Nat
deriving DecidableEq, Repr

/-- The crack monitor's state (R95, R109). -/
structure Cracks where
  sites       : List Site
  level       : Nat
  sensorFault : Bool
deriving DecidableEq, Repr

/-! ## Peer view table (PVT, chapter 7) -/

/-- The seven flags of BEAT byte 3 (section 12.1). -/
structure BeatFlags where
  sensorFault    : Bool
  damageWatch    : Bool
  clamped        : Bool
  barrierWait    : Bool
  complete       : Bool
  peerLost       : Bool
  released       : Bool
deriving DecidableEq, Repr

/-- The states of a peer entry (R113). -/
inductive PeerState where
  | empty | fresh | stale | lost
deriving DecidableEq, Repr

/-- A peer entry (R113); `mode = start`, code 0, while EMPTY. The age is kept in microseconds. The lock state code is kept as
received, 3 included (R170; DEDUCED: in the entry, assumption 24). -/
structure Peer where
  state       : PeerState
  group       : Nat
  mode        : Mode
  previous    : Option Mode
  ownLevel    : Nat
  groupLevel  : Nat
  flags       : BeatFlags
  lockCode    : Nat
  segIndex    : Nat
  remaining   : Nat
  q           : Nat
  period      : Nat
  cycles      : Nat
  offset      : Int
  offsetValid : Bool
  ageUs       : Nat
deriving DecidableEq, Repr

/-- The peer view table's state: entry `s` of station `s` at place `s - 1`, and the group alarm level G (R118). -/
structure PeerTable where
  entries    : List Peer
  groupAlarm : Nat
deriving DecidableEq, Repr

/-! ## Mode controller (MCT, chapter 8) -/

/-- The mode controller's state (R126); the release timer in microseconds left. -/
structure Control where
  mode     : Mode
  qAcc     : Nat
  accept   : Nat
  release  : Option Nat
  released : Bool
  trip     : TripCode
  refusals : Nat
  alarm    : Bool
deriving DecidableEq, Repr

/-! ## Line unit (LU, chapters 9 and 10) -/

/-- The causes of a BEAT (R156). -/
inductive Cause where
  | mark | interval | prompt
deriving DecidableEq, Repr

/-- A composed BEAT: the snapshot of R157 but for the deferral, with the instant of its composing mark (R61). -/
structure Beat where
  group        : Nat
  mode         : Mode
  ownLevel     : Nat
  groupLevel   : Nat
  flags        : BeatFlags
  cause        : Cause
  lock         : Lock
  segIndex     : Nat
  remaining    : Nat
  total        : Nat
  q            : Nat
  period       : Nat
  load         : Int
  command      : Int
  disp         : Int
  epoch        : Half
  outcome      : DirectiveOutcome
  lineErrors   : Nat
  faultCode    : Nat
  markedAt     : Option Nat
deriving DecidableEq, Repr

/-- A composed REPLY (R161, section 12.1): `content = none` where the valid flag is clear. -/
structure Reply where
  kind    : Byte
  index   : Byte
  content : Option (List Byte)
deriving DecidableEq, Repr

/-- A message of the node's own. -/
inductive Message where
  | beat (b : Beat)
  | reply (r : Reply)
deriving DecidableEq, Repr

/-- The held message and its collision count (R149). -/
structure Held where
  message    : Message
  collisions : Nat
deriving DecidableEq, Repr

/-- The transmitter states (section 9.5); SENDING with the bytes on the wire, and the timed ones with the microseconds left. -/
inductive Transmitter where
  | idle
  | waitGap
  | sending (wire : List Byte) (left : Nat)
  | jam (left : Nat)
  | backoff (left : Nat)
deriving DecidableEq, Repr

/-- The line states (section 9.4). -/
inductive LineState where
  | off | active | listenOnly | stuck
deriving DecidableEq, Repr

/-- The receive assembler (R146): it takes nothing; or waits for the line to read high for 1.5 character times; or is ready
for the first character of a message; or holds the characters so far of the message it is taking. -/
inductive Assembler where
  | off
  | waiting
  | ready
  | taking (characters : List Byte)
deriving DecidableEq, Repr

/-- The line unit's state (R146 to R161). -/
structure LineUnit where
  line         : LineState
  /-- the line fault code: true when DUPLICATE (R155) -/
  duplicate    : Bool
  /-- microseconds of one bit at the chosen rate (R144) -/
  bitUs        : Nat
  assembler    : Assembler
  transmitter  : Transmitter
  held         : Option Held
  beatSlot     : Option Beat
  replySlot    : Option Reply
  lineErrors   : Nat
  abandons     : Nat
  queryOverruns : Nat
  seenEpoch    : Option Half
  outcome      : DirectiveOutcome
  /-- microseconds since the last composition, none while the timer is stopped (R156) -/
  intervalUs   : Option Nat
  /-- the q of the last composition (R156) -/
  lastQ        : Nat
  /-- a PROMPT cause has arisen in the event being handled (R156); the model's own, clear between events -/
  prompt       : Bool
deriving DecidableEq, Repr

/-! ## Start-up loader (SUL, chapter 11) -/

/-- Where start-up stands (R163 to R169). -/
inductive Loader where
  /-- a reset is asserted -/
  | inReset
  /-- the straps gave no frame station (R164) -/
  | badStation
  /-- the image is being read, for the microseconds given so far (R165) -/
  | reading (us : Nat)
  /-- start-up has ended -/
  | ended
deriving DecidableEq, Repr

/-- The start-up loader's state: the station number read, the fault code held, and the retained tag (R168). -/
structure StartUp where
  loader  : Loader
  station : Nat
  fault   : FaultCode
  tag     : Option (Half × Half)
deriving DecidableEq, Repr

/-! ## The whole node -/

/-- The state of the node. `now` counts microseconds and is the model's own timebase (assumption 2). -/
structure State where
  servo    : Servo
  seq      : Sequencer
  clock    : Clock
  scanner  : Scanner
  recorder : Recorder
  cracks   : Cracks
  peers    : PeerTable
  control  : Control
  line     : LineUnit
  startUp  : StartUp
  settings : Settings
  now      : Nat
  pending  : List Instr
deriving DecidableEq, Repr

/-! ## Reset values -/

/-- An unused segment record. -/
def Segment.unused : Segment := { body := .none, groupAdvance := false, pause := false, link := none }

/-- A channel record with its enabled flag clear. -/
def ChannelConst.unused : ChannelConst :=
  { enabled := false, zero := 0, cal := 0, binWidth := 1, endurance := 0, watchAt := 0 }

/-- A site record with its used flag clear. -/
def SiteConst.unused : SiteConst :=
  { used := false, ladder := none, strands := 1, rIntact := 0, step := 1, rOpen := 1, channel := none,
    threshold := 1, runLength := 1, critical := 1 }

/-- The constants in force until start-up ends in STANDBY, and throughout CFG_FAULT: group 0, stale_ms 1500 and lost_ms
5000 (R116, R167), idle level LOW (R21), empty tables (R65); every other constant is unused there (assumption 6). -/
def Settings.none : Settings :=
  { group := 0, programme := 0, defaultPeriod := 0, staleMs := 1500, lostMs := 5000, park := 0, loadMin := 0,
    loadMax := 0, tripMin := 0, tripMax := 0, dispMin := 0, dispMax := 0, zeroLoad := 0, gainLoad := 0, zeroDisp := 0,
    gainDisp := 0, kp := 0, ki := 0, imax := 0, umax := 0, errLimit := 0, errTicks := 0, inverted := false,
    idleHigh := false, holdRate := 0, descentRate := 0, band := 0, lockstepTimeout := 0, lockWindow := 0,
    policy1 := .note, policy2 := .note, policy3 := .note, lossPolicy := .note, dropPolicy := .note,
    segments := List.replicate 64 Segment.unused,
    scans := List.replicate 48 { channel := 0, samples := 1, link := Option.none },
    points := List.replicate 8 { fraction := Option.none, head := Option.none },
    channels := List.replicate 32 ChannelConst.unused,
    sites := List.replicate 12 SiteConst.unused }

/-- The load servo after a reset (R29), with the cutoff input at the level it has. -/
def Servo.reset (cutoff : Bool) : Servo :=
  { load := 0, disp := 0, command := 0, clampFlag := false, integ := 0, tracking := 0, buffer := .idle,
    output := .idle, enable := false, cutoff := cutoff }

/-- The sequencer after a power-on reset (R32). -/
def Sequencer.reset : Sequencer :=
  { state := .idle, index := 0, started := false, elapsed := 0, remaining := 0, base := 0, rampStart := 0,
    clean := false, complete := false, envelope := 0, softStep := none, scaleBuffer := 10000, scaleActive := 10000,
    partialCycles := 0 }

/-- The cycle clock after a reset (R50). -/
def Clock.reset : Clock :=
  { phase := 0, nominal := 0, applied := 0, trim := 0, lock := .alone, buffer := none,
    times := List.replicate 8 none, lastMark := none }

/-- The strain scanner after a reset (R65). -/
def Scanner.reset : Scanner :=
  { chains := List.replicate 8 .none, ladders := List.replicate 12 false, converter := .idle, accumulator := 0,
    overruns := List.replicate 8 0, late := 0, ladderMerges := 0, input := 0 }

/-- A channel record at a clear of the retained records (R82). -/
def Channel.cleared : Channel :=
  { lastStrain := 0, cycleMax := 0, cycleMin := 0, samples := 0, lastRange := 0, bins := List.replicate 16 0,
    damage := 0, missed := 0, overRange := 0, watch := false }

/-- The recorder after a power-on reset, and at a clear of the retained records (R82, R89, R90). -/
def Recorder.cleared : Recorder :=
  { channels := List.replicate 32 Channel.cleared, total := 0, steady := false }

/-- A site record at a clear of the retained records (R95). -/
def Site.cleared : Site :=
  { state := .intact, baseline := none, brokenMax := 0, reading := none, stamp := 0, evidence := 0, clears := 0,
    strainSeen := false, refRange := none, captureSum := 0, captureCount := 0, faultFlag := false, growth := 0,
    confirmCycle := none }

/-- The crack monitor after a power-on reset, and at a clear of the retained records (R95, R109). -/
def Cracks.cleared : Cracks :=
  { sites := List.replicate 12 Site.cleared, level := 0, sensorFault := false }

/-- No flag set. -/
def BeatFlags.clear : BeatFlags :=
  { sensorFault := false, damageWatch := false, clamped := false, barrierWait := false, complete := false,
    peerLost := false, released := false }

/-- An EMPTY peer entry (R113). -/
def Peer.empty : Peer :=
  { state := .empty, group := 0, mode := .start, previous := none, ownLevel := 0, groupLevel := 0,
    flags := BeatFlags.clear, lockCode := 0, segIndex := 0, remaining := 0, q := 0, period := 0, cycles := 0, offset := 0,
    offsetValid := false, ageUs := 0 }

/-- The peer view table after a reset (R113, R118). -/
def PeerTable.reset : PeerTable := { entries := List.replicate 16 Peer.empty, groupAlarm := 0 }

/-- The mode controller after a reset (R126). -/
def Control.reset : Control :=
  { mode := .start, qAcc := 0, accept := 0, release := none, released := false, trip := .none, refusals := 0,
    alarm := false }

/-- The line unit after a reset (R144, R147, R148, R156, R159, R160, R161). -/
def LineUnit.reset : LineUnit :=
  { line := .off, duplicate := false, bitUs := 4, assembler := .off, transmitter := .idle, held := none,
    beatSlot := none, replySlot := none, lineErrors := 0, abandons := 0, queryOverruns := 0, seenEpoch := none,
    outcome := .none, intervalUs := none, lastQ := 0, prompt := false }

/-- The start-up loader while a reset is asserted, with the tag the reset leaves (R163, R168). -/
def StartUp.reset (tag : Option (Half × Half)) : StartUp :=
  { loader := .inReset, station := 0, fault := .none, tag := tag }

/-- The node in its power-on reset, before the release, with nothing commanded. -/
def State.reset : State :=
  { servo := Servo.reset false, seq := Sequencer.reset, clock := Clock.reset, scanner := Scanner.reset,
    recorder := Recorder.cleared, cracks := Cracks.cleared, peers := PeerTable.reset, control := Control.reset,
    line := LineUnit.reset, startUp := StartUp.reset none, settings := Settings.none, now := 0, pending := [] }

end Sys2Proof.Machine
end

