-- ==== Sys2Proof/Machine/Operands.lean ====
section
/-! DEFINITION. Reading the values that reach the node: fields of byte strings (most significant byte first, section
"Arithmetic and counting conventions"), the codes of section 12.3, the plain arithmetic of R1, and the writing of fields. -/

namespace Sys2Proof.Machine

/-! ## Arithmetic of R1 -/

/-- A value clamped to `[lo, hi]`, as R1 says it. -/
def clamp (lo hi x : Int) : Int := if x < lo then lo else if hi < x then hi else x

/-- A saturating counter of largest value `top`, increased by `k`. -/
def satAdd (top n k : Nat) : Nat := if top < n + k then top else n + k

/-- Division that truncates toward zero (R1). -/
def divZ (a b : Int) : Int := Int.tdiv a b

/-! ## Reading fields -/

/-- Byte `i` of a string as a number; beyond its end 0. -/
def byteAt (l : List Byte) (i : Nat) : Nat := (l.getD i 0).toNat

/-- The number of the big-endian digits given (base 256). -/
def bigEndian : List Nat → Nat
  | []      => 0
  | d :: ds => d * 256 ^ ds.length + bigEndian ds

/-- The unsigned field of `n` bytes at offset `i`. -/
def fieldAt (l : List Byte) (i n : Nat) : Nat := bigEndian ((List.range n).map fun k => byteAt l (i + k))

/-- A number below 2^16 read as two's complement. -/
def signed16 (n : Nat) : Int := if n < 32768 then (n : Int) else (n : Int) - 65536

/-- The value of a converter code (R5, R68). -/
def codeValue (c : Half) : Int := signed16 c.toNat

/-! ## Writing fields -/

/-- `n` as `k` bytes, most significant first; the bits above are not written. -/
def bytesOf : Nat → Nat → List Byte
  | 0,     _ => []
  | k + 1, n => BitVec.ofNat 8 (n / 256 ^ k) :: bytesOf k n

/-- A signed field of 16 bits, in two's complement. -/
def signedBytes (x : Int) : List Byte := bytesOf 2 (BitVec.ofInt 16 x).toNat

/-- A flag as a byte 0 or 1. -/
def flagByte (b : Bool) : List Byte := bytesOf 1 b.toNat

/-! ## Codes of section 12.3 -/

/-- The code of a frame mode. -/
def Mode.code : Mode → Nat
  | .start => 0 | .standby => 1 | .ascent => 2 | .run => 3 | .hold => 4
  | .descent => 5 | .parked => 6 | .tripped => 7 | .cfgFault => 8

/-- The frame mode that a BEAT's mode code names; a code outside 1..8 names none (R114). -/
def Mode.ofCode : Nat → Option Mode
  | 1 => some .standby | 2 => some .ascent | 3 => some .run | 4 => some .hold
  | 5 => some .descent | 6 => some .parked | 7 => some .tripped | 8 => some .cfgFault
  | _ => none

/-- The code of a BEAT cause. -/
def Cause.code : Cause → Nat
  | .mark => 1 | .interval => 2 | .prompt => 3

/-- The cause a code names; another code is no cause of the three (R170). -/
def Cause.ofCode : Nat → Option Cause
  | 1 => some .mark | 2 => some .interval | 3 => some .prompt | _ => none

/-- The code of a lock state. -/
def Lock.code : Lock → Nat
  | .alone => 0 | .seeking => 1 | .locked => 2

/-- The code of a directive outcome. -/
def DirectiveOutcome.code : DirectiveOutcome → Nat
  | .none => 0 | .adopted => 1 | .refusedMode => 2 | .refusedProgram => 3 | .refusedAlarm => 4
  | .refusedComplete => 5 | .refusedCutoff => 6

/-- The code of a trip cause, in the fault and trip codes. -/
def TripCode.code : TripCode → Nat
  | .none => 0 | .cutoff => 1 | .overload => 2 | .dispLimit => 3 | .tracking => 4

/-- The code of a start-up fault, in the fault and trip codes. -/
def FaultCode.code : FaultCode → Nat
  | .none => 0 | .noImage => 16 | .length => 17 | .checksum => 18 | .group => 19 | .limits => 20 | .servo => 21
  | .timing => 22 | .policy => 23 | .segment => 24 | .chain => 25 | .channel => 26 | .site => 27

/-- The code DUPLICATE, held and never sent (R157). -/
def duplicateCode : Nat := 32

/-- The code of a sequencer state. -/
def SeqState.code : SeqState → Nat
  | .idle => 0 | .active => 1 | .preCycle => 2 | .barrier => 3 | .complete => 4

/-- The code of a peer entry's state. -/
def PeerState.code : PeerState → Nat
  | .empty => 0 | .fresh => 1 | .stale => 2 | .lost => 3

/-- The code of a site's state. -/
def SiteState.code : SiteState → Nat
  | .intact => 0 | .suspect => 1 | .confirmed => 2 | .critical => 3 | .sensorFault => 4

/-- The policy a code names (section 12.2). -/
def Policy.ofCode : Nat → Option Policy
  | 0 => some .note | 1 => some .hold | 2 => some .descent | _ => none

/-- NOTE, HOLD, DESCENT in that order (R140). -/
def Policy.rank : Policy → Nat
  | .note => 0 | .hold => 1 | .descent => 2

/-- The entry of a RUN directive (section 12.1). -/
inductive Entry where
  | resume | restart
deriving DecidableEq, Repr

/-- The entry a code names; any other is neither of the two (R158). -/
def Entry.ofCode : Nat → Option Entry
  | 1 => some .resume | 2 => some .restart | _ => none

/-- Whether an action code names one of the seven actions (R158). -/
def actionNamed (code : Nat) : Bool := decide (1 ≤ code ∧ code ≤ 7)

/-- Whether a record kind code names one of the seven kinds (R162). -/
def kindNamed (code : Nat) : Bool := decide (1 ≤ code ∧ code ≤ 7)

/-! ## What a directive carries, as handed on (R158) -/

/-- The scale of a directive: above 10000 it is taken as 10000. -/
def directiveScale (d : Directive) : Nat := min d.scale.toNat 10000

/-- The accept level of a directive: above 3 it is taken as 3. -/
def directiveAccept (d : Directive) : Nat := min d.accept.toNat 3

/-- Whether a station number belongs to a console (R158, R161). -/
def consoleStation (n : Nat) : Bool := decide (17 ≤ n ∧ n ≤ 30)

/-- Whether epoch `n` is newer than epoch `o` in serial order (R1). -/
def newerEpoch (n o : Half) : Bool := decide (1 ≤ (n - o).toNat ∧ (n - o).toNat ≤ 32767)

end Sys2Proof.Machine
end

