-- ==== Sys2Proof/Machine/Flags.lean ====
section
/-! DEFINITION. The packed bytes of the messages: the flags byte and the alarm-level byte of a BEAT (also returned by a
PEER reply), its cause byte, and the presence byte of a CRACK reply. Every bit the layouts do not define is written 0 (R170). -/

namespace Sys2Proof.Machine

/-- Bit `i` of a number. -/
def bitOf (n i : Nat) : Bool := decide (n / 2 ^ i % 2 = 1)

/-- A flag at bit `i`. -/
def atBit (b : Bool) (i : Nat) : Nat := b.toNat * 2 ^ i

/-- BEAT byte 3. -/
def BeatFlags.byte (f : BeatFlags) : Nat :=
  atBit f.sensorFault 0 + atBit f.damageWatch 1 + atBit f.clamped 2 + atBit f.barrierWait 3 + atBit f.complete 4
    + atBit f.peerLost 5 + atBit f.released 6

/-- The seven flags of a received byte 3; its bit 7 is ignored (R170). -/
def BeatFlags.ofByte (n : Nat) : BeatFlags :=
  { sensorFault := bitOf n 0, damageWatch := bitOf n 1, clamped := bitOf n 2, barrierWait := bitOf n 3,
    complete := bitOf n 4, peerLost := bitOf n 5, released := bitOf n 6 }

/-- BEAT byte 2: own alarm level in bits 5..4, group alarm level in bits 1..0. -/
def levelsByte (own group : Nat) : Nat := own % 4 * 16 + group % 4

/-- The own alarm level of a received byte 2. -/
def ownLevelOf (n : Nat) : Nat := n / 16 % 4

/-- The group alarm level of a received byte 2. -/
def groupLevelOf (n : Nat) : Nat := n % 4

/-- BEAT byte 4: the cause in bits 7..4, the lock state in bits 1..0. -/
def causeByte (c : Cause) (l : Lock) : Nat := c.code * 16 + l.code

/-- The cause code of a received byte 4. -/
def causeCodeOf (n : Nat) : Nat := n / 16

/-- The lock state code of a received byte 4, 3 included (R170). -/
def lockCodeOf (n : Nat) : Nat := n % 4

/-- The presence byte of a CRACK reply (section 12.1, R170). -/
def presenceByte (b0 reading isOpen refRange confirm : Bool) : Nat :=
  atBit b0 0 + atBit reading 1 + atBit isOpen 2 + atBit refRange 3 + atBit confirm 4

end Sys2Proof.Machine
end

