-- ==== Sys2Proof/Machine/Message.lean ====
section
/-! DEFINITION. Messages as bytes and as bits on the line: characters (R144), CRC and framing (R145), the checks at an
arrival (R147), and the body layouts of section 12.1 (R170). -/

namespace Sys2Proof.Machine

/-! ## Characters (R144) -/

/-- The eight data bits of a character, least significant first. -/
def dataBits (b : Byte) : List Bool := (List.range 8).map fun i => bitOf b.toNat i

/-- The parity bit, which makes the number of ones among the data bits and itself odd. -/
def parityBit (b : Byte) : Bool := (dataBits b).foldl (fun p x => p ^^ x) true

/-- The eleven bits of a character: a low start bit, the data, the parity and a high stop bit. -/
def characterBits (b : Byte) : List Bool := false :: dataBits b ++ [parityBit b, true]

/-- The bits of a message: its characters with no idle time between them (R145). -/
def wireBits (bytes : List Byte) : List Bool := bytes.flatMap characterBits

/-! ## CRC (R145) -/

/-- One step of the CRC register: shifted left, and combined with 1021 hexadecimal when the bit shifted out differs from
the message bit. -/
def crcBit (reg : Half) (b : Bool) : Half := if reg.msb = b then reg <<< 1 else (reg <<< 1) ^^^ 0x1021#16

/-- The CRC register after one byte, most significant bit first. -/
def crcByte (reg : Half) (b : Byte) : Half := (dataBits b).reverse.foldl crcBit reg

/-- The CRC of a byte string: from all ones, with no final inversion. -/
def crc (bytes : List Byte) : Half := bytes.foldl crcByte 0xFFFF#16

/-! ## Framing (section 9.2) -/

/-- The codes of the four message kinds. -/
def beatKind : Nat := 1
def directiveKind : Nat := 2
def queryKind : Nat := 3
def replyKind : Nat := 4

/-- The bytes of a message: kind, source, length and body. -/
def headed (kind source : Nat) (body : List Byte) : List Byte :=
  bytesOf 1 kind ++ bytesOf 1 source ++ bytesOf 1 body.length ++ body

/-- A message with its CRC, high byte first. -/
def framed (kind source : Nat) (body : List Byte) : List Byte :=
  headed kind source body ++ bytesOf 2 (crc (headed kind source body)).toNat

/-- The body length byte of a message. -/
def bodyLength (bytes : List Byte) : Nat := byteAt bytes 2

/-- Whether the bytes are all the characters of a message: 5 + n of them. -/
def isComplete (bytes : List Byte) : Bool := decide (3 ≤ bytes.length ∧ bytes.length = 5 + bodyLength bytes)

/-- How many characters a message in progress still expects, none until its byte 2 gives the length (R146). -/
def stillToCome (characters : List Byte) : Option Nat :=
  if 3 ≤ characters.length then some (5 + bodyLength characters - characters.length) else none

/-- Whether the characters so far begin a message that still expects more (R146, R147). -/
def expectsMore (characters : List Byte) : Bool :=
  decide (characters ≠ []) && (stillToCome characters).all fun n => decide (0 < n ∧ bodyLength characters ≤ 48)

/-- Whether the kind byte names a kind (R147). -/
def kindKnown (bytes : List Byte) : Bool := decide (1 ≤ byteAt bytes 0 ∧ byteAt bytes 0 ≤ 4)

/-- Whether the length is right for the kind: 31, 10 and 3 for BEAT, DIRECTIVE and QUERY, any for a REPLY (R147). -/
def lengthFits (bytes : List Byte) : Bool :=
  decide (byteAt bytes 0 = beatKind → bodyLength bytes = 31) && decide (byteAt bytes 0 = directiveKind → bodyLength bytes = 10)
    && decide (byteAt bytes 0 = queryKind → bodyLength bytes = 3)

/-- Whether the last two characters are the CRC of the others. -/
def crcGood (bytes : List Byte) : Bool :=
  decide (bytes.drop (3 + bodyLength bytes) = bytesOf 2 (crc (bytes.take (3 + bodyLength bytes))).toNat)

/-- Whether a message passes every check made at its arrival (R147). -/
def arrivalValid (bytes : List Byte) : Bool := kindKnown bytes && lengthFits bytes && crcGood bytes

/-- Whether a receive error is one of R147's: a length over 48, or a message of all its characters that a check fails. -/
def receiveErrorReal : ReceiveError → Bool
  | .parity         => true
  | .framing        => true
  | .tooLong n      => decide (48 < n.toNat)
  | .rejected bytes => isComplete bytes && decide (bodyLength bytes ≤ 48) && !arrivalValid bytes
  | .unfinished _   => false

/-! ## BEAT body (section 12.1) -/

/-- The 31 bytes of a BEAT's body, with its deferral. -/
def Beat.body (b : Beat) (deferral : Nat) : List Byte :=
  bytesOf 1 b.group ++ bytesOf 1 b.mode.code ++ bytesOf 1 (levelsByte b.ownLevel b.groupLevel) ++ bytesOf 1 b.flags.byte
    ++ bytesOf 1 (causeByte b.cause b.lock) ++ bytesOf 1 b.segIndex ++ bytesOf 3 b.remaining ++ bytesOf 4 b.total
    ++ bytesOf 2 b.q ++ bytesOf 3 b.period ++ bytesOf 2 deferral ++ signedBytes b.load ++ signedBytes b.command
    ++ signedBytes b.disp ++ bytesOf 2 b.epoch.toNat ++ bytesOf 1 b.outcome.code ++ bytesOf 1 b.lineErrors
    ++ bytesOf 1 b.faultCode

/-- What the peer view table and the cycle clock take from a received BEAT body. -/
structure BeatView where
  group      : Nat
  modeCode   : Nat
  ownLevel   : Nat
  groupLevel : Nat
  flags      : BeatFlags
  cause      : Option Cause
  segIndex   : Nat
  remaining  : Nat
  total      : Nat
  q          : Nat
  period     : Nat
  deferral   : Nat
  lockCode   : Nat
deriving DecidableEq, Repr

/-- A received BEAT body read by the layout, with the bits the layout does not define ignored (R170). -/
def readBeat (body : List Byte) : BeatView :=
  { group := byteAt body 0, modeCode := byteAt body 1, ownLevel := ownLevelOf (byteAt body 2),
    groupLevel := groupLevelOf (byteAt body 2), flags := BeatFlags.ofByte (byteAt body 3),
    cause := Cause.ofCode (causeCodeOf (byteAt body 4)), segIndex := byteAt body 5, remaining := fieldAt body 6 3,
    total := fieldAt body 9 4, q := fieldAt body 13 2, period := fieldAt body 15 3, deferral := fieldAt body 18 2,
    lockCode := lockCodeOf (byteAt body 4) }

/-! ## REPLY body (section 12.1) -/

/-- The body of a REPLY: kind, index, valid flag and content. -/
def Reply.body (r : Reply) : List Byte :=
  match r.content with
  | some c => [r.kind, r.index, 1#8] ++ c
  | none   => [r.kind, r.index, 0#8]

/-! ## DIRECTIVE and QUERY bodies (section 12.1) -/

/-- The directive that a source station and the ten bytes of a body give (section 12.1). -/
def readDirective (source : Byte) (body : List Byte) : Directive :=
  { source := source, mask := body.getD 0 0, epoch := BitVec.ofNat 16 (fieldAt body 1 2), entry := body.getD 4 0,
    programme := BitVec.ofNat 16 (fieldAt body 5 2), scale := BitVec.ofNat 16 (fieldAt body 7 2), accept := body.getD 9 0 }

/-- The ten bytes of a DIRECTIVE's body (section 12.1). -/
def directiveBody (action : Byte) (d : Directive) : List Byte :=
  [d.mask] ++ bytesOf 2 d.epoch.toNat ++ [action, d.entry] ++ bytesOf 2 d.programme.toNat ++ bytesOf 2 d.scale.toNat ++ [d.accept]

/-- The query that a source station and the three bytes of a body give (section 12.1). -/
def readQuery (source : Byte) (body : List Byte) : Query :=
  { source := source, target := body.getD 0 0, index := body.getD 2 0 }

/-- The three bytes of a QUERY's body (section 12.1). -/
def queryBody (kind : Byte) (q : Query) : List Byte := [q.target, kind, q.index]

/-! ## The command that an arrival is (R146, R147, section 12.3) -/

/-- The command of a DIRECTIVE by its action code; a code outside the seven names none of them (R158). -/
def directiveCommand (action : Byte) (d : Directive) (barrierFirst : Bool) : Instr :=
  match action.toNat with
  | 1 => .run d barrierFirst
  | 2 => .hold d
  | 3 => .unload d
  | 4 => .stop d
  | 5 => .resetTrip d
  | 6 => .baseline d
  | 7 => .scale d
  | _ => .directiveUnknownAction action d

/-- The command of a QUERY by its record kind code; a code outside the seven names none of them (R162). -/
def queryCommand (kind : Byte) (q : Query) : Instr :=
  match kind.toNat with
  | 1 => .channel q
  | 2 => .histLo q
  | 3 => .histHi q
  | 4 => .crack q
  | 5 => .segment q
  | 6 => .counters q
  | 7 => .peer q
  | _ => .queryUnknownKind kind q

/-- The body of a message of all its characters. -/
def bodyOf (bytes : List Byte) : List Byte := (bytes.drop 3).take (bodyLength bytes)

/-- The command that a message of all its characters is: a discard where its length or a check at its arrival fails (R147), and
otherwise what its kind, its action and its record kind name (R146). -/
def arrivalCommand (bytes : List Byte) (barrierFirst : Bool) : Instr :=
  let source := bytes.getD 1 0
  let body := bodyOf bytes
  if 48 < bodyLength bytes then .receiveDiscard (.tooLong (bytes.getD 2 0))
  else if arrivalValid bytes = false then .receiveDiscard (.rejected bytes)
  else if byteAt bytes 0 = beatKind then .beatArrival source body
  else if byteAt bytes 0 = directiveKind then directiveCommand (body.getD 3 0) (readDirective source body) barrierFirst
  else if byteAt bytes 0 = queryKind then queryCommand (body.getD 1 0) (readQuery source body)
  else .replyReceived source body

end Sys2Proof.Machine
end

