-- ==== Sys2Proof/Machine/View.lean ====
section
/-! DEFINITION. What the peer view table offers the other blocks: the counted peers (R117), the group alarm level (R118),
the peer lost indication (R121), the lockstep values (R122) and the barrier condition (R39). All are read from the entries
as they stand. -/

namespace Sys2Proof.Machine

/-- The engaged modes (R126). -/
def Mode.engaged : Mode → Bool
  | .ascent | .run | .hold | .descent | .parked => true
  | .start | .cfgFault | .standby | .tripped => false

/-- The entry of station `n`: an entry exists for 1..16 only (R114). -/
def PeerTable.entry (p : PeerTable) (n : Nat) : Peer := p.entries.getD (n - 1) Peer.empty

/-- The table with the entry of station `n` replaced. -/
def PeerTable.setEntry (p : PeerTable) (n : Nat) (e : Peer) : PeerTable := { p with entries := p.entries.set (n - 1) e }

/-- Whether a station number is a frame station's. -/
def frameStation (n : Nat) : Bool := decide (1 ≤ n ∧ n ≤ 16)

/-- R117: FRESH or STALE, of the node's own group, and that group not 0. -/
def Peer.counted (own : Nat) (e : Peer) : Bool :=
  (decide (e.state = .fresh) || decide (e.state = .stale)) && decide (e.group = own) && decide (own ≠ 0)

/-- The counted entries. -/
def PeerTable.countedPeers (p : PeerTable) (own : Nat) : List Peer := p.entries.filter (Peer.counted own)

/-- R118: the largest of the node's own level and the own levels of the counted entries. -/
def PeerTable.formAlarm (p : PeerTable) (own level : Nat) : Nat :=
  (p.countedPeers own).foldl (fun g e => max g e.ownLevel) level

/-- R121: some LOST entry of the node's group was last heard engaged. -/
def PeerTable.peerLost (p : PeerTable) (own : Nat) : Bool :=
  p.entries.any fun e => decide (e.state = .lost) && decide (e.group = own) && e.mode.engaged

/-- R122: the q an engaged entry offers. -/
def Peer.offer (e : Peer) : Nat :=
  match e.mode with
  | .run | .hold => Config.full
  | .parked      => 0
  | _            => e.q

/-- R122: the values offered by the lockstep set. -/
def PeerTable.offers (p : PeerTable) (own : Nat) : List Nat :=
  ((p.countedPeers own).filter fun e => e.mode.engaged).map Peer.offer

/-- The largest value offered, none when the lockstep set is empty. -/
def PeerTable.largestOffer (p : PeerTable) (own : Nat) : Option Nat := (p.offers own).max?

/-- The smallest value offered, none when the lockstep set is empty. -/
def PeerTable.smallestOffer (p : PeerTable) (own : Nat) : Option Nat := (p.offers own).min?

/-- Whether an entry's mode puts it into the barrier condition (R39). -/
def Peer.atWork (e : Peer) : Bool :=
  match e.mode with
  | .run | .hold | .ascent => true
  | _ => false

/-- What R39 asks of one entry: at the same barrier, or past it, or complete where the ended segment's link is END. -/
def Peer.passes (index : Nat) (link : Option Nat) (e : Peer) : Bool :=
  (decide (e.segIndex = index) && e.flags.barrierWait)
    || (match link with
        | some k => decide (e.segIndex = k)
        | none   => decide (e.segIndex = index) && e.flags.complete)

/-- The barrier condition of R39 for the segment `index` with the link given. -/
def PeerTable.barrierMet (p : PeerTable) (own index : Nat) (link : Option Nat) : Bool :=
  ((p.countedPeers own).filter Peer.atWork).all (Peer.passes index link)

end Sys2Proof.Machine
end

