-- ==== Sys2Proof/Machine/Sequence.lean ====
section
/-! DEFINITION. The segment sequencer's own work (chapter 2): reaching, starting and ending segments, the envelope, the
clean flag, and its part of a cycle mark and of a servo tick. A function that may ask the mode controller for HOLD answers
with the sequencer and the request. -/

namespace Sys2Proof.Machine

/-- Segment `k` of the table; a record that the table lacks is unused. -/
def segmentAt (t : List Segment) (k : Nat) : Segment := t.getD k Segment.unused

/-- Whether a segment is a CYCLE. -/
def Segment.isCycle (g : Segment) : Bool :=
  match g.body with
  | .cycle .. => true
  | _ => false

/-- The count of a CYCLE, 0 for any other segment (R33). -/
def Segment.count (g : Segment) : Nat :=
  match g.body with
  | .cycle _ _ _ _ n _ => n
  | _ => 0

/-- The envelope h (section 2.7). -/
def Sequencer.h (q : Sequencer) : Nat := q.envelope / Config.accUnit

/-- ACTIVE at a started CYCLE. -/
def Sequencer.atCycle (t : List Segment) (q : Sequencer) : Bool :=
  decide (q.state = .active) && q.started && (segmentAt t q.index).isCycle

/-- R33: the position moves to segment `k`, not started. -/
def Sequencer.moveTo (t : List Segment) (k : Nat) (q : Sequencer) : Sequencer :=
  { q with state := .active, index := k, started := false, elapsed := 0, remaining := (segmentAt t k).count, clean := false }

/-- The step of a soft start (R44). -/
def softStartStep (softCycles period : Nat) : Nat := max 1 (1024000000 / (softCycles * period))

/-- R44: the envelope at a CYCLE's start, by the mode at the mark. -/
def Sequencer.cycleEnvelope (m : Mode) (softCycles period : Nat) (q : Sequencer) : Sequencer :=
  match m with
  | .run | .ascent =>
    if softCycles = 0 then { q with envelope := Config.accFull, softStep := none }
    else { q with envelope := 0, softStep := some (softStartStep softCycles period) }
  | _ => { q with envelope := 0, softStep := none }

/-- R33: the segment at the position starts, `atMark` as part of a cycle mark or elsewhere. -/
def Sequencer.start (t : List Segment) (atMark : Bool) (m : Mode) (q : Sequencer) : Sequencer :=
  match (segmentAt t q.index).body with
  | .none    => q
  | .ramp .. => { q with state := .active, started := true, rampStart := q.base }
  | .dwell _ => { q with state := .active, started := true }
  | .cycle mean _ period _ _ softCycles =>
    if atMark then Sequencer.cycleEnvelope m softCycles period { q with state := .active, started := true, base := mean }
    else { q with state := .preCycle, started := false }

/-- R38 steps 2 to 4 (R41, R42): the end of the programme, a pause, or the link target; with the request for HOLD. -/
def Sequencer.passOn (t : List Segment) (atMark : Bool) (m : Mode) (q : Sequencer) : Sequencer × Bool :=
  match (segmentAt t q.index).link with
  | none   => ({ q with state := .complete, complete := true }, true)
  | some k =>
    if (segmentAt t q.index).pause then (q.moveTo t k, true) else ((q.moveTo t k).start t atMark m, false)

/-- R38 (R40 on entry to BARRIER): the segment at the position ends, with the barrier condition as it stands. -/
def Sequencer.finish (t : List Segment) (atMark : Bool) (m : Mode) (met : Bool) (q : Sequencer) : Sequencer × Bool :=
  if (segmentAt t q.index).groupAdvance && !met then ({ q with state := .barrier }, false) else q.passOn t atMark m

/-- R40: a sequencer waiting in BARRIER examines the barrier condition. -/
def Sequencer.examine (t : List Segment) (m : Mode) (met : Bool) (q : Sequencer) : Sequencer × Bool :=
  if q.state = .barrier ∧ met = true then q.passOn t false m else (q, false)

/-- R43: the step of h_acc at a servo tick. -/
def Sequencer.envelopeStep (holdRate : Nat) (m : Mode) (q : Sequencer) : Sequencer :=
  match m with
  | .run | .ascent =>
    match q.softStep with
    | some step =>
      if Config.accFull ≤ q.envelope + step then { q with envelope := Config.accFull, softStep := none }
      else { q with envelope := q.envelope + step }
    | none => { q with envelope := min Config.accFull (q.envelope + holdRate) }
  | .hold              => { q with envelope := q.envelope - holdRate }
  | .standby | .tripped => { q with envelope := 0 }
  | .descent | .parked | .start | .cfgFault => q

/-- R37: the clean flag at a servo tick, tested after the step of h. -/
def Sequencer.cleanStep (m : Mode) (fraction : Nat) (q : Sequencer) : Sequencer :=
  { q with clean := q.clean && decide (Config.full ≤ q.h) && decide (Config.full ≤ fraction) && decide (m = .run) }

/-- R34: B within a RAMP. -/
def rampBase (from_ target : Int) (elapsed durationMs : Nat) : Int :=
  from_ + divZ ((target - from_) * elapsed) (4 * durationMs)

/-- R35: segment time at a servo tick in RUN, and the end of a RAMP or DWELL whose time is up. -/
def Sequencer.timeStep (t : List Segment) (m : Mode) (met : Bool) (q : Sequencer) : Sequencer × Bool :=
  if m = .run ∧ q.state = .active ∧ q.started = true then
    match (segmentAt t q.index).body with
    | .ramp target ms =>
      let r := { q with elapsed := q.elapsed + 1, base := rampBase q.rampStart target (q.elapsed + 1) ms }
      if r.elapsed = 4 * ms then r.finish t false m met else (r, false)
    | .dwell ms =>
      let r := { q with elapsed := q.elapsed + 1 }
      if r.elapsed = 4 * ms then r.finish t false m met else (r, false)
    | _ => (q, false)
  else (q, false)

/-- The sequencer's work at a servo tick (R35, R37, R43); it takes none in START and CFG_FAULT (R32). -/
def Sequencer.tick (t : List Segment) (holdRate : Nat) (m : Mode) (fraction : Nat) (met : Bool) (q : Sequencer) :
    Sequencer × Bool :=
  match m with
  | .start | .cfgFault => (q, false)
  | _ => ((q.envelopeStep holdRate m).cleanStep m fraction).timeStep t m met

/-- R37: the count of the cycle that ends at a mark. -/
def Sequencer.countCycle (m : Mode) (q : Sequencer) : Sequencer :=
  if q.clean then { q with remaining := q.remaining - 1 }
  else if m.engaged then { q with partialCycles := satAdd 4294967295 q.partialCycles 1 }
  else q

/-- R36 step 1. -/
def Sequencer.closeCycle (t : List Segment) (m : Mode) (met : Bool) (q : Sequencer) : Sequencer × Bool :=
  if q.atCycle t then
    let r := q.countCycle m
    if r.remaining = 0 then r.finish t true m met else (r, false)
  else (q, false)

/-- R36 step 2. -/
def Sequencer.startWaiting (t : List Segment) (m : Mode) (q : Sequencer) : Sequencer :=
  if q.state = .preCycle then q.start t true m else q

/-- R36 steps 3 and 4. -/
def Sequencer.openCycle (q : Sequencer) : Sequencer := { q with clean := true, scaleActive := q.scaleBuffer }

/-- R36 steps 1 to 4: the sequencer's work at a cycle mark. -/
def Sequencer.mark (t : List Segment) (m : Mode) (met : Bool) (q : Sequencer) : Sequencer × Bool :=
  let r := q.closeCycle t m met
  ((r.1.startWaiting t m).openCycle, r.2)

/-- R36 step 5: the nominal period offered to the cycle clock. -/
def Sequencer.offeredPeriod (t : List Segment) (default : Nat) (q : Sequencer) : Nat :=
  match (segmentAt t q.index).body with
  | .cycle _ _ period _ _ _ =>
    if (q.state = .active ∧ q.started = true) ∨ q.state = .barrier then period else default
  | _ => default

/-- R45 and R48: what the sequencer does at an entry of the frame mode. -/
def Sequencer.enter (t : List Segment) (m : Mode) (q : Sequencer) : Sequencer :=
  match m with
  | .run => if q.state = .active ∧ q.started = false then q.start t false .run else q
  | .hold | .descent | .parked => { q with softStep := none }
  | .standby | .tripped => { q with softStep := none, envelope := 0 }
  | .ascent | .start | .cfgFault => q

/-- R47: the position at the adoption of a RUN with entry RESTART, B being set to the park load from STANDBY alone. -/
def Sequencer.restart (t : List Segment) (m : Mode) (park : Int) (q : Sequencer) : Sequencer :=
  let r := { q with complete := false, base := if m = Mode.standby then park else q.base }
  (r.moveTo t 0).start t false m

/-- R49: the segment index shown, 255 in IDLE. -/
def Sequencer.shownIndex (q : Sequencer) : Nat := if q.state = .idle then 255 else q.index

/-- R49: the cycles remaining shown. -/
def Sequencer.shownRemaining (q : Sequencer) : Nat := if q.state = .idle then 0 else q.remaining

end Sys2Proof.Machine
end

