-- ==== Sys2Proof/Machine/Ops.lean ====
section
/-! DEFINITION. The operations that reach several blocks: a change of the frame mode with all it does to the others (section
8.4), trips, policy responses, the group alarm level, the requests and examinations of the sequencer, and the composition of
a BEAT. Every command's meaning is built from these and from its own block's work. -/

namespace Sys2Proof.Machine

/-! ## What the blocks read of one another -/

/-- The descent fraction q (R126). -/
def State.q (s : State) : Nat := s.control.qAcc / Config.accUnit

/-- Whether the frame mode is neither START nor CFG_FAULT: the clock runs and the blocks work (R50, R58, R78). -/
def State.running (s : State) : Bool :=
  match s.control.mode with
  | .start | .cfgFault => false
  | _ => true

/-- The segment at the sequencer's position. -/
def State.segment (s : State) : Segment := segmentAt s.settings.segments s.seq.index

/-- The barrier condition for the segment at the position (R39). -/
def State.barrierMet (s : State) : Bool :=
  s.peers.barrierMet s.settings.group s.seq.index s.segment.link

/-- The policy action for a group alarm level (R140). -/
def Settings.policyFor (c : Settings) (g : Nat) : Policy :=
  match g with
  | 0 => .note
  | 1 => c.policy1
  | 2 => c.policy2
  | _ => c.policy3

/-! ## Changes of the frame mode -/

/-- The alarm output (R142). -/
def alarmPin (g : Nat) (m : Mode) : Bool := decide (2 ≤ g) || decide (m = .tripped)

/-- R127: q_acc at an entry of the frame mode. -/
def qAtEntry (m : Mode) (acc : Nat) : Nat :=
  match m with
  | .run => Config.accFull
  | .parked | .standby | .tripped => 0
  | _ => acc

/-- R131: the release timer at an entry of the frame mode. -/
def releaseAtEntry (timeout : Nat) (m : Mode) : Option Nat :=
  match m with
  | .descent | .ascent => some (timeout * 1000000)
  | _ => none

/-- The mode controller at an entry of the frame mode (R127, R131, R142). -/
def Control.enter (timeout g : Nat) (m : Mode) (c : Control) : Control :=
  { c with mode := m, qAcc := qAtEntry m c.qAcc, release := releaseAtEntry timeout m, released := false,
           alarm := alarmPin g m }

/-- The valve released (R27, R28): enable deasserted, duty buffer and PWM output idle. -/
def Servo.release (v : Servo) : Servo := { v with enable := false, buffer := .idle, output := .idle }

/-- The load servo at an entry of the frame mode (R18, R21, R22, R26, R28). -/
def Servo.enter (m : Mode) (v : Servo) : Servo :=
  match m with
  | .standby | .tripped => { v.release with integ := 0, tracking := 0 }
  | _ => v

/-- One entry of the frame mode, with what it does to the mode controller, the load servo, the sequencer and the line unit
(the table of section 8.4); it is a PROMPT cause (R156). -/
def State.enterMode (m : Mode) (s : State) : State :=
  { s with
    control := s.control.enter s.settings.lockstepTimeout s.peers.groupAlarm m
    servo := s.servo.enter m
    seq := s.seq.enter s.settings.segments m
    line := { s.line with prompt := true } }

/-- R139: TRIPPED with the trip code given; q_acc becomes 0 with the entry. -/
def State.enterTrip (code : TripCode) (s : State) : State :=
  let t := s.enterMode .tripped
  { t with control := { t.control with trip := code } }

/-- Whether the load servo reports a CUTOFF trip in a mode (R24). -/
def Mode.watchesCutoff (m : Mode) : Bool := decide (m = .standby) || m.engaged

/-- A change of the frame mode; an entry to STANDBY or to an engaged mode with the cutoff asserted passes on to TRIPPED
(R24). -/
def State.changeMode (m : Mode) (s : State) : State :=
  if s.servo.cutoff && m.watchesCutoff then (s.enterMode m).enterTrip .cutoff else s.enterMode m

/-- R139: a trip cause handed by the load servo. -/
def State.trip (code : TripCode) (s : State) : State :=
  match s.control.mode with
  | .start | .cfgFault | .tripped => s
  | _ => s.enterTrip code

/-! ## Requests and responses -/

/-- R138: the sequencer's request for HOLD, taken in RUN alone. -/
def State.holdRequest (s : State) : State := if s.control.mode = .run then s.changeMode .hold else s

/-- The sequencer's new state, and its request for HOLD where it makes one. -/
def State.withSequencer (r : Sequencer × Bool) (s : State) : State :=
  if r.2 then State.holdRequest { s with seq := r.1 } else { s with seq := r.1 }

/-- R40: the sequencer examines its barrier; it does nothing in START and CFG_FAULT (R32). -/
def State.examineBarrier (s : State) : State :=
  if s.running then s.withSequencer (s.seq.examine s.settings.segments s.control.mode s.barrierMet) else s

/-- The table of R140: what a HOLD or DESCENT action does in each mode. -/
def State.respond (a : Policy) (s : State) : State :=
  match a, s.control.mode with
  | .hold,    .run | .hold,    .ascent => s.changeMode .hold
  | .descent, .run | .descent, .ascent | .descent, .hold => s.changeMode .descent
  | _, _ => s

/-- R140: the response to a rise of G to `g`. -/
def State.riseResponse (g : Nat) (s : State) : State :=
  if s.settings.policyFor g ≠ .note ∧ s.control.accept < g then s.respond (s.settings.policyFor g) else s

/-- G takes a new value, and the mode controller re-examines the alarm output (R118, R142). -/
def State.putAlarm (g : Nat) (s : State) : State :=
  { s with peers := { s.peers with groupAlarm := g },
           control := { s.control with alarm := alarmPin g s.control.mode } }

/-- R118: the table forms G anew, and hands a changed value to the mode controller, which acts on a rise. -/
def State.formAlarm (s : State) : State :=
  let g := s.peers.formAlarm s.settings.group s.cracks.level
  if g = s.peers.groupAlarm then s
  else if s.peers.groupAlarm < g then (s.putAlarm g).riseResponse g
  else s.putAlarm g

/-! ## Composing a BEAT (R156, R157) -/

/-- The line states in which the line unit composes (R149, R156). -/
def LineState.composes : LineState → Bool
  | .active | .stuck => true
  | .off | .listenOnly => false

/-- R150: an IDLE transmitter of an ACTIVE line waits for the access gap as soon as a slot holds a message. -/
def LineUnit.wake (u : LineUnit) : LineUnit :=
  if u.line = .active ∧ u.transmitter = .idle ∧ (u.beatSlot.isSome || u.replySlot.isSome) = true then
    { u with transmitter := .waitGap }
  else u

/-- The fault/trip code of R157. -/
def State.faultTripCode (s : State) : Nat :=
  if s.control.mode = .cfgFault then s.startUp.fault.code
  else if s.line.duplicate then duplicateCode
  else s.control.trip.code

/-- The damage watch flag (R87). -/
def Recorder.damageWatch (r : Recorder) : Bool := r.channels.any Channel.watch

/-- The flags of byte 3 as they stand (R157). -/
def State.beatFlags (s : State) : BeatFlags :=
  { sensorFault := s.cracks.sensorFault, damageWatch := s.recorder.damageWatch, clamped := s.servo.clampFlag,
    barrierWait := decide (s.seq.state = .barrier), complete := s.seq.complete,
    peerLost := s.peers.peerLost s.settings.group, released := s.control.released }

/-- R157: the snapshot of a BEAT at composition. -/
def State.snapshot (cause : Cause) (s : State) : Beat :=
  { group := s.settings.group, mode := s.control.mode, ownLevel := s.cracks.level, groupLevel := s.peers.groupAlarm,
    flags := s.beatFlags, cause := cause, lock := s.clock.lock, segIndex := s.seq.shownIndex,
    remaining := s.seq.shownRemaining, total := s.recorder.total, q := s.q, period := s.clock.nominal,
    load := s.servo.load, command := s.servo.command, disp := s.servo.disp, epoch := s.line.seenEpoch.getD 0,
    outcome := s.line.outcome, lineErrors := s.line.lineErrors, faultCode := s.faultTripCode,
    markedAt := s.clock.lastMark }

/-- R156: a BEAT is composed into its slot (R149), the clamp flag is cleared (R14) and the INTERVAL timer restarts; in OFF
and LISTEN_ONLY nothing is composed. Whatever the line state, the event's PROMPT causes are spent. -/
def State.compose (cause : Cause) (s : State) : State :=
  if s.line.line.composes then
    { s with
      line := LineUnit.wake { s.line with beatSlot := some (s.snapshot cause), lastQ := s.q, intervalUs := some 0,
                                          prompt := false }
      servo := { s.servo with clampFlag := false } }
  else { s with line := { s.line with prompt := false } }

/-- The end of an event: one PROMPT beat where any PROMPT cause has arisen in it (R156). -/
def State.settle (s : State) : State := if s.line.prompt then s.compose .prompt else s

end Sys2Proof.Machine
end

