-- ==== Sys2Proof/Machine/Recorder.lean ====
section
/-! DEFINITION. The range recorder (chapter 5): crediting a result, closing the cycle, the damage sum, the watch flag, and
the "ranges closed" signal. -/

namespace Sys2Proof.Machine

/-- R83: a code reduced to microstrain, before saturation. -/
def strainOf (c : ChannelConst) (code : Int) : Int := divZ ((code - c.zero) * c.cal) 1024

/-- R83, R84: a strain credited to the open cycle of an enabled channel. -/
def Channel.credit (raw : Int) (r : Channel) : Channel :=
  let e := clamp (-32767) 32767 raw
  { r with overRange := if e = raw then r.overRange else satAdd 65535 r.overRange 1
           cycleMax := if r.samples = 0 ∨ r.cycleMax < e then e else r.cycleMax
           cycleMin := if r.samples = 0 ∨ e < r.cycleMin then e else r.cycleMin
           lastStrain := e
           samples := satAdd 65535 r.samples 1 }

/-- R83: a result taken, and discarded where the channel's enabled flag is clear. -/
def Recorder.take (consts : List ChannelConst) (channel : Nat) (code : Int) (r : Recorder) : Recorder :=
  let c := consts.getD channel ChannelConst.unused
  if c.enabled then { r with channels := r.channels.modify channel (Channel.credit (strainOf c code)) } else r

/-- R85: the range of the open cycle. -/
def Channel.range (r : Channel) : Nat := (r.cycleMax - r.cycleMin).toNat

/-- R85: the bin of a range. -/
def binOf (width range : Nat) : Nat := min 15 (range / width)

/-- R86: the damage accumulator after a range. -/
def damageAfter (endurance range damage : Nat) : Nat :=
  if endurance ≤ range then satAdd 281474976710655 damage ((range / 8) ^ 3) else damage

/-- R87: the watch flag after the accumulation. -/
def watchAfter (watchAt damage : Nat) (watch : Bool) : Bool := watch || (decide (watchAt ≠ 0) && decide (watchAt ≤ damage / 65536))

/-- R85 to R87: the close of a channel with samples. -/
def Channel.closeRange (c : ChannelConst) (r : Channel) : Channel :=
  let d := damageAfter c.endurance r.range r.damage
  { r with lastRange := r.range
           bins := r.bins.modify (binOf c.binWidth r.range) fun n => satAdd 4294967295 n 1
           damage := d
           watch := watchAfter c.watchAt d r.watch }

/-- R85, R88: an enabled channel closed or counted missed, and every sample count set to 0. -/
def Channel.close (c : ChannelConst) (r : Channel) : Channel :=
  let t := if c.enabled then
      if r.samples = 0 then { r with missed := satAdd 4294967295 r.missed 1 } else r.closeRange c
    else r
  { t with samples := 0 }

/-- R91: the range handed for a channel, absent for a missed or a disabled one. -/
def Channel.closedRange (c : ChannelConst) (r : Channel) : Option Nat :=
  if c.enabled ∧ r.samples ≠ 0 then some r.range else none

/-- What the "ranges closed" signal carries (R91). -/
structure RangesClosed where
  ranges : List (Option Nat)
  steady : Bool
  total  : Nat
deriving DecidableEq, Repr

/-- R89: the total cycle count after a mark. -/
def Recorder.nextTotal (r : Recorder) : Nat := satAdd 4294967295 r.total 1

/-- R91: the signal a mark gives. -/
def Recorder.signal (consts : List ChannelConst) (r : Recorder) : RangesClosed :=
  { ranges := List.zipWith Channel.closedRange consts r.channels, steady := r.steady, total := r.nextTotal }

/-- R85 to R90: the recorder after a mark. -/
def Recorder.mark (consts : List ChannelConst) (r : Recorder) : Recorder :=
  { channels := List.zipWith Channel.close consts r.channels, total := r.nextTotal, steady := true }

end Sys2Proof.Machine
end

