-- ==== Sys2Proof/Machine/Crack.lean ====
section
/-! DEFINITION. The crack monitor (chapter 6): the condition of a reading, the baseline, the capture of the reference
range, the evidence, the site states and the node alarm level. -/

namespace Sys2Proof.Machine

/-- The condition of a site's reading at an evaluation (R97). -/
inductive Reading where
  | none
  | isOpen
  | fresh (broken : Nat)
deriving DecidableEq, Repr

/-- R97: the broken strands of a reading below r_open. -/
def brokenOf (c : SiteConst) (r : Int) : Nat :=
  if r < c.rIntact then 0 else min c.strands ((r - c.rIntact + (c.step / 2 : Nat)).toNat / c.step)

/-- R97: the condition of a reading, from its age at the total cycle count of the signal. -/
def conditionOf (c : SiteConst) (total : Nat) (r : Site) : Reading :=
  match c.ladder, r.reading with
  | some _, some x =>
    if 4 < total - r.stamp then .none else if c.rOpen ≤ x then .isOpen else .fresh (brokenOf c x)
  | _, _ => .none

/-- R99: b0 taken where it is awaited and the reading is fresh. -/
def Site.takeBaseline (cond : Reading) (r : Site) : Site :=
  match r.baseline, cond with
  | none, .fresh broken => { r with baseline := some broken, brokenMax := broken }
  | _, _ => r

/-- The range the signal carries for a site's channel. -/
def channelRange (c : SiteConst) (sig : RangesClosed) : Option Nat := c.channel.bind fun k => (sig.ranges.getD k none)

/-- R100: a capture in progress takes the cycle's range. -/
def Site.capture (c : SiteConst) (sig : RangesClosed) (r : Site) : Site :=
  match r.refRange, channelRange c sig with
  | none, some range =>
    if r.state = .intact ∧ sig.steady = true then
      let t := { r with captureSum := r.captureSum + range, captureCount := r.captureCount + 1 }
      if t.captureCount = 16 then { t with refRange := some (t.captureSum / 16) } else t
    else r
  | _, _ => r

/-- R101: the ladder evidence, none while unavailable. -/
def Site.ladderEvidence (cond : Reading) (r : Site) : Option Bool :=
  match cond, r.baseline with
  | .fresh broken, some b0 => some (decide (b0 < broken))
  | _, _ => none

/-- R102: the strain evidence, none while unavailable. -/
def Site.strainEvidence (c : SiteConst) (sig : RangesClosed) (r : Site) : Option Bool :=
  match r.refRange, channelRange c sig with
  | some ref, some range =>
    if sig.steady then some (decide (ref * c.threshold ≤ ((range : Int) - ref).natAbs * 100)) else none
  | _, _ => none

/-- R107: whether a SUSPECT site is confirmed, by the ladder route or by the strain route. -/
def Site.confirms (c : SiteConst) (ladder strain : Option Bool) (r : Site) : Bool :=
  (decide (ladder = some true) && decide (c.runLength ≤ r.evidence) && (c.channel.isNone || r.strainSeen))
    || (decide (strain = some true) && decide (4 * c.runLength ≤ r.evidence))

/-- R107: b_max at the entry to CONFIRMED: broken on the ladder route, and on the strain route where it exceeds b_max. -/
def Site.confirmedMax (cond : Reading) (ladderRoute : Bool) (r : Site) : Nat :=
  match cond with
  | .fresh broken => if ladderRoute then broken else max r.brokenMax broken
  | _ => r.brokenMax

/-- R107: whether the ladder route holds. -/
def Site.ladderRoute (c : SiteConst) (ladder : Option Bool) (r : Site) : Bool :=
  decide (ladder = some true) && decide (c.runLength ≤ r.evidence) && (c.channel.isNone || r.strainSeen)

/-- R108: growth and the critical state in CONFIRMED or CRITICAL, with whether growth was recorded. -/
def Site.grow (c : SiteConst) (broken : Nat) (r : Site) : Site × Bool :=
  let t := if r.state = .confirmed ∧ c.critical ≤ broken then { r with state := .critical } else r
  if t.brokenMax < broken then ({ t with brokenMax := broken, growth := satAdd 65535 t.growth 1 }, true) else (t, false)

/-- R103, R108: step 5 in CONFIRMED or CRITICAL. -/
def Site.judgeConfirmed (c : SiteConst) (cond : Reading) (r : Site) : Site × Bool :=
  match cond with
  | .isOpen => ({ r with faultFlag := true }, false)
  | .fresh broken => Site.grow c broken { r with faultFlag := false }
  | .none => (r, false)

/-- R107: the confirmation tests on a SUSPECT site, with the tests of R108 after an entry to CONFIRMED. -/
def Site.confirm (c : SiteConst) (total : Nat) (cond : Reading) (ladder strain : Option Bool) (r : Site) : Site × Bool :=
  if r.confirms c ladder strain then
    Site.judgeConfirmed c cond
      { r with state := .confirmed, confirmCycle := some total, brokenMax := r.confirmedMax cond (r.ladderRoute c ladder) }
  else (r, false)

/-- R103: an open reading in INTACT or SUSPECT. -/
def Site.fail (r : Site) : Site := { r with state := .sensorFault, evidence := 0, clears := 0, strainSeen := false }

/-- R105: step 5 in INTACT, the reading not being open. -/
def Site.judgeIntact (c : SiteConst) (total : Nat) (cond : Reading) (ladder strain : Option Bool) (r : Site) : Site × Bool :=
  if ladder = some true ∨ strain = some true then
    Site.confirm c total cond ladder strain
      { r with state := .suspect, evidence := 1, clears := 0, strainSeen := decide (strain = some true) }
  else (r, false)

/-- R106: step 5 in SUSPECT, the reading not being open. -/
def Site.judgeSuspect (c : SiteConst) (total : Nat) (cond : Reading) (ladder strain : Option Bool) (r : Site) : Site × Bool :=
  if ladder = some true ∨ strain = some true then
    Site.confirm c total cond ladder strain
      { r with evidence := satAdd 65535 r.evidence 1, clears := 0, strainSeen := r.strainSeen || decide (strain = some true) }
  else if ladder.isSome || strain.isSome then
    if c.runLength ≤ satAdd 65535 r.clears 1 then
      ({ r with state := .intact, evidence := 0, clears := 0, strainSeen := false }, false)
    else ({ r with clears := satAdd 65535 r.clears 1 }, false)
  else (r, false)

/-- R103, R104: step 5 in SENSOR_FAULT. -/
def Site.judgeFault (c : SiteConst) (cond : Reading) (r : Site) : Site :=
  match cond with
  | .isOpen => { r with clears := 0 }
  | .fresh _ =>
    if c.runLength ≤ satAdd 65535 r.clears 1 then { r with state := .intact, evidence := 0, clears := 0 }
    else { r with clears := satAdd 65535 r.clears 1 }
  | .none => r

/-- R98 step 5: the change of state, by the state the site holds. -/
def Site.judge (c : SiteConst) (total : Nat) (cond : Reading) (ladder strain : Option Bool) (r : Site) : Site × Bool :=
  match r.state with
  | .intact => if cond = .isOpen then (r.fail, false) else r.judgeIntact c total cond ladder strain
  | .suspect => if cond = .isOpen then (r.fail, false) else r.judgeSuspect c total cond ladder strain
  | .sensorFault => (r.judgeFault c cond, false)
  | .confirmed | .critical => r.judgeConfirmed c cond

/-- R98: the evaluation of an active site at a "ranges closed" signal, with whether growth was recorded. -/
def Site.evaluate (c : SiteConst) (sig : RangesClosed) (r : Site) : Site × Bool :=
  let cond := conditionOf c sig.total r
  let t := (r.takeBaseline cond).capture c sig
  t.judge c sig.total cond (t.ladderEvidence cond) (t.strainEvidence c sig)

/-- R94, R98: an inactive site is not evaluated. -/
def Site.evaluateActive (c : SiteConst) (sig : RangesClosed) (r : Site) : Site × Bool :=
  if c.used then r.evaluate c sig else (r, false)

/-- R109: the alarm level of a site. -/
def SiteState.level : SiteState → Nat
  | .intact => 0
  | .suspect | .sensorFault => 1
  | .confirmed => 2
  | .critical => 3

/-- R109: the level of a site in the node alarm level, 0 where it is not active. -/
def activeLevel (c : SiteConst) (r : Site) : Nat := if c.used then r.state.level else 0

/-- R109: the node alarm level that sites give. -/
def levelOf (consts : List SiteConst) (sites : List Site) : Nat := (List.zipWith activeLevel consts sites).foldl max 0

/-- R109: the sensor fault indication that sites give. -/
def sensorFaultOf (consts : List SiteConst) (sites : List Site) : Bool :=
  (List.zipWith (fun c r => c.used && (decide (r.state = .sensorFault) || r.faultFlag)) consts sites).any id

/-- R98, R109: the crack monitor after the evaluation of every active site. -/
def Cracks.evaluate (consts : List SiteConst) (sig : RangesClosed) (k : Cracks) : Cracks :=
  let sites := List.zipWith (fun c r => (Site.evaluateActive c sig r).1) consts k.sites
  { sites := sites, level := levelOf consts sites, sensorFault := sensorFaultOf consts sites }

/-- R108: whether an evaluation records growth at any site. -/
def Cracks.grows (consts : List SiteConst) (sig : RangesClosed) (k : Cracks) : Bool :=
  (List.zipWith (fun c r => (Site.evaluateActive c sig r).2) consts k.sites).any id

/-- R109: the crack monitor with a level formed; a changed level is a PROMPT cause, and G is formed anew from it. -/
def State.putCracks (k : Cracks) (s : State) : State :=
  if k.level = s.cracks.level then { s with cracks := k }
  else State.formAlarm { s with cracks := k, line := { s.line with prompt := true } }

/-- R98: the crack monitor's work at a "ranges closed" signal, less the posting of its requests. -/
def State.evaluateSites (sig : RangesClosed) (s : State) : State :=
  let t := s.putCracks (s.cracks.evaluate s.settings.sites sig)
  if s.cracks.grows s.settings.sites sig then { t with line := { t.line with prompt := true } } else t

/-- R110: a BASELINE at a site. -/
def Site.rebase (c : SiteConst) (r : Site) : Site :=
  if c.used ∧ r.state = .intact then { r with baseline := none, refRange := none, captureSum := 0, captureCount := 0 } else r

/-- R110: a BASELINE at the crack monitor. -/
def Cracks.rebase (consts : List SiteConst) (k : Cracks) : Cracks := { k with sites := List.zipWith Site.rebase consts k.sites }

end Sys2Proof.Machine
end

