-- ==== Sys2Proof/Machine/Clock.lean ====
section
/-! DEFINITION. The cycle clock (chapter 3): the forming of a new cycle, the trim and the lock state, the scan point times,
the capture of phase offsets, and the start of the clock. -/

namespace Sys2Proof.Machine

/-- Whether a scan point fires: its fraction enabled and its head named (R62). -/
def ScanPoint.fires (p : ScanPoint) : Bool := p.fraction.isSome && p.head.isSome

/-- R63: the time of a scan point in a cycle of the applied period given. -/
def ScanPoint.time (applied : Nat) (p : ScanPoint) : Option Nat :=
  match p.fraction, p.head with
  | some f, some _ => some (f * applied / 256)
  | _, _ => none

/-- R63: the times of the eight scan points. -/
def scanTimes (points : List ScanPoint) (applied : Nat) : List (Option Nat) := points.map (ScanPoint.time applied)

/-- R54 step 2: the offsets the mark takes. -/
def PeerTable.validOffsets (p : PeerTable) : List Int := (p.entries.filter Peer.offsetValid).map Peer.offset

/-- R55: the mean of the offsets, 0 for none. -/
def meanOffset (offsets : List Int) : Int := divZ offsets.sum offsets.length

/-- R55: the trim. -/
def trimOf (nominal : Nat) (offsets : List Int) : Int :=
  clamp (-(nominal / 64 : Nat)) (nominal / 64 : Nat) (divZ (meanOffset offsets) 2)

/-- R56: the lock state. -/
def lockOf (window : Nat) (offsets : List Int) : Lock :=
  if offsets = [] then .alone else if (meanOffset offsets).natAbs ≤ window then .locked else .seeking

/-- R54: the clock's new cycle from the period offered and the offsets taken, at the instant `now`. -/
def Clock.newCycle (points : List ScanPoint) (window now period : Nat) (offsets : List Int) (c : Clock) : Clock :=
  let t := trimOf period offsets
  let applied := ((period : Int) + t).toNat
  { c with phase := 0, nominal := period, applied := applied, trim := t, lock := lockOf window offsets,
           buffer := some period, times := scanTimes points applied, lastMark := some now }

/-- R54 step 4: every offset-valid flag cleared. -/
def PeerTable.clearOffsets (p : PeerTable) : PeerTable :=
  { p with entries := p.entries.map fun e => { e with offsetValid := false } }

/-- The clock's work at a cycle mark, once the sequencer has offered its period (R53, R54). -/
def State.clockMark (s : State) : State :=
  { s with
    clock := s.clock.newCycle s.settings.points s.settings.lockWindow s.now
      (s.seq.offeredPeriod s.settings.segments s.settings.defaultPeriod) s.peers.validOffsets
    peers := s.peers.clearOffsets }

/-- R50: the start of the clock, which is not a cycle mark. -/
def Clock.started (points : List ScanPoint) (period : Nat) : Clock :=
  { phase := 0, nominal := period, applied := period, trim := 0, lock := .alone, buffer := some period,
    times := scanTimes points period, lastMark := none }

/-- T_msg of R59: the transmission time of a BEAT at the node's bit rate. -/
def beatTimeUs (bitUs : Nat) : Nat := Config.beatCharacters * Config.characterBits * bitUs

/-- R59: the phase offset of a beat taken at phase `phase` of a cycle of `applied` microseconds. -/
def phaseOffset (phase applied tMsg deferral : Nat) : Int :=
  let x := ((phase : Int) - tMsg - deferral) % applied
  if (applied / 2 : Nat) < x then x - applied else x

/-- R58: whether a beat gives a phase offset, its entry being as it now stands. -/
def State.capturesOffset (e : Peer) (v : BeatView) (s : State) : Bool :=
  s.running && decide (v.cause = some .mark) && decide (e.state = .fresh) && e.counted s.settings.group
    && decide (v.period = s.clock.nominal) && decide (v.deferral < 65535)

/-- R59, R60: an entry with the offset captured, and its flag set. -/
def Peer.withOffset (x : Int) (e : Peer) : Peer := { e with offset := x, offsetValid := true }

/-- R58 to R60: the clock examines a beat of station `n` once its entry has been updated. -/
def State.captureOffset (n : Nat) (v : BeatView) (s : State) : State :=
  if s.capturesOffset (s.peers.entry n) v then
    { s with peers := s.peers.setEntry n ((s.peers.entry n).withOffset
        (phaseOffset s.clock.phase s.clock.applied (beatTimeUs s.line.bitUs) v.deferral)) }
  else s

end Sys2Proof.Machine
end

