-- ==== Sys2Proof/Machine/Peers.lean ====
section
/-! DEFINITION. The peer view table (chapter 7): arrivals, expiries, the peer drop and peer loss events and their responses,
the duplicate station, with the commands BEAT_ARRIVAL, PEER_STALE, PEER_LOST and LOCKSTEP_RELEASE. -/

namespace Sys2Proof.Machine

/-- Whether a message can end in the assembler: it is ready for one, or the characters it holds begin it (R146). -/
def Assembler.accepts (message : List Byte) : Assembler → Bool
  | .ready => true
  | .taking characters => characters.isPrefixOf message
  | .off | .waiting => false

/-- Whether the line unit takes a message: its assembler accepts it, on a line ACTIVE or LISTEN_ONLY (R146). -/
def LineUnit.receives (message : List Byte) (u : LineUnit) : Bool :=
  (decide (u.line = .active) || decide (u.line = .listenOnly)) && u.assembler.accepts message

/-- R146: a valid message arrives: the assembler is at once ready for the next one, and the message is handed on. -/
def State.arrive (message : List Byte) (handOn : State → State) (s : State) : State :=
  if s.line.receives message then handOn { s with line := { s.line with assembler := .ready } } else s

/-- R115: an entry after a BEAT; the phase offset and its flag are not changed. -/
def Peer.arrive (m : Mode) (v : BeatView) (e : Peer) : Peer :=
  { e with previous := if e.state = .empty then none else some e.mode
           group := v.group, mode := m, ownLevel := v.ownLevel, groupLevel := v.groupLevel, flags := v.flags, lockCode := v.lockCode
           segIndex := v.segIndex, remaining := v.remaining, q := min v.q Config.full, period := v.period
           cycles := v.total, state := .fresh, ageUs := 0 }

/-- The modes of a peer that has stopped loading (R120). -/
def Mode.stopped : Mode → Bool
  | .standby | .tripped | .cfgFault => true
  | _ => false

/-- The modes a drop is from (R120). -/
def Mode.loading : Mode → Bool
  | .ascent | .run | .hold | .descent => true
  | _ => false

/-- R120: whether the BEAT just taken is a peer drop: `held` is the group the entry held before. -/
def isDrop (own held : Nat) (e : Peer) : Bool :=
  e.mode.stopped && e.previous.any Mode.loading
    && ((decide (e.group = own) && decide (own ≠ 0)) || (decide (e.group = 0) && decide (held = own)))

/-- R114, R115: the BEAT taken into the entry of station `n`. -/
def State.takeBeat (n : Nat) (m : Mode) (v : BeatView) (s : State) : State :=
  { s with peers := s.peers.setEntry n ((s.peers.entry n).arrive m v) }

/-- R115, R118, R120, R123: an arrival that R114 lets through: the entry, G, the drop, and the hand-offs to the clock and to
the sequencer. The blocks that take the hand-offs leave the same state in any order (assumption 8). -/
def State.arrival (n : Nat) (m : Mode) (v : BeatView) (s : State) : State :=
  let held := (s.peers.entry n).group
  let t := (s.takeBeat n m v).captureOffset n v
  let u := t.formAlarm
  let w := if isDrop s.settings.group held (t.peers.entry n) then u.respond u.settings.dropPolicy else u
  w.examineBarrier

/-- R155: a BEAT with the node's own number. -/
def State.duplicateStation (s : State) : State :=
  if s.line.line = .active then
    State.respond .descent
      { s with line := { s.line with line := .listenOnly, duplicate := true, held := none, beatSlot := none,
                                     replySlot := none, transmitter := .idle } }
  else s

/-- R114, R146: where a BEAT goes. -/
def State.receiveBeat (source : Nat) (body : List Byte) (s : State) : State :=
  if source = s.startUp.station then s.duplicateStation
  else
    match Mode.ofCode (readBeat body).modeCode with
    | some m =>
      if frameStation source && decide ((readBeat body).group ≤ 4) then s.arrival source m (readBeat body) else s
    | none => s

/-- BEAT_ARRIVAL (R114, R115, R123, R155). -/
def execBeatArrival (source : Byte) (body : List Byte) (s : State) : Host.Outcome State Fault Refusal :=
  .next (s.arrive (framed beatKind source.toNat body) fun t => (t.receiveBeat source.toNat body).settle)

/-- The entry of station `n` put into state `p` (R116: an expiry changes nothing else of it). -/
def State.expire (n : Nat) (p : PeerState) (s : State) : State :=
  { s with peers := s.peers.setEntry n { s.peers.entry n with state := p } }

/-- R116: whether an entry in state `p` has reached the age at which it expires; an arrival of the same instant taken first
has restarted the age, and the expiry then does not happen. -/
def Peer.expires (p : PeerState) (ms : Nat) (e : Peer) : Bool := decide (e.state = p) && decide (ms * 1000 ≤ e.ageUs)

/-- PEER_STALE (R116, R118, R123): a FRESH entry whose age has reached stale_ms becomes STALE. -/
def execPeerStale (n : Nat) (s : State) : Host.Outcome State Fault Refusal :=
  .next (if frameStation n && (s.peers.entry n).expires .fresh s.settings.staleMs then
      ((s.expire n .stale).formAlarm.examineBarrier).settle
    else s)

/-- R119: whether an entry that becomes LOST is a peer loss. -/
def isLoss (own : Nat) (e : Peer) : Bool := e.counted own && e.mode.engaged

/-- R116, R118, R119, R123: a STALE entry becomes LOST. -/
def State.losePeer (n : Nat) (s : State) : State :=
  let t := (s.expire n .lost).formAlarm
  let u := if isLoss s.settings.group (s.peers.entry n) then t.respond t.settings.lossPolicy else t
  u.examineBarrier

/-- PEER_LOST (R116, R119): a STALE entry whose age has reached lost_ms becomes LOST. -/
def execPeerLost (n : Nat) (s : State) : Host.Outcome State Fault Refusal :=
  .next (if frameStation n && (s.peers.entry n).expires .stale s.settings.lostMs then (s.losePeer n).settle else s)

/-- LOCKSTEP_RELEASE (R131): the timer, which runs in DESCENT and ASCENT alone, has run out; a change of mode of the same
instant taken first has stopped it or started it afresh, and nothing then expires. -/
def execLockstepRelease (s : State) : Host.Outcome State Fault Refusal :=
  .next (if (s.control.mode = .descent ∨ s.control.mode = .ascent) ∧ s.control.release = some 0 then
      { s with control := { s.control with released := true, release := none } }
    else s)

end Sys2Proof.Machine
end

