-- ==== Sys2Proof/Machine/Directive.lean ====
section
/-! DEFINITION. Directives: the filter and the epoch (R158, R159), the decisions of the mode controller (R132 to R137), the
recorded outcome (R160), and the commands RUN, HOLD, UNLOAD, STOP, RESET_TRIP, BASELINE, SCALE and DIRECTIVE_UNKNOWN_ACTION. -/

namespace Sys2Proof.Machine

/-! ## Filter and epoch -/

/-- Whether a group mask names the node's group; in CFG_FAULT, whose group is 0, whether it names any (R158, R170). -/
def maskNames (mask group : Nat) : Bool := if group = 0 then decide (mask % 16 ≠ 0) else bitOf (mask % 16) (group - 1)

/-- R158 steps 1 and 2: the source is a console and the mask names the node's group. -/
def State.addressed (d : Directive) (s : State) : Bool :=
  consoleStation d.source.toNat && maskNames d.mask.toNat s.settings.group

/-- An epoch recorded as the seen epoch (R159). -/
def State.seeEpoch (e : Half) (s : State) : State := { s with line := { s.line with seenEpoch := some e } }

/-- R160: an outcome recorded, which is a PROMPT cause; any but ADOPTED raises the refusal count (R132). -/
def State.record (o : DirectiveOutcome) (s : State) : State :=
  { s with
    line := { s.line with outcome := o, prompt := true }
    control := { s.control with refusals := if o = .adopted then s.control.refusals else satAdd 65535 s.control.refusals 1 } }

/-- What an adopted directive comes to: the outcome the mode controller hands back, and the state after its action. -/
abbrev Decision := DirectiveOutcome × State

/-- R132: a refusal changes no state of any block but the outcome and the refusal count. -/
def State.refuse (o : DirectiveOutcome) (s : State) : Decision := (o, s)

/-- An adopted action. -/
def State.adopt (t : State) : Decision := (.adopted, t)

/-- R132: in CFG_FAULT every action is refused with REFUSED_MODE; otherwise the action decides. -/
def State.judge (action : State → Decision) (s : State) : Decision :=
  if s.control.mode = .cfgFault then s.refuse .refusedMode else action s

/-- R132, R159, R160: an adopted directive is decided, and its outcome recorded. -/
def State.obey (action : State → Decision) (s : State) : State := (s.judge action).2.record (s.judge action).1

/-- R159: the epoch judged: the first one heard is recorded alone, a newer one adopts the directive, any other is ignored. -/
def State.judgeEpoch (e : Half) (action : State → Decision) (s : State) : State :=
  match s.line.seenEpoch with
  | none => s.seeEpoch e
  | some o => if newerEpoch e o then (s.seeEpoch e).obey action else s

/-- The bytes of a DIRECTIVE with the action code given (sections 9.2 and 12.1). -/
def directiveMessage (code : Byte) (d : Directive) : List Byte := framed directiveKind d.source.toNat (directiveBody code d)

/-- R146, R158, R159: a valid DIRECTIVE of a named action arrives. -/
def State.directive (code : Byte) (d : Directive) (action : State → Decision) (s : State) : State :=
  s.arrive (directiveMessage code d) fun t => if t.addressed d then (t.judgeEpoch d.epoch action).settle else t

/-! ## RUN (R133, R134, R47) -/

/-- R46: a scale written to the amplitude-scale buffer. -/
def State.writeScale (scale : Nat) (s : State) : State := { s with seq := { s.seq with scaleBuffer := scale } }

/-- R133, R46, R47: what an adopted RUN writes: the accept level, the scale buffer, and the position on RESTART. -/
def State.engage (d : Directive) (entry : Entry) (s : State) : State :=
  let t := s.writeScale (directiveScale d)
  { t with
    control := { t.control with accept := directiveAccept d }
    seq := match entry with
      | .resume => t.seq
      | .restart => t.seq.restart t.settings.segments t.control.mode t.settings.park }

/-- R40, R133: the mode of an adopted RUN, with the barrier examined before or after the change. -/
def State.runInto (m : Mode) (barrierFirst : Bool) (s : State) : State :=
  if barrierFirst then s.examineBarrier.changeMode m else (s.changeMode m).examineBarrier

/-- R134: the mode a RUN is adopted into, or the refusal. -/
def State.runTarget (entry : Entry) (s : State) : Mode ⊕ DirectiveOutcome :=
  match s.control.mode, entry with
  | .standby, .resume => if s.seq.state = .idle ∨ s.seq.complete = true then .inr .refusedComplete else .inl .ascent
  | .standby, .restart => .inl .ascent
  | .parked, .resume => .inl .ascent
  | .hold, _ => if Config.full ≤ s.q then .inl .run else .inl .ascent
  | _, _ => .inr .refusedMode

/-- R133 step 3: the group alarm level forbids the RUN. -/
def State.alarmForbids (accept : Nat) (s : State) : Bool :=
  decide (s.settings.policyFor s.peers.groupAlarm ≠ .note) && decide (accept < s.peers.groupAlarm)

/-- R133: the checks of a RUN in their order, and its adoption. -/
def State.decideRun (d : Directive) (entry : Entry) (barrierFirst : Bool) (s : State) : Decision :=
  if d.programme ≠ s.settings.programme then s.refuse .refusedProgram
  else if s.servo.cutoff then s.refuse .refusedCutoff
  else if s.alarmForbids (directiveAccept d) then s.refuse .refusedAlarm
  else
    match s.runTarget entry with
    | .inr o => s.refuse o
    | .inl m => ((s.engage d entry).runInto m barrierFirst).adopt

/-- RUN (R133): an entry code that names neither entry is ignored (R158). -/
def execRun (d : Directive) (barrierFirst : Bool) (s : State) : Host.Outcome State Fault Refusal :=
  .next (match Entry.ofCode d.entry.toNat with
    | some entry => s.directive 1#8 d (State.decideRun d entry barrierFirst)
    | none => s.arrive (directiveMessage 1#8 d) id)

/-! ## HOLD, UNLOAD, STOP, RESET_TRIP, BASELINE, SCALE (R135 to R137) -/

/-- R135: a HOLD is adopted in RUN and in ASCENT. -/
def State.decideHold (s : State) : Decision :=
  match s.control.mode with
  | .run | .ascent => (s.changeMode .hold).adopt
  | _ => s.refuse .refusedMode

/-- R135: an UNLOAD is adopted in RUN, ASCENT and HOLD. -/
def State.decideUnload (s : State) : Decision :=
  match s.control.mode with
  | .run | .ascent | .hold => (s.changeMode .descent).adopt
  | _ => s.refuse .refusedMode

/-- R136: a STOP is adopted in PARKED. -/
def State.decideStop (s : State) : Decision :=
  match s.control.mode with
  | .parked => (s.changeMode .standby).adopt
  | _ => s.refuse .refusedMode

/-- R136: a RESET_TRIP is adopted in TRIPPED with the cutoff not asserted. -/
def State.decideResetTrip (s : State) : Decision :=
  if s.control.mode ≠ .tripped then s.refuse .refusedMode
  else if s.servo.cutoff then s.refuse .refusedCutoff
  else (State.changeMode .standby { s with control := { s.control with trip := .none } }).adopt

/-- R110, R137: a BASELINE is adopted and handed to the crack monitor. -/
def State.decideBaseline (s : State) : Decision :=
  State.adopt { s with cracks := s.cracks.rebase s.settings.sites }

/-- R46, R137: a SCALE is adopted and written to the buffer. -/
def State.decideScale (d : Directive) (s : State) : Decision := (s.writeScale (directiveScale d)).adopt

/-- HOLD (R135). -/
def execHold (d : Directive) (s : State) : Host.Outcome State Fault Refusal :=
  .next (s.directive 2#8 d State.decideHold)

/-- UNLOAD (R135). -/
def execUnload (d : Directive) (s : State) : Host.Outcome State Fault Refusal :=
  .next (s.directive 3#8 d State.decideUnload)

/-- STOP (R136). -/
def execStop (d : Directive) (s : State) : Host.Outcome State Fault Refusal :=
  .next (s.directive 4#8 d State.decideStop)

/-- RESET_TRIP (R136). -/
def execResetTrip (d : Directive) (s : State) : Host.Outcome State Fault Refusal :=
  .next (s.directive 5#8 d State.decideResetTrip)

/-- BASELINE (R110, R137). -/
def execBaseline (d : Directive) (s : State) : Host.Outcome State Fault Refusal :=
  .next (s.directive 6#8 d State.decideBaseline)

/-- SCALE (R46, R137). -/
def execScale (d : Directive) (s : State) : Host.Outcome State Fault Refusal :=
  .next (s.directive 7#8 d (State.decideScale d))

/-- DIRECTIVE_UNKNOWN_ACTION (R158 step 3): ignored, with no epoch recorded and no state changed. -/
def execDirectiveUnknownAction (action : Byte) (d : Directive) (s : State) : Host.Outcome State Fault Refusal :=
  .next (s.arrive (directiveMessage action d) id)

end Sys2Proof.Machine
end

