-- ==== Sys2Proof/Machine/Line.lean ====
section
/-! DEFINITION. The hall line (chapter 9): the transmitter, collisions and backoff, the receive assembler's errors, the
stuck line, and the INTERVAL beat. -/

namespace Sys2Proof.Machine

/-- The character time in microseconds (R2, R144). -/
def LineUnit.characterUs (u : LineUnit) : Nat := Config.characterBits * u.bitUs

/-! ## Starting (R150) -/

/-- R149, R150: the message a start takes or sends again, with its collision count; none where there is none. -/
def LineUnit.nextHeld (u : LineUnit) : Option Held :=
  match u.held, u.beatSlot, u.replySlot with
  | some ⟨.beat _, _⟩, some b, _ => some { message := .beat b, collisions := 0 }
  | some h, _, _ => some h
  | none, some b, _ => some { message := .beat b, collisions := 0 }
  | none, none, some r => some { message := .reply r, collisions := 0 }
  | none, none, none => none

/-- R149: whether the start takes the BEAT slot. -/
def LineUnit.takesBeat (u : LineUnit) : Bool :=
  match u.held with
  | some ⟨.reply _, _⟩ => false
  | _ => u.beatSlot.isSome

/-- R149: whether the start takes the REPLY slot. -/
def LineUnit.takesReply (u : LineUnit) : Bool := u.held.isNone && u.beatSlot.isNone

/-- R61: the mark a BEAT's deferral counts from: its composing mark, or the most recent one for the other causes. -/
def State.deferralMark (b : Beat) (s : State) : Option Nat := if b.cause = .mark then b.markedAt else s.clock.lastMark

/-- R61: the deferral at the start of a transmission, saturated, and 0 before the first mark. -/
def State.deferral (b : Beat) (s : State) : Nat :=
  match s.deferralMark b with
  | some t => min 65535 (s.now - t)
  | none => 0

/-- The bytes of a message at the start of an attempt: the deferral written and the CRC computed afresh (R145, R150). -/
def State.wireOf (m : Message) (s : State) : List Byte :=
  match m with
  | .beat b => framed beatKind s.startUp.station (b.body (s.deferral b))
  | .reply r => framed replyKind s.startUp.station r.body

/-- R145, R150: SENDING begins; the assembler takes nothing (R146). -/
def State.beginSending (h : Held) (s : State) : State :=
  let wire := s.wireOf h.message
  { s with line := { s.line with
      held := some h
      beatSlot := if s.line.takesBeat then none else s.line.beatSlot
      replySlot := if s.line.takesReply then none else s.line.replySlot
      transmitter := .sending wire (wire.length * s.line.characterUs)
      assembler := .waiting } }

/-- TRANSMIT_START (R150): only from WAIT_GAP, and only while the line state is ACTIVE. -/
def execTransmitStart (s : State) : Host.Outcome State Fault Refusal :=
  .next (match s.line.line, s.line.transmitter, s.line.nextHeld with
    | .active, .waitGap, some h => s.beginSending h
    | _, _, _ => s)

/-- The transmitter without a held message: IDLE, or WAIT_GAP where a slot waits (R150, R152). -/
def LineUnit.letGo (u : LineUnit) : LineUnit := LineUnit.wake { u with held := none, transmitter := .idle }

/-- TRANSMIT_COMPLETE (R150). -/
def execTransmitComplete (s : State) : Host.Outcome State Fault Refusal :=
  .next (match s.line.transmitter with
    | .sending _ _ => { s with line := s.line.letGo }
    | _ => s)

/-! ## Collision, jam and backoff (R151, R152) -/

/-- The collision count of a held message increased (R151). -/
def Held.collide (h : Held) : Held := { h with collisions := h.collisions + 1 }

/-- COLLISION (R151): a collision shows at a bit that the transmitter released for high; a bit driven low reads low. -/
def execCollision (bit : Nat) (s : State) : Host.Outcome State Fault Refusal :=
  .next (match s.line.transmitter with
    | .sending wire _ =>
      if (wireBits wire).getD bit false then
        { s with line := { s.line with held := s.line.held.map Held.collide, transmitter := .jam s.line.characterUs } }
      else s
    | _ => s)

/-- R151: the backoff in character times. -/
def backoffCharacters (station attempt : Nat) : Nat := (station * 5 + attempt * 3) % 16 + 1

/-- The collision count of the held message. -/
def LineUnit.collisions (u : LineUnit) : Nat := (u.held.map Held.collisions).getD 0

/-- R152: the held message abandoned. -/
def LineUnit.abandon (u : LineUnit) : LineUnit := LineUnit.letGo { u with abandons := satAdd 255 u.abandons 1 }

/-- JAM_END (R151, R152). -/
def execJamEnd (s : State) : Host.Outcome State Fault Refusal :=
  .next (match s.line.transmitter with
    | .jam _ =>
      if Config.collisionLimit ≤ s.line.collisions then { s with line := s.line.abandon }
      else
        let us := backoffCharacters s.startUp.station s.line.collisions * s.line.characterUs
        { s with line := { s.line with transmitter := .backoff us } }
    | _ => s)

/-- BACKOFF_END (R151). -/
def execBackoffEnd (s : State) : Host.Outcome State Fault Refusal :=
  .next (match s.line.transmitter with
    | .backoff _ => { s with line := { s.line with transmitter := .waitGap } }
    | _ => s)

/-! ## Receiving (R146, R147) -/

/-- The characters so far of the message in progress (R146). -/
def Assembler.characters : Assembler → List Byte
  | .taking characters => characters
  | .off | .waiting | .ready => []

/-- Whether the assembler takes characters: the first of a message, or a further one of the message in progress (R146). -/
def LineUnit.assembles (u : LineUnit) : Bool :=
  (decide (u.line = .active) || decide (u.line = .listenOnly))
    && (decide (u.assembler = .ready) || decide (u.assembler.characters ≠ []))

/-- R146: further characters taken. -/
def LineUnit.takeCharacters (characters : List Byte) (u : LineUnit) : LineUnit :=
  { u with assembler := .taking (u.assembler.characters ++ characters) }

/-- R147: a message discarded, and counted. -/
def LineUnit.discard (u : LineUnit) : LineUnit := { u with lineErrors := satAdd 255 u.lineErrors 1, assembler := .waiting }

/-- R146: the characters so far of a message that still expects more stay with the assembler; others it does not take. -/
def State.takeUnfinished (characters : List Byte) (s : State) : State :=
  if s.line.assembles && expectsMore (s.line.takeCharacters characters).assembler.characters then
    { s with line := s.line.takeCharacters characters }
  else s

/-- R146, R147: whether an error can end the message in progress: a length over 48 comes at its byte 2, and the checks at an
arrival read a message that its characters begin. -/
def Assembler.canFail (a : Assembler) : ReceiveError → Bool
  | .parity | .framing => true
  | .tooLong _         => decide (a.characters.length ≤ 2)
  | .rejected bytes    => a.accepts bytes
  | .unfinished _      => false

/-- RECEIVE_DISCARD (R147): a message whose error is none of R147's is not discarded (assumption 17). -/
def execReceiveDiscard (e : ReceiveError) (s : State) : Host.Outcome State Fault Refusal :=
  .next (match e with
    | .unfinished characters => s.takeUnfinished characters
    | .parity | .framing | .tooLong _ | .rejected _ =>
      if s.line.assembles && s.line.assembler.canFail e && receiveErrorReal e then { s with line := s.line.discard } else s)

/-- RECEIVE_GAP_EXPIRY (R147): the gap discards a message that has begun and still expects characters. -/
def execReceiveGapExpiry (s : State) : Host.Outcome State Fault Refusal :=
  .next (if s.line.assembles && expectsMore s.line.assembler.characters then { s with line := s.line.discard } else s)

/-- REPLY_RECEIVED (R146): a valid REPLY is taken by no block, and the assembler is at once ready again. -/
def execReplyReceived (source : Byte) (body : List Byte) (s : State) : Host.Outcome State Fault Refusal :=
  .next (s.arrive (framed replyKind source.toNat body) id)

/-- Whether the transmitter is in SENDING or JAM, while the assembler takes nothing (R146). -/
def Transmitter.drives : Transmitter → Bool
  | .sending .. | .jam _ => true
  | .idle | .waitGap | .backoff _ => false

/-- RECEIVE_ASSEMBLER_READY (R146). -/
def execReceiveAssemblerReady (s : State) : Host.Outcome State Fault Refusal :=
  .next (if s.line.assembler = .waiting ∧ s.line.transmitter.drives = false then
      { s with line := { s.line with assembler := .ready } }
    else s)

/-! ## A stuck line (R153) -/

/-- LINE_STUCK (R153): the line is watched in ACTIVE and LISTEN_ONLY. -/
def execLineStuck (s : State) : Host.Outcome State Fault Refusal :=
  .next (match s.line.line with
    | .active | .listenOnly =>
      { s with line := { s.line with line := .stuck, held := none, transmitter := .idle, assembler := .off } }
    | _ => s)

/-- R153: the line state a stuck line leaves to. -/
def LineUnit.afterStuck (u : LineUnit) : LineState := if u.duplicate then .listenOnly else .active

/-- LINE_STUCK_RELEASE (R153): the assembler is at once ready, and a waiting slot puts the transmitter into WAIT_GAP. -/
def execLineStuckRelease (s : State) : Host.Outcome State Fault Refusal :=
  .next (if s.line.line = .stuck then
      { s with line := LineUnit.wake { s.line with line := s.line.afterStuck, assembler := .ready } }
    else s)

/-! ## The INTERVAL beat (R156) -/

/-- R156: whether 1000 ms have passed since the last composition; a composition of the same instant taken first has restarted
the timer. -/
def LineUnit.intervalOver (u : LineUnit) : Bool := u.intervalUs.any fun n => decide (Config.intervalUs ≤ n)

/-- INTERVAL_BEAT (R156): the timer, which runs where the line unit composes, has reached 1000 ms. -/
def execIntervalBeat (s : State) : Host.Outcome State Fault Refusal :=
  .next (if s.line.intervalOver then s.compose .interval else s)

end Sys2Proof.Machine
end

