-- ==== Sys2Proof/Machine/Query.lean ====
section
/-! DEFINITION. Queries and replies: the reply's composition (R161), the content of each record kind (R162, section 12.1),
and the query commands. -/

namespace Sys2Proof.Machine

/-! ## Contents (section 12.1, R170) -/

/-- CHANNEL: R92. -/
def Channel.content (r : Channel) : List Byte :=
  signedBytes r.lastStrain ++ bytesOf 2 r.lastRange ++ signedBytes r.cycleMax ++ signedBytes r.cycleMin
    ++ bytesOf 2 r.samples ++ bytesOf 4 r.missed ++ bytesOf 2 r.overRange ++ bytesOf 6 r.damage ++ flagByte r.watch

/-- HIST_LO and HIST_HI: eight bins of a channel from bin `from_` on (R92). -/
def Channel.histogram (from_ : Nat) (r : Channel) : List Byte :=
  (List.range 8).flatMap fun i => bytesOf 4 (r.bins.getD (from_ + i) 0)

/-- The reading a CRACK reply shows: none where the ladder is NONE (R170). -/
def Site.shownReading (c : SiteConst) (r : Site) : Option Int :=
  match r.reading with
  | some x => if c.ladder.isSome then some x else none
  | none => none

/-- CRACK: R111, with the presence byte that tells absence from zero (R170). -/
def Site.content (c : SiteConst) (total : Nat) (r : Site) : List Byte :=
  let shown := r.shownReading c
  let isOpen := shown.any fun x => decide (c.rOpen ≤ x)
  bytesOf 1 r.state.code
    ++ bytesOf 1 (presenceByte r.baseline.isSome shown.isSome isOpen r.refRange.isSome r.confirmCycle.isSome)
    ++ bytesOf 1 (r.baseline.getD 0) ++ bytesOf 1 r.brokenMax
    ++ bytesOf 1 (if isOpen then 0 else (shown.map (brokenOf c)).getD 0)
    ++ bytesOf 4 (if shown.isSome then total - r.stamp else 0)
    ++ bytesOf 2 r.evidence ++ bytesOf 2 r.clears ++ bytesOf 2 (r.refRange.getD 0) ++ bytesOf 1 r.captureCount
    ++ bytesOf 2 r.growth ++ bytesOf 4 (r.confirmCycle.getD 0)

/-- SEGMENT: R49, R162; a sequencer in IDLE shows index 255 and zeros (R170). -/
def Sequencer.content (q : Sequencer) : List Byte :=
  bytesOf 1 q.shownIndex ++ flagByte (decide (q.state ≠ .idle) && q.started) ++ bytesOf 1 q.state.code
    ++ bytesOf 3 q.shownRemaining ++ bytesOf 3 (if q.state = .idle then 0 else q.elapsed)

/-- COUNTERS: R162. -/
def State.counters (s : State) : List Byte :=
  bytesOf 1 s.line.abandons ++ bytesOf 1 s.line.queryOverruns ++ s.scanner.overruns.flatMap (bytesOf 2)
    ++ bytesOf 2 s.scanner.late ++ bytesOf 2 s.scanner.ladderMerges ++ bytesOf 4 s.seq.partialCycles
    ++ bytesOf 2 s.control.refusals

/-- The age of a peer entry in milliseconds, holding at 65535 (R113, R116). -/
def Peer.ageMs (e : Peer) : Nat := min Config.ageLimit (e.ageUs / 1000)

/-- PEER: R125. -/
def Peer.content (e : Peer) : List Byte :=
  bytesOf 1 e.state.code ++ bytesOf 2 e.ageMs ++ bytesOf 1 e.group ++ bytesOf 1 e.mode.code
    ++ bytesOf 1 ((e.previous.map Mode.code).getD 0) ++ bytesOf 1 (levelsByte e.ownLevel e.groupLevel)
    ++ bytesOf 1 e.flags.byte ++ bytesOf 1 e.segIndex ++ bytesOf 3 e.remaining ++ bytesOf 2 e.q ++ bytesOf 3 e.period
    ++ bytesOf 4 e.cycles ++ bytesOf 4 (BitVec.ofInt 32 e.offset).toNat ++ flagByte e.offsetValid

/-! ## Composing a REPLY (R161) -/

/-- R161: whether a query is the node's to answer: from a console, and naming the node. -/
def State.asked (q : Query) (s : State) : Bool :=
  consoleStation q.source.toNat && decide (q.target.toNat = s.startUp.station)

/-- R161: a waiting REPLY that will be replaced is counted before the new one is composed. -/
def State.countOverrun (s : State) : State :=
  if s.line.replySlot.isSome then { s with line := { s.line with queryOverruns := satAdd 255 s.line.queryOverruns 1 } } else s

/-- R149: a REPLY written to its slot. -/
def State.putReply (r : Reply) (s : State) : State := { s with line := LineUnit.wake { s.line with replySlot := some r } }

/-- R146, R161: a valid QUERY arrives; `content` gives the record as it stands, or none for an invalid one. -/
def State.query (kind : Nat) (q : Query) (content : State → Option (List Byte)) (s : State) : State :=
  s.arrive (framed queryKind q.source.toNat (queryBody (BitVec.ofNat 8 kind) q)) fun t =>
    if t.asked q && t.line.line.composes then
      t.countOverrun.putReply { kind := BitVec.ofNat 8 kind, index := q.index, content := content t.countOverrun }
    else t

/-- The element of a list that an index names, where it lies within the list. -/
def indexed {α : Type} (l : List α) (i : Nat) (f : α → List Byte) : Option (List Byte) := (l[i]?).map f

/-- CHANNEL (R92, R162). -/
def execChannel (q : Query) (s : State) : Host.Outcome State Fault Refusal :=
  .next (s.query 1 q fun t => indexed t.recorder.channels q.index.toNat Channel.content)

/-- HIST_LO (R92, R162). -/
def execHistLo (q : Query) (s : State) : Host.Outcome State Fault Refusal :=
  .next (s.query 2 q fun t => indexed t.recorder.channels q.index.toNat (Channel.histogram 0))

/-- HIST_HI (R92, R162). -/
def execHistHi (q : Query) (s : State) : Host.Outcome State Fault Refusal :=
  .next (s.query 3 q fun t => indexed t.recorder.channels q.index.toNat (Channel.histogram 8))

/-- The ladder constants of a site in CFG_FAULT: free values, since none have been taken (assumption 7). Its ladder is not
NONE, so that a kept reading is shown with its age (R111, R167). -/
def freeSite (i : Nat) : SiteConst :=
  { SiteConst.unused with
    ladder := some 0
    strands := (Config.freeConstant i 1).natAbs % 11
    rIntact := Config.freeConstant i 2
    step := (Config.freeConstant i 3).natAbs
    rOpen := Config.freeConstant i 4 }

/-- The constants a CRACK reply reads a site's reading by (R97, R111). -/
def State.shownSite (i : Nat) (s : State) : SiteConst :=
  if s.control.mode = .cfgFault then freeSite i else s.settings.sites.getD i SiteConst.unused

/-- The content of a CRACK reply for site `i` (R111). -/
def State.crackContent (i : Nat) (s : State) : Option (List Byte) :=
  indexed s.cracks.sites i (Site.content (s.shownSite i) s.recorder.total)

/-- CRACK (R111, R162). -/
def execCrack (q : Query) (s : State) : Host.Outcome State Fault Refusal :=
  .next (s.query 4 q (State.crackContent q.index.toNat))

/-- SEGMENT (R49, R162): the index is not examined. -/
def execSegment (q : Query) (s : State) : Host.Outcome State Fault Refusal :=
  .next (s.query 5 q fun t => some t.seq.content)

/-- COUNTERS (R162): the index is not examined, and the reply counts its own overrun (R161). -/
def execCounters (q : Query) (s : State) : Host.Outcome State Fault Refusal := .next (s.query 6 q fun t => some t.counters)

/-- The content of a PEER reply for station `n` (R125). -/
def State.peerContent (n : Nat) (s : State) : Option (List Byte) :=
  if frameStation n then some (s.peers.entry n).content else none

/-- PEER (R125, R162). -/
def execPeer (q : Query) (s : State) : Host.Outcome State Fault Refusal :=
  .next (s.query 7 q (State.peerContent q.index.toNat))

/-- QUERY_UNKNOWN_KIND (R162, R170): the kind is echoed, and the valid flag is clear. -/
def execQueryUnknownKind (kind : Byte) (q : Query) (s : State) : Host.Outcome State Fault Refusal :=
  .next (s.query kind.toNat q fun _ => none)

end Sys2Proof.Machine
end

