-- ==== Sys2Proof/Machine/Image.lean ====
section
/-! DEFINITION. The configuration image: the reading of its fields (section 12.2, R171), the checks of R166 in their order,
and the constants the blocks take from it. -/

namespace Sys2Proof.Machine

/-! ## Fields -/

/-- The 1986 bytes that a read of the memory gives: those that no memory drives are FF (R165). -/
def imageOf (bytes : List Byte) : List Byte := (bytes ++ List.replicate Config.imageBytes 0xFF#8).take Config.imageBytes

/-- A signed field of 16 bits. -/
def signedAt (m : List Byte) (i : Nat) : Int := signed16 (fieldAt m i 2)

/-- The number of a record reached by a link byte: 255 is END. -/
def linkOf (n : Nat) : Option Nat := if n = 255 then none else some n

/-- Offsets of the records of the four tables (section 11.3). -/
def segmentOffset (k : Nat) : Nat := 64 + 16 * k
def scanOffset (k : Nat) : Nat := 1088 + 4 * k
def channelOffset (k : Nat) : Nat := 1280 + 16 * k
def siteOffset (k : Nat) : Nat := 1792 + 16 * k

/-! ## The header checks (R166, orders 1 to 8) -/

/-- Order 1: all 64 header bytes read FF. -/
def failsNoImage (m : List Byte) : Bool := (m.take 64).all fun b => decide (b = 0xFF#8)

/-- Order 2: the image length field is not 1986. -/
def failsLength (m : List Byte) : Bool := decide (fieldAt m 0 2 ≠ Config.imageBytes)

/-- The sum of bytes 0..1983, mod 65536. -/
def imageSum (m : List Byte) : Nat := ((m.take 1984).foldl (fun n b => n + b.toNat) 0) % 65536

/-- Order 3: the sum differs from the check sum field. -/
def failsChecksum (m : List Byte) : Bool := decide (imageSum m ≠ fieldAt m 1984 2)

/-- Order 4: the group is not 1..4. -/
def failsGroup (m : List Byte) : Bool := decide (byteAt m 4 < 1 ∨ 4 < byteAt m 4)

/-- Order 5: the load limits. -/
def failsLimits (m : List Byte) : Bool :=
  decide (signedAt m 17 ≤ signedAt m 15 ∨ signedAt m 13 < signedAt m 15 ∨ signedAt m 17 < signedAt m 13
    ∨ signedAt m 15 ≤ signedAt m 19 ∨ signedAt m 21 ≤ signedAt m 17)

/-- Order 6: the servo constants. -/
def failsServo (m : List Byte) : Bool :=
  decide (fieldAt m 41 2 = 0 ∨ 2047 < fieldAt m 41 2 ∨ 4095 < fieldAt m 35 2 ∨ 4095 < fieldAt m 37 2 ∨ 2047 < fieldAt m 39 2
    ∨ byteAt m 47 < 1 ∨ 2 < byteAt m 47 ∨ byteAt m 48 < 1 ∨ 2 < byteAt m 48)

/-- Whether a number lies outside `lo..hi`. -/
def outside (lo hi n : Nat) : Bool := decide (n < lo ∨ hi < n)

/-- Order 7: the timing parameters. -/
def failsTiming (m : List Byte) : Bool :=
  outside 1 3 (byteAt m 5) || outside 100 10000 (fieldAt m 9 2) || decide (fieldAt m 11 2 ≤ fieldAt m 9 2)
    || decide (30000 < fieldAt m 11 2) || outside 20000 10000000 (fieldAt m 6 3) || outside 1 1024 (fieldAt m 49 2)
    || outside 1 1024 (fieldAt m 51 2) || outside 8 256 (fieldAt m 53 2) || outside 1 600 (fieldAt m 55 2)
    || outside 50 50000 (fieldAt m 57 2)

/-- Order 8: the policies (R140). -/
def failsPolicy (m : List Byte) : Bool :=
  decide (2 < byteAt m 59 ∨ 2 < byteAt m 60 ∨ 2 < byteAt m 61 ∨ 2 < byteAt m 62 ∨ 2 < byteAt m 63
    ∨ byteAt m 60 < byteAt m 59 ∨ byteAt m 61 < byteAt m 60)

/-! ## The table checks (R166, orders 9 to 12) -/

/-- The kind code of segment record `k`. -/
def segmentKind (m : List Byte) (k : Nat) : Nat := byteAt m (segmentOffset k)

/-- Whether a link byte is END or names a segment record that is not NONE (R30). -/
def segmentLinkGood (m : List Byte) (link : Nat) : Bool := decide (link = 255 ∨ (link < 64 ∧ segmentKind m link ≠ 0))

/-- Whether a used segment record's own fields pass (R30). -/
def segmentGood (m : List Byte) (k : Nat) : Bool :=
  let o := segmentOffset k
  match segmentKind m k with
  | 0 => decide (k ≠ 0)
  | 1 | 2 => segmentLinkGood m (byteAt m (o + 2)) && decide (fieldAt m (o + 5) 2 ≠ 0)
  | 3 => segmentLinkGood m (byteAt m (o + 2)) && decide (fieldAt m (o + 11) 3 ≠ 0) && decide (fieldAt m (o + 5) 2 ≤ 32767)
      && !outside 20000 10000000 (fieldAt m (o + 7) 3) && !outside 1 2 (byteAt m (o + 10))
  | _ => false

/-- Order 9 (R30). -/
def failsSegment (m : List Byte) : Bool := !(List.range 64).all (segmentGood m)

/-- Whether a scan record on a walk passes (R66). -/
def scanGood (m : List Byte) (r : Nat) : Bool :=
  decide (byteAt m (scanOffset r) ≤ 31) && decide (byteAt m (scanOffset r + 1) ∈ [1, 2, 4, 8])
    && decide (byteAt m (scanOffset r + 2) = 255 ∨ byteAt m (scanOffset r + 2) < 48)

/-- Whether the walk from record `r` ends within the records given: a walk of more than 48 passes some record twice (R66). -/
def walkGood (m : List Byte) : Nat → Nat → Bool
  | 0,     _ => false
  | n + 1, r => decide (r < 48) && scanGood m r
      && (decide (byteAt m (scanOffset r + 2) = 255) || walkGood m n (byteAt m (scanOffset r + 2)))

/-- The chain head field of scan point `k` (R171). -/
def headField (m : List Byte) (k : Nat) : Nat := byteAt m (scanOffset (2 * k + 1) + 3) % 64

/-- Order 10 (R66): every point whose head is not none is walked, its fraction disabled or not. -/
def failsChain (m : List Byte) : Bool :=
  (List.range 8).any fun k => decide (headField m k ≠ 63) && !walkGood m 48 (headField m k)

/-- Order 11 (R81). -/
def failsChannel (m : List Byte) : Bool :=
  (List.range 32).any fun k =>
    outside 0 1 (byteAt m (channelOffset k)) || outside 1 4096 (fieldAt m (channelOffset k + 5) 2)
      || decide (65534 < fieldAt m (channelOffset k + 7) 2)

/-- Whether a site record with its used flag set passes (R93). -/
def siteGood (m : List Byte) (o : Nat) : Bool :=
  !(decide (byteAt m (o + 1) = 255) && decide (byteAt m (o + 9) = 255))
    && decide (byteAt m (o + 1) ≤ 11 ∨ byteAt m (o + 1) = 255) && decide (byteAt m (o + 9) ≤ 31 ∨ byteAt m (o + 9) = 255)
    && !outside 1 10 (byteAt m (o + 2)) && !outside 1 32767 (fieldAt m (o + 5) 2)
    && decide (signedAt m (o + 3) < signedAt m (o + 7)) && !outside 1 100 (byteAt m (o + 10))
    && !outside 1 64 (byteAt m (o + 11)) && !outside 1 (byteAt m (o + 2)) (byteAt m (o + 12))

/-- Order 12 (R93). -/
def failsSite (m : List Byte) : Bool :=
  (List.range 12).any fun k =>
    outside 0 1 (byteAt m (siteOffset k)) || (decide (byteAt m (siteOffset k) = 1) && !siteGood m (siteOffset k))

/-- The checks of R166, in the order they are made. -/
def imageChecks (m : List Byte) : List (FaultCode × Bool) :=
  [(.noImage, failsNoImage m), (.length, failsLength m), (.checksum, failsChecksum m), (.group, failsGroup m),
   (.limits, failsLimits m), (.servo, failsServo m), (.timing, failsTiming m), (.policy, failsPolicy m),
   (.segment, failsSegment m), (.chain, failsChain m), (.channel, failsChannel m), (.site, failsSite m)]

/-- R166: the fault code of the first check that fails, none where every check passes. -/
def imageFault (m : List Byte) : Option FaultCode := ((imageChecks m).find? Prod.snd).map Prod.fst

/-! ## Taking the constants -/

/-- The shape a code names, once the check of R30 has passed. -/
def shapeOf (n : Nat) : Shape := if n = 2 then .triangle else .sine

/-- Segment record `k` (section 12.2). -/
def readSegment (m : List Byte) (k : Nat) : Segment :=
  let o := segmentOffset k
  let body : SegmentBody := match segmentKind m k with
    | 1 => .ramp (signedAt m (o + 3)) (fieldAt m (o + 5) 2)
    | 2 => .dwell (fieldAt m (o + 5) 2)
    | 3 => .cycle (signedAt m (o + 3)) (fieldAt m (o + 5) 2) (fieldAt m (o + 7) 3) (shapeOf (byteAt m (o + 10)))
        (fieldAt m (o + 11) 3) (byteAt m (o + 14))
    | _ => .none
  { body := body, groupAdvance := bitOf (byteAt m (o + 1)) 0, pause := bitOf (byteAt m (o + 1)) 1,
    link := linkOf (byteAt m (o + 2)) }

/-- Scan record `k`, from bytes 0..2 alone (R171). -/
def readScan (m : List Byte) (k : Nat) : ScanRecord :=
  { channel := byteAt m (scanOffset k), samples := byteAt m (scanOffset k + 1), link := linkOf (byteAt m (scanOffset k + 2)) }

/-- Scan point `k` (R171). -/
def readPoint (m : List Byte) (k : Nat) : ScanPoint :=
  { fraction := if bitOf (byteAt m (scanOffset (2 * k + 1) + 3)) 7 then none else some (byteAt m (scanOffset (2 * k) + 3)),
    head := if headField m k = 63 then none else some (headField m k) }

/-- Channel record `k` (section 12.2). -/
def readChannel (m : List Byte) (k : Nat) : ChannelConst :=
  let o := channelOffset k
  { enabled := decide (byteAt m o = 1), zero := signedAt m (o + 1), cal := signedAt m (o + 3),
    binWidth := fieldAt m (o + 5) 2, endurance := fieldAt m (o + 7) 2, watchAt := fieldAt m (o + 9) 4 }

/-- Site record `k` (section 12.2). -/
def readSite (m : List Byte) (k : Nat) : SiteConst :=
  let o := siteOffset k
  { used := decide (byteAt m o = 1), ladder := linkOf (byteAt m (o + 1)), strands := byteAt m (o + 2),
    rIntact := signedAt m (o + 3), step := fieldAt m (o + 5) 2, rOpen := signedAt m (o + 7),
    channel := linkOf (byteAt m (o + 9)), threshold := byteAt m (o + 10), runLength := byteAt m (o + 11),
    critical := byteAt m (o + 12) }

/-- The policy at byte `i`, once the check of R166 has passed. -/
def readPolicy (m : List Byte) (i : Nat) : Policy := (Policy.ofCode (byteAt m i)).getD .note

/-- The constants and tables of an image (R171). -/
def readSettings (m : List Byte) : Settings :=
  { group := byteAt m 4, programme := BitVec.ofNat 16 (fieldAt m 2 2), defaultPeriod := fieldAt m 6 3,
    staleMs := fieldAt m 9 2, lostMs := fieldAt m 11 2, park := signedAt m 13, loadMin := signedAt m 15,
    loadMax := signedAt m 17, tripMin := signedAt m 19, tripMax := signedAt m 21, dispMin := signedAt m 23,
    dispMax := signedAt m 25, zeroLoad := signedAt m 27, gainLoad := signedAt m 29, zeroDisp := signedAt m 31,
    gainDisp := signedAt m 33, kp := fieldAt m 35 2, ki := fieldAt m 37 2, imax := fieldAt m 39 2, umax := fieldAt m 41 2,
    errLimit := fieldAt m 43 2, errTicks := fieldAt m 45 2, inverted := decide (byteAt m 47 = 2),
    idleHigh := decide (byteAt m 48 = 2), holdRate := fieldAt m 49 2, descentRate := fieldAt m 51 2, band := fieldAt m 53 2,
    lockstepTimeout := fieldAt m 55 2, lockWindow := fieldAt m 57 2, policy1 := readPolicy m 59, policy2 := readPolicy m 60,
    policy3 := readPolicy m 61, lossPolicy := readPolicy m 62, dropPolicy := readPolicy m 63,
    segments := (List.range 64).map (readSegment m), scans := (List.range 48).map (readScan m),
    points := (List.range 8).map (readPoint m), channels := (List.range 32).map (readChannel m),
    sites := (List.range 12).map (readSite m) }

/-- The pair the retained tag is compared with: the programme id and the check sum (R168). -/
def tagOf (m : List Byte) : Half × Half := (BitVec.ofNat 16 (fieldAt m 2 2), BitVec.ofNat 16 (fieldAt m 1984 2))

/-- R144: microseconds of one bit at the rate a code names. -/
def bitUsOf (code : Nat) : Option Nat :=
  match code with
  | 1 => some 4
  | 2 => some 2
  | 3 => some 1
  | _ => none

/-- R144: the bit time the line unit takes: the image's once it has passed the checks up to CHECKSUM, if its code names one
of the three rates, and that of 250 kbit/s otherwise. -/
def lineBitUs (m : List Byte) : Nat :=
  if failsNoImage m || failsLength m || failsChecksum m then 4 else (bitUsOf (byteAt m 5)).getD 4

end Sys2Proof.Machine
end

