-- ==== Sys2Proof/Machine/Scanner.lean ====
section
/-! DEFINITION. The strain scanner (chapter 4): requests, the arbiter, chains and ladder reads, with the commands
SCAN_POINT_FIRE, RECORD_COMPLETE and LADDER_READ_COMPLETE. -/

namespace Sys2Proof.Machine

/-- The scan record `r` of the table. -/
def recordAt (c : Settings) (r : Nat) : ScanRecord := c.scans.getD r { channel := 0, samples := 1, link := none }

/-- The scan point `k` of the table. -/
def pointAt (c : Settings) (k : Nat) : ScanPoint := c.points.getD k { fraction := none, head := none }

/-- The site constants of site `i`. -/
def siteConst (c : Settings) (i : Nat) : SiteConst := c.sites.getD i SiteConst.unused

/-- The chain request of point `k` where it waits. -/
def Scanner.request (z : Scanner) (k : Nat) : ChainRequest := z.chains.getD k .none

/-- Whether a chain request is pending. -/
def ChainRequest.waits : ChainRequest → Bool
  | .none => false
  | .pending .. => true

/-- Whether point `k`'s chain is in service (R65). -/
def Scanner.serves (z : Scanner) (k : Nat) : Bool :=
  match z.converter with
  | .chain p .. => decide (p = k)
  | _ => false

/-- The carried flag of a chain request (R76). -/
def ChainRequest.isCarried : ChainRequest → Bool
  | .none => false
  | .pending carried _ => carried

/-- R73, R76: the chain of point `k` goes into service, its request keeping its flag; it is counted late where that is set. -/
def Scanner.beginChain (c : Settings) (k : Nat) (z : Scanner) : Scanner :=
  let head := (pointAt c k).head.getD 0
  { z with chains := z.chains.set k .none
           late := if (z.request k).isCarried then satAdd 65535 z.late 1 else z.late
           converter := .chain k head 0 0 (z.request k).isCarried
           input := (recordAt c head).channel }

/-- R77: the ladder read of site `i` goes into service. -/
def Scanner.beginLadder (c : Settings) (i : Nat) (z : Scanner) : Scanner :=
  { z with ladders := z.ladders.set i false
           converter := .ladder i 0 0
           input := 32 + (siteConst c i).ladder.getD 0 }

/-- The lowest-numbered place of a list at which a test holds. -/
def lowest {α : Type} (test : α → Bool) (l : List α) : Option Nat := (List.range l.length).find? fun i => (l[i]?).any test

/-- R71: the arbiter's choice when the converter becomes free. -/
def Scanner.choose (c : Settings) (z : Scanner) : Scanner :=
  match lowest ChainRequest.waits z.chains with
  | some k => z.beginChain c k
  | none =>
    match lowest id z.ladders with
    | some i => z.beginLadder c i
    | none => { z with converter := .idle }

/-- R69: a firing of point `k` merges into the request that exists. -/
def Scanner.mergeFiring (k : Nat) (z : Scanner) : Scanner := { z with overruns := z.overruns.modify k fun n => satAdd 65535 n 1 }

/-- R69, R72: the firing of scan point `k`; `atMark` where it comes with a mark the scanner has yet to take (R76). -/
def Scanner.fire (c : Settings) (k : Nat) (atMark : Bool) (z : Scanner) : Scanner :=
  if (z.request k).waits || z.serves k then z.mergeFiring k
  else
    let y := { z with chains := z.chains.set k (.pending false atMark) }
    if z.converter = .idle then y.beginChain c k else y

/-- R76: the scanner takes a cycle mark. -/
def ChainRequest.carry : ChainRequest → ChainRequest
  | .none => .none
  | .pending carried atMark => .pending (carried || !atMark) false

/-- R76: every chain request then pending is carried. -/
def Scanner.mark (z : Scanner) : Scanner := { z with chains := z.chains.map ChainRequest.carry }

/-- R70, R72: a ladder request posted for site `i`. -/
def Scanner.post (c : Settings) (z : Scanner) (i : Nat) : Scanner :=
  if z.ladders.getD i false then { z with ladderMerges := satAdd 65535 z.ladderMerges 1 }
  else
    let y := { z with ladders := z.ladders.set i true }
    if z.converter = .idle then y.beginLadder c i else y

/-- R70: the sites posted at a "ranges closed" signal: the active ones with a ladder. -/
def postedSites (c : Settings) : List Nat :=
  (List.range c.sites.length).filter fun i => (siteConst c i).used && (siteConst c i).ladder.isSome

/-- The sites posted with `first` taken before the others, where it is among them (R72: the manual gives no order). -/
def postingOrder (c : Settings) (first : Nat) : List Nat :=
  if first ∈ postedSites c then first :: (postedSites c).erase first else postedSites c

/-- R70: the crack monitor's requests. -/
def Scanner.postAll (c : Settings) (first : Nat) (z : Scanner) : Scanner := (postingOrder c first).foldl (Scanner.post c) z

/-- The samples completed of the record or read in service (R65). -/
def Converter.sample : Converter → Nat
  | .idle => 0
  | .chain _ _ n _ _ => n
  | .ladder _ n _ => n

/-- R68, R73: `k` more samples have completed, and the next begins. -/
def Converter.complete (k : Nat) : Converter → Converter
  | .idle => .idle
  | .chain p r n _ carried => .chain p r (n + k) 0 carried
  | .ladder i n _ => .ladder i (n + k) 0

/-- The accumulator with the samples of the codes added (R73, R77). -/
def Scanner.accumulate (codes : List Half) (z : Scanner) : Int := codes.foldl (fun a c => a + codeValue c) z.accumulator

/-- The averaged result, with the codes of the samples that the accumulator does not hold yet (R74, R77). -/
def Scanner.average (codes : List Half) (z : Scanner) : Int :=
  divZ (z.accumulate codes) (z.converter.sample + codes.length : Nat)

/-- R65, R73, R77: samples complete that do not end their record or read. -/
def Scanner.takeSamples (codes : List Half) (z : Scanner) : Scanner :=
  { z with accumulator := z.accumulate codes, converter := z.converter.complete codes.length }

/-- What the codes of samples do to a record or read of `n` samples (DESIGN CHOICE: assumption 10): the last of them ends it, fewer
leave it in service, and codes that it does not take, or none, do nothing. -/
def State.takeCodes (n : Nat) (codes : List Half) (ended : State → State) (s : State) : State :=
  if s.scanner.converter.sample + codes.length = n then ended s
  else if codes ≠ [] ∧ s.scanner.converter.sample + codes.length < n then { s with scanner := s.scanner.takeSamples codes }
  else s

/-- R73: after record `r` of point `k`'s chain the next record begins, or the chain ends and the arbiter chooses. -/
def Scanner.afterRecord (c : Settings) (k r : Nat) (carried : Bool) (z : Scanner) : Scanner :=
  match (recordAt c r).link with
  | some next => { z with accumulator := 0, converter := .chain k next 0 0 carried, input := (recordAt c next).channel }
  | none => Scanner.choose c { z with accumulator := 0 }

/-! ## Commands -/

/-- Whether a firing of point `k` comes with a mark that the blocks have yet to take: its fraction is 0, and the phase has
not returned to 0 (R64, R76). -/
def State.firesAtMark (k : Nat) (s : State) : Bool :=
  decide ((pointAt s.settings k).fraction = some 0) && decide (s.clock.phase ≠ 0)

/-- The firing of scan point `k` at the scanner. -/
def State.firePoint (s : State) (k : Nat) : State :=
  { s with scanner := s.scanner.fire s.settings k (s.firesAtMark k) }

/-- SCAN_POINT_FIRE (R64, R69): a point that does not fire, and any point while the clock is stopped, does nothing. -/
def execScanPointFire (k : Nat) (s : State) : Host.Outcome State Fault Refusal :=
  .next (if s.running && (pointAt s.settings k).fires then s.firePoint k else s)

/-- R74: record `r` of point `k`'s chain completes with the codes of its last samples, and its result goes to the recorder. -/
def State.endRecord (k r : Nat) (carried : Bool) (codes : List Half) (s : State) : State :=
  { s with scanner := s.scanner.afterRecord s.settings k r carried
           recorder := s.recorder.take s.settings.channels (recordAt s.settings r).channel (s.scanner.average codes) }

/-- RECORD_COMPLETE (R73, R74): the record in service completes with the codes of the samples that the accumulator does not hold
yet; where the record takes more samples than those, they are added and it goes on (assumption 10). -/
def execRecordComplete (codes : List Half) (s : State) : Host.Outcome State Fault Refusal :=
  .next (match s.scanner.converter with
    | .chain k r _ _ carried => s.takeCodes (recordAt s.settings r).samples codes (State.endRecord k r carried codes)
    | _ => s)

/-- R96: a ladder reading and its stamp handed to a site. -/
def Site.handOff (reading : Int) (stamp : Nat) (r : Site) : Site := { r with reading := some reading, stamp := stamp }

/-- R77, R96: the ladder read of site `i` completes with the codes of its last samples. -/
def State.endLadder (i : Nat) (codes : List Half) (s : State) : State :=
  let sites := s.cracks.sites.modify i (Site.handOff (s.scanner.average codes) s.recorder.total)
  { s with scanner := Scanner.choose s.settings { s.scanner with accumulator := 0 }
           cracks := { s.cracks with sites := sites } }

/-- LADDER_READ_COMPLETE (R77, R96): the read in service completes with the codes of those of its four samples that the
accumulator does not hold yet; fewer are added, and the read goes on (assumption 10). -/
def execLadderReadComplete (codes : List Half) (s : State) : Host.Outcome State Fault Refusal :=
  .next (match s.scanner.converter with
    | .ladder i _ _ => s.takeCodes Config.ladderSamples codes (State.endLadder i codes)
    | _ => s)

end Sys2Proof.Machine
end

