-- ==== Sys2Proof/Machine/Mark.lean ====
section
/-! DEFINITION. CYCLE_MARK: the mark at the sequencer and the clock, at the range recorder and the crack monitor, and at the
scanner (R52), the MARK beat (R156), and SCAN_POINT_FIRE's counterpart at the mark. -/

namespace Sys2Proof.Machine

/-- The mark at the sequencer (R36), whose request for HOLD the mode controller takes, and at the clock after it (R54). -/
def State.programmeMark (s : State) : State :=
  (s.withSequencer (s.seq.mark s.settings.segments s.control.mode s.barrierMet)).clockMark

/-- The mark at the range recorder (R85 to R91), at the crack monitor, which takes the signal it gives (R98), and the ladder
requests posted after it (R70). -/
def State.recordsMark (firstSite : Nat) (s : State) : State :=
  let sig := s.recorder.signal s.settings.channels
  let t := State.evaluateSites sig { s with recorder := s.recorder.mark s.settings.channels }
  { t with scanner := t.scanner.postAll t.settings firstSite }

/-- The mark at the scanner (R76). -/
def State.scannerMark (s : State) : State := { s with scanner := s.scanner.mark }

/-- The handling of a mark (R52, R156): the sequencer and the clock, and the recorder and the crack monitor, in either order. -/
def State.handleMark (sequencerFirst : Bool) (firstSite : Nat) (s : State) : State :=
  if sequencerFirst then (s.scannerMark.programmeMark).recordsMark firstSite
  else (s.scannerMark.recordsMark firstSite).programmeMark

/-- CYCLE_MARK (R51, R52, R156): in START and CFG_FAULT the clock gives no mark. -/
def execCycleMark (sequencerFirst : Bool) (firstSite : Nat) (s : State) : Host.Outcome State Fault Refusal :=
  .next (if s.running then (s.handleMark sequencerFirst firstSite).compose .mark else s)

end Sys2Proof.Machine
end

