-- ==== Sys2Proof/Machine/Reset.lean ====
section
/-! DEFINITION. Resets and start-up (chapter 11): the commands POWER_ON_RESET, RESET_PIN_ASSERT, RESET_RELEASE and
IMAGE_READ_COMPLETE. -/

namespace Sys2Proof.Machine

/-! ## Resets (R163) -/

/-- The state after a reset with the retained records given; the cutoff input keeps its level, the model's timebase and the
queue run on. -/
def State.afterReset (s : State) (seq : Sequencer) (recorder : Recorder) (sites : List Site) (tag : Option (Half × Half)) :
    State :=
  { State.reset with
    servo := Servo.reset s.servo.cutoff
    seq := seq
    recorder := recorder
    cracks := { sites := sites, level := 0, sensorFault := false }
    startUp := StartUp.reset tag
    now := s.now
    pending := s.pending }

/-- R32: the sequencer after a reset-pin reset: the programme position kept, the rest at its reset value. -/
def Sequencer.retained (q : Sequencer) : Sequencer :=
  { q with clean := false, envelope := 0, softStep := none, scaleBuffer := 10000, scaleActive := 10000, partialCycles := 0 }

/-- R82, R89, R90: the recorder after a reset-pin reset: the records and the total kept, each sample count 0. -/
def Recorder.retained (r : Recorder) : Recorder :=
  { r with channels := r.channels.map fun c => { c with samples := 0 }, steady := false }

/-- POWER_ON_RESET (R163): the retained records are cleared and the tag is none. -/
def execPowerOnReset (s : State) : Host.Outcome State Fault Refusal :=
  .next (s.afterReset Sequencer.reset Recorder.cleared Cracks.cleared.sites none)

/-- RESET_PIN_ASSERT (R163): the retained records and the tag are kept. -/
def execResetPinAssert (s : State) : Host.Outcome State Fault Refusal :=
  .next (s.afterReset s.seq.retained s.recorder.retained s.cracks.sites s.startUp.tag)

/-- RESET_RELEASE (R163, R164): the straps are read; a frame station goes on to the image, any other stays in START. -/
def execResetRelease (straps : BitVec 5) (s : State) : Host.Outcome State Fault Refusal :=
  .next (if s.startUp.loader = .inReset then
      let loader := if frameStation straps.toNat then Loader.reading 0 else .badStation
      { s with startUp := { s.startUp with loader := loader, station := straps.toNat } }
    else s)

/-! ## The image read (R165) -/

/-- Whether the image is being read. -/
def Loader.isReading : Loader → Bool
  | .reading _ => true
  | .inReset | .badStation | .ended => false

/-- R165: the read command 03 hexadecimal and the 24-bit address 0. -/
def spiCommand : List Byte := [0x03#8, 0x00#8, 0x00#8, 0x00#8]

/-- R165: the number of the bit on the SPI port at the `k`-th of the four parts of a microsecond, while the read runs: the 2 MHz
clock gives a bit each half microsecond. -/
def Loader.spiBit (k : Nat) : Loader → Option Nat
  | .reading us => if us < Config.imageReadUs ∧ k < 4 then some (2 * us + k / 2) else none
  | .inReset | .badStation | .ended => none

/-- R165: the SPI clock, mode 0: low at rest and in the half of a bit in which it is driven, high from the rising edge at which
the bit is taken. -/
def State.spiClock (k : Nat) (s : State) : Bool := (s.startUp.loader.spiBit k).isSome && decide (k % 2 = 1)

/-- R165: what the loader sends at that part: a bit of the command and address, most significant first (assumption 30), and
nothing once they are sent. -/
def State.spiSent (k : Nat) (s : State) : Option Bool :=
  (s.startUp.loader.spiBit k).bind fun b => (spiCommand.flatMap fun x => (dataBits x).reverse)[b]?

/-! ## The end of start-up (R144, R148, R167 to R169) -/

/-- R168: the retained decision: the records kept where the tag is the image's, and cleared otherwise. -/
def State.retain (tag : Half × Half) (s : State) : State :=
  if s.startUp.tag = some tag then s
  else { s with seq := Sequencer.reset, recorder := Recorder.cleared, cracks := Cracks.cleared
                startUp := { s.startUp with tag := some tag } }

/-- R148: the line unit when start-up ends. -/
def LineUnit.open (bitUs : Nat) (u : LineUnit) : LineUnit :=
  { u with line := .active, bitUs := bitUs, assembler := .waiting, transmitter := .idle }

/-- R167: start-up ends in CFG_FAULT, with nothing taken from the image but the bit rate. -/
def State.failStartUp (code : FaultCode) (bitUs : Nat) (s : State) : State :=
  State.changeMode .cfgFault
    { s with startUp := { s.startUp with loader := .ended, fault := code }, line := s.line.open bitUs }

/-- R50, R169: the blocks take their constants, the line becomes ACTIVE and the clock starts. -/
def State.takeSettings (c : Settings) (bitUs : Nat) (s : State) : State :=
  { s with startUp := { s.startUp with loader := .ended }, settings := c, line := s.line.open bitUs
           clock := Clock.started c.points c.defaultPeriod }

/-- The scan points of fraction 0, which fire at the start of the clock (R64, R78), with `first` taken first where it is
among them (R72: the manual gives no order). -/
def startingPoints (c : Settings) (first : Nat) : List Nat :=
  let due := (List.range c.points.length).filter fun k => (pointAt c k).fires && decide ((pointAt c k).fraction = some 0)
  if first ∈ due then first :: due.erase first else due

/-- R64, R78: the firings at the start of the clock. -/
def State.fireStarting (first : Nat) (s : State) : State := (startingPoints s.settings first).foldl State.firePoint s

/-- R109: the node alarm level and the sensor fault indication formed when start-up ends. -/
def State.formLevel (s : State) : State :=
  s.putCracks { s.cracks with level := levelOf s.settings.sites s.cracks.sites
                              sensorFault := sensorFaultOf s.settings.sites s.cracks.sites }

/-- R169: start-up ends in STANDBY, with the PROMPT beat of the change. -/
def State.reachStandby (m : List Byte) (first : Nat) (s : State) : State :=
  (((((s.retain (tagOf m)).takeSettings (readSettings m) (lineBitUs m)).fireStarting first).formLevel).enterMode .standby).settle

/-- R24: at the entry to STANDBY with the cutoff asserted the load servo reports a CUTOFF trip, an event of its own, whose
PROMPT beat takes the slot from the one of STANDBY (R149, R156, assumption 11). -/
def State.reportCutoff (s : State) : State := if s.servo.cutoff then s.trip .cutoff else s

/-- R24, R169: the end of start-up in STANDBY, and the trip that follows it with the cutoff asserted. -/
def State.endStartUp (m : List Byte) (first : Nat) (s : State) : State := (s.reachStandby m first).reportCutoff

/-- IMAGE_READ_COMPLETE (R165 to R169): the checks are made, and start-up ends in CFG_FAULT or in STANDBY. -/
def execImageReadComplete (image : List Byte) (firstPoint : Nat) (s : State) : Host.Outcome State Fault Refusal :=
  .next (if s.startUp.loader.isReading then
      let m := imageOf image
      State.settle (match imageFault m with
        | some code => s.failStartUp code (lineBitUs m)
        | none => s.endStartUp m firstPoint)
    else s)

end Sys2Proof.Machine
end

