-- ==== Sys2Proof/Machine/Wave.lean ====
section
/-! DEFINITION. The waves of the command path: SINE (R9), by a fixed-point series exact enough to round correctly at every
phase and period the node can hold (assumption 5), and TRIANGLE (R10). -/

namespace Sys2Proof.Machine

/-- The unit of the fixed-point numbers below: 2^128. -/
def waveUnit : Nat := 2 ^ 128

/-- 2π in units of 2^-128, truncated. -/
def twoPi : Nat := 2138057168129933495719360746323741566601

/-- Horner form of the sine series over x²: `terms` factors, from the one with the divisor 2k(2k+1). -/
def sineHorner (x2 : Nat) : Nat → Nat → Nat
  | 0,     _ => waveUnit
  | r + 1, k => waveUnit - x2 * sineHorner x2 r (k + 1) / waveUnit / (2 * k * (2 * k + 1))

/-- sin(2π n / d) in units of 2^-128, for n / d within 0..1/4. -/
def sineOf (n d : Nat) : Nat :=
  let x := twoPi * n / d
  x * sineHorner (x * x / waveUnit) 20 1 / waveUnit

/-- 32767 sin(2π n / d) rounded to the nearest integer, for n / d within 0..1/4. The only phases with a value exactly half
way between two integers are those of ±1/2, at n / d = 1/12, which round away from zero. -/
def quarterSine (n d : Nat) : Nat :=
  if 12 * n = d then 16384 else (2 * 32767 * sineOf n d + waveUnit) / (2 * waveUnit)

/-- R9: the SINE wave at phase `p` of a period `per`, by quarters of the cycle. -/
def sineWave (p per : Nat) : Int :=
  if 4 * p ≤ per then quarterSine (2 * p) (2 * per)
  else if 4 * p ≤ 2 * per then quarterSine (per - 2 * p) (2 * per)
  else if 4 * p ≤ 3 * per then -quarterSine (2 * p - per) (2 * per)
  else -quarterSine (2 * per - 2 * p) (2 * per)

/-- R10: the TRIANGLE wave at phase `p` of a period `per`. -/
def triangleWave (p per : Nat) : Int :=
  clamp (-32767) 32767 <|
    if p < per / 4 then divZ (131068 * p) per
    else if p < 3 * per / 4 then 32767 - divZ (131068 * (p - (per / 4 : Nat))) per
    else -32767 + divZ (131068 * (p - (3 * per / 4 : Nat))) per

/-- The wave of a shape. -/
def waveOf (shape : Shape) (p per : Nat) : Int :=
  match shape with
  | .sine => sineWave p per
  | .triangle => triangleWave p per

end Sys2Proof.Machine
end

