-- ==== Sys2Proof/Machine/Servo.lean ====
section
/-! DEFINITION. The load servo (chapter 1): the reduction of the transducers, the command path, the PI law, the PWM output
and the cutoff path, with the servo tick's work in every block that takes it and the commands CARRIER_PERIOD_START,
CUTOFF_ASSERT and CUTOFF_RELEASE. -/

namespace Sys2Proof.Machine

/-! ## Reduction (R6) -/

/-- R6: a raw code reduced by its zero and gain, truncated toward zero and saturated to 16 bits. -/
def reduceCode (raw zero gain : Int) : Int := clamp (-32768) 32767 (divZ ((raw - zero) * gain) 4096)

/-! ## The command path (R8 to R13) -/

/-- The wave and the amplitude of the segment at the position: those of a started CYCLE, or none (R8). -/
def State.waveAndAmplitude (s : State) : Int × Nat :=
  match s.segment.body with
  | .cycle _ amplitude _ shape _ _ =>
    if s.seq.state = .active ∧ s.seq.started = true then
      (waveOf shape s.clock.phase s.clock.applied, amplitude)
    else (0, 0)
  | _ => (0, 0)

/-- R11: the effective amplitude. -/
def effectiveAmplitude (amplitude scale : Nat) : Nat := amplitude * scale / 10000

/-- R11: the enveloped amplitude, one division of the three-fold product. -/
def envelopedAmplitude (amplitude h q : Nat) : Nat := amplitude * h * q / 1048576

/-- R12: the mean term. -/
def meanTerm (park base : Int) (q : Nat) : Int := park + divZ ((base - park) * q) 1024

/-- R13: the raw command. -/
def rawCommand (mean : Int) (amplitude : Nat) (wave : Int) : Int := mean + divZ (amplitude * wave) 32767

/-- R11 to R13: the raw command of this tick. -/
def State.commandRaw (s : State) : Int :=
  rawCommand (meanTerm s.settings.park s.seq.base s.q)
    (envelopedAmplitude (effectiveAmplitude s.waveAndAmplitude.2 s.seq.scaleActive) s.seq.h s.q) s.waveAndAmplitude.1

/-- R13: the command of this tick. -/
def State.commandClamped (s : State) : Int := clamp s.settings.loadMin s.settings.loadMax s.commandRaw

/-! ## The checks (R25, R26, R27) -/

/-- R26: the tracking counter after a tick with error `e`. -/
def trackingAfter (errLimit : Nat) (e : Int) (n : Nat) : Nat := if errLimit < e.natAbs then n + 1 else 0

/-- The cause of the checks that fail in a tick, the first of OVERLOAD, DISP_LIMIT and TRACKING (R25, R26, R27); `n` is the
tracking counter after the tick's count, and an err_ticks of 0 is taken as 1 (R7). -/
def failedCheck (c : Settings) (load disp : Int) (n : Nat) : Option TripCode :=
  if load < c.tripMin ∨ c.tripMax < load then some .overload
  else if disp < c.dispMin ∨ c.dispMax < disp then some .dispLimit
  else if max 1 c.errTicks ≤ n then some .tracking
  else none

/-! ## The PI law and the duty (R15 to R19) -/

/-- R15: the proportional term. -/
def proportional (kp : Nat) (e : Int) : Int := divZ (kp * e) 256

/-- R16: the integrator after a tick. -/
def integratorAfter (c : Settings) (e acc : Int) : Int :=
  let new := acc + c.ki * e
  let cand := proportional c.kp e + divZ new 256
  if c.umax < cand.natAbs ∧ ((0 < e ∧ 0 < cand) ∨ (e < 0 ∧ cand < 0)) then acc
  else clamp (-(c.imax * 256 : Nat)) (c.imax * 256 : Nat) new

/-- R17: the valve drive, with the integrator's new value. -/
def valveDrive (c : Settings) (e acc : Int) : Int :=
  clamp (-(c.umax : Int)) c.umax (proportional c.kp e + divZ acc 256)

/-- R19: the duty of a drive. -/
def dutyOf (inverted : Bool) (u : Int) : Nat := (if inverted then 2048 - u else 2048 + u).toNat

/-! ## The tick at the load servo (R3) -/

/-- The measured load and the displacement of a tick that samples the converter. -/
def State.sampled (rawLoad rawDisp : Half) (s : State) : Servo :=
  { s.servo with load := reduceCode (codeValue rawLoad) s.settings.zeroLoad s.settings.gainLoad
                 disp := reduceCode (codeValue rawDisp) s.settings.zeroDisp s.settings.gainDisp }

/-- Steps 1 to 4 of an engaged tick (R3): the samples, the command with the clamp flag (R14), and the tracking counter. -/
def State.measured (rawLoad rawDisp : Half) (s : State) : Servo :=
  let v := s.sampled rawLoad rawDisp
  let c := s.commandClamped
  { v with command := c, clampFlag := v.clampFlag || decide (c ≠ s.commandRaw),
           tracking := trackingAfter s.settings.errLimit (c - v.load) v.tracking }

/-- Steps 5 and 6 of an engaged tick in which no check fails (R16 to R19). -/
def Servo.drive (c : Settings) (v : Servo) : Servo :=
  let e := v.command - v.load
  let acc := integratorAfter c e v.integ
  { v with integ := acc, buffer := .drive (dutyOf c.inverted (valveDrive c e acc)) }

/-- The load servo's tick in an engaged mode: a failed check ends it with the valve released and the cause handed (R27). DESIGN
CHOICE (assumption 29): the mode controller takes the cause at once, so that a block which takes this tick after the load servo
takes it in TRIPPED. -/
def State.engagedTick (rawLoad rawDisp : Half) (s : State) : State :=
  let v := s.measured rawLoad rawDisp
  match failedCheck s.settings v.load v.disp v.tracking with
  | some cause => State.trip cause { s with servo := v.release }
  | none => { s with servo := v.drive s.settings }

/-- R3: the servo tick at the load servo, by the frame mode. -/
def State.loadTick (rawLoad rawDisp : Half) (s : State) : State :=
  match s.control.mode with
  | .start | .cfgFault => s
  | .standby | .tripped => { s with servo := s.sampled rawLoad rawDisp }
  | _ => s.engagedTick rawLoad rawDisp

/-! ## The tick at the mode controller (R128 to R130) -/

/-- R128: the floor of DESCENT, in units of q_acc. -/
def lockstepFloor (released : Bool) (band : Nat) (largest : Option Nat) : Nat :=
  match released, largest with
  | false, some q => (q - band) * Config.accUnit
  | _, _ => 0

/-- R128: the ceiling of ASCENT, in units of q_acc. -/
def lockstepCeiling (released : Bool) (band : Nat) (smallest : Option Nat) : Nat :=
  match released, smallest with
  | false, some q => min Config.accFull ((q + band) * Config.accUnit)
  | _, _ => Config.accFull

/-- R129: q_acc after a step of DESCENT. -/
def descentStep (rate floor acc : Nat) : Nat := min acc (max floor (acc - rate))

/-- R129: q_acc after a step of ASCENT. -/
def ascentStep (rate ceiling acc : Nat) : Nat := max acc (min ceiling (acc + rate))

/-- q_acc put. -/
def State.putQ (acc : Nat) (s : State) : State := { s with control := { s.control with qAcc := acc } }

/-- R129 and R130: the mode controller's work at a servo tick. -/
def State.fractionTick (s : State) : State :=
  match s.control.mode with
  | .descent =>
    let acc := descentStep s.settings.descentRate
      (lockstepFloor s.control.released s.settings.band (s.peers.largestOffer s.settings.group)) s.control.qAcc
    if acc < Config.accUnit then (s.putQ acc).changeMode .parked else s.putQ acc
  | .ascent =>
    let acc := ascentStep s.settings.descentRate
      (lockstepCeiling s.control.released s.settings.band (s.peers.smallestOffer s.settings.group)) s.control.qAcc
    if Config.accFull ≤ acc then (s.putQ acc).changeMode .run else s.putQ acc
  | _ => s

/-! ## The tick at the sequencer and at the range recorder -/

/-- The sequencer's work at a servo tick, and its request. -/
def State.sequenceTick (s : State) : State :=
  s.withSequencer (s.seq.tick s.settings.segments s.settings.holdRate s.control.mode s.q s.barrierMet)

/-- R90: a tick leaves the cycle steady when it is in RUN at full envelope and descent fraction at a started CYCLE. -/
def State.steadyNow (s : State) : Bool :=
  decide (s.control.mode = .run) && decide (Config.full ≤ s.seq.h) && decide (Config.full ≤ s.q)
    && s.seq.atCycle s.settings.segments

/-- R90: the steady flag at a servo tick. -/
def State.steadyTick (s : State) : State :=
  { s with recorder := { s.recorder with steady := s.recorder.steady && s.steadyNow } }

/-! ## SERVO_TICK -/

/-- The blocks that take a servo tick. -/
inductive TickBlock where
  | servo | control | sequencer | recorder
deriving DecidableEq, Repr

/-- One block's work at a servo tick. -/
def State.blockTick (rawLoad rawDisp : Half) (s : State) (b : TickBlock) : State :=
  match b with
  | .servo => s.loadTick rawLoad rawDisp
  | .control => s.fractionTick
  | .sequencer => s.sequenceTick
  | .recorder => s.steadyTick

/-- The order of number `n`: the manual gives the four blocks none (R4, R37, R90), and 0..23 number all of them. -/
def tickOrder (n : Nat) : List TickBlock :=
  let pick := fun (l : List TickBlock) (k : Nat) => l.getD (k % l.length) TickBlock.servo
  let l0 := [TickBlock.servo, .control, .sequencer, .recorder]
  let a := pick l0 n
  let l1 := l0.erase a
  let b := pick l1 (n / 4)
  let l2 := l1.erase b
  let c := pick l2 (n / 12)
  a :: b :: c :: l2.erase c

/-- R156: in DESCENT or ASCENT a tick that leaves q 32 or more away from the q last composed is a PROMPT cause. -/
def State.noteMove (s : State) : State :=
  if (s.control.mode = .descent ∨ s.control.mode = .ascent) ∧ (s.q + 32 ≤ s.line.lastQ ∨ s.line.lastQ + 32 ≤ s.q) then
    { s with line := { s.line with prompt := true } }
  else s

/-- The four blocks' work at a tick, in the order given. -/
def State.allBlocks (order : List TickBlock) (rawLoad rawDisp : Half) (s : State) : State :=
  order.foldl (State.blockTick rawLoad rawDisp) s

/-- SERVO_TICK (R3, R4). -/
def execServoTick (order : Nat) (rawLoad rawDisp : Half) (s : State) : Host.Outcome State Fault Refusal :=
  .next ((s.allBlocks (tickOrder order) rawLoad rawDisp).noteMove.settle)

/-! ## CARRIER_PERIOD_START (R20, R22) -/

/-- The PWM generator takes the buffer's content, and the enable is asserted with the first duty taken. -/
def Servo.carrier (v : Servo) : Servo :=
  match v.buffer with
  | .idle    => { v with output := .idle }
  | .drive d => { v with output := .drive d, enable := true }

/-- CARRIER_PERIOD_START (R20, R22). -/
def execCarrierPeriodStart (s : State) : Host.Outcome State Fault Refusal := .next { s with servo := s.servo.carrier }

/-! ## The cutoff path (R23, R24) -/

/-- CUTOFF_ASSERT: the gate closes at once, and a CUTOFF trip is reported in STANDBY or an engaged mode (R23, R24). -/
def execCutoffAssert (s : State) : Host.Outcome State Fault Refusal :=
  .next (State.settle
    (let t := { s with servo := { s.servo with cutoff := true } }
     if s.control.mode.watchesCutoff then t.trip .cutoff else t))

/-- CUTOFF_RELEASE: the gate opens, and nothing else happens (R24). -/
def execCutoffRelease (s : State) : Host.Outcome State Fault Refusal :=
  .next { s with servo := { s.servo with cutoff := false } }

/-! ## The valve pins (R20, R21, R23) -/

/-- The valve enable pin: the load servo's enable through the cutoff gate. -/
def State.enablePin (s : State) : Bool := s.servo.enable && !s.servo.cutoff

/-- What the valve PWM pin is driven with: the output through the cutoff gate. -/
def State.pwmDuty (s : State) : Duty := if s.servo.cutoff then .idle else s.servo.output

/-- The level of the valve PWM pin at the `k`-th of the 4096 parts of a carrier period (R20, R21). -/
def State.pwmLevel (s : State) (k : Nat) : Bool :=
  match s.pwmDuty with
  | .idle    => s.settings.idleHigh
  | .drive d => decide (k < d)

end Sys2Proof.Machine
end

