-- ==== Sys2Proof/Machine/Dispatch.lean ====
section
/-! DEFINITION. The dispatch: one arm for each command, each a direct call of its meaning. -/

namespace Sys2Proof.Machine

def exec (i : Instr) (s : State) : Host.Outcome State Fault Refusal :=
  match i with
  | .powerOnReset => Sys2Proof.Machine.execPowerOnReset s
  | .resetPinAssert => Sys2Proof.Machine.execResetPinAssert s
  | .resetRelease straps => Sys2Proof.Machine.execResetRelease straps s
  | .imageReadComplete image firstPoint => Sys2Proof.Machine.execImageReadComplete image firstPoint s
  | .servoTick order rawLoad rawDisp => Sys2Proof.Machine.execServoTick order rawLoad rawDisp s
  | .carrierPeriodStart => Sys2Proof.Machine.execCarrierPeriodStart s
  | .cutoffAssert => Sys2Proof.Machine.execCutoffAssert s
  | .cutoffRelease => Sys2Proof.Machine.execCutoffRelease s
  | .cycleMark sequencerFirst firstSite => Sys2Proof.Machine.execCycleMark sequencerFirst firstSite s
  | .scanPointFire point => Sys2Proof.Machine.execScanPointFire point s
  | .recordComplete codes => Sys2Proof.Machine.execRecordComplete codes s
  | .ladderReadComplete codes => Sys2Proof.Machine.execLadderReadComplete codes s
  | .beatArrival source body => Sys2Proof.Machine.execBeatArrival source body s
  | .replyReceived source body => Sys2Proof.Machine.execReplyReceived source body s
  | .receiveDiscard error => Sys2Proof.Machine.execReceiveDiscard error s
  | .receiveGapExpiry => Sys2Proof.Machine.execReceiveGapExpiry s
  | .peerStale station => Sys2Proof.Machine.execPeerStale station s
  | .peerLost station => Sys2Proof.Machine.execPeerLost station s
  | .lockstepRelease => Sys2Proof.Machine.execLockstepRelease s
  | .intervalBeat => Sys2Proof.Machine.execIntervalBeat s
  | .run d barrierFirst => Sys2Proof.Machine.execRun d barrierFirst s
  | .hold d => Sys2Proof.Machine.execHold d s
  | .unload d => Sys2Proof.Machine.execUnload d s
  | .stop d => Sys2Proof.Machine.execStop d s
  | .resetTrip d => Sys2Proof.Machine.execResetTrip d s
  | .baseline d => Sys2Proof.Machine.execBaseline d s
  | .scale d => Sys2Proof.Machine.execScale d s
  | .channel q => Sys2Proof.Machine.execChannel q s
  | .histLo q => Sys2Proof.Machine.execHistLo q s
  | .histHi q => Sys2Proof.Machine.execHistHi q s
  | .crack q => Sys2Proof.Machine.execCrack q s
  | .segment q => Sys2Proof.Machine.execSegment q s
  | .counters q => Sys2Proof.Machine.execCounters q s
  | .peer q => Sys2Proof.Machine.execPeer q s
  | .queryUnknownKind kind q => Sys2Proof.Machine.execQueryUnknownKind kind q s
  | .transmitStart => Sys2Proof.Machine.execTransmitStart s
  | .transmitComplete => Sys2Proof.Machine.execTransmitComplete s
  | .collision bit => Sys2Proof.Machine.execCollision bit s
  | .jamEnd => Sys2Proof.Machine.execJamEnd s
  | .backoffEnd => Sys2Proof.Machine.execBackoffEnd s
  | .lineStuck => Sys2Proof.Machine.execLineStuck s
  | .lineStuckRelease => Sys2Proof.Machine.execLineStuckRelease s
  | .receiveAssemblerReady => Sys2Proof.Machine.execReceiveAssemblerReady s
  | .directiveUnknownAction action d => Sys2Proof.Machine.execDirectiveUnknownAction action d s

end Sys2Proof.Machine
end

