-- ==== Sys2Proof/Machine/Time.lean ====
section
/-! DEFINITION. The passing of one microsecond, which is what the node does while no command waits (assumption 2): the phase
(R51), the ages of the peer entries (R116), the release timer (R131), the INTERVAL timer (R156), the timed states of the
transmitter (R145, R151), the converter's time and the image read (R165) advance, and the commands that fall due by them join
the queue. -/

namespace Sys2Proof.Machine

/-! ## What advances -/

/-- R51: an advance of the phase counter; at the last phase of the cycle it stands until the mark is taken. -/
def Clock.advance (c : Clock) : Clock := if c.phase + 1 < c.applied then { c with phase := c.phase + 1 } else c

/-- R116: the age of an entry that is not EMPTY, holding at 65535 ms. -/
def Peer.advance (e : Peer) : Peer :=
  if e.state = .empty then e else { e with ageUs := min (Config.ageLimit * 1000) (e.ageUs + 1) }

/-- R131: the release timer. -/
def Control.advance (c : Control) : Control := { c with release := c.release.map fun n => n - 1 }

/-- The timed states of the transmitter. -/
def Transmitter.advance : Transmitter → Transmitter
  | .sending wire n => .sending wire (n - 1)
  | .jam n          => .jam (n - 1)
  | .backoff n      => .backoff (n - 1)
  | .idle           => .idle
  | .waitGap        => .waitGap

/-- R156: the transmitter's time and the INTERVAL timer. DESIGN CHOICE (assumption 31): the timer runs where the line unit
composes, and in LISTEN_ONLY, where R155 composes nothing, it holds its value and goes on from it in STUCK. -/
def LineUnit.advance (u : LineUnit) : LineUnit :=
  { u with transmitter := u.transmitter.advance
           intervalUs := if u.line.composes then u.intervalUs.map (· + 1) else u.intervalUs }

/-- R68: the time that the converter's sample has taken; a sample takes 25 µs, and stands there until its code is brought
(assumption 10). -/
def Converter.advance : Converter → Converter
  | .idle => .idle
  | .chain k r n us carried => .chain k r n (min Config.sampleUs (us + 1)) carried
  | .ladder i n us => .ladder i n (min Config.sampleUs (us + 1))

/-- R165: the time the image read has taken; it takes no more than its 7960 µs. -/
def Loader.advance : Loader → Loader
  | .reading us => .reading (min Config.imageReadUs (us + 1))
  | .inReset    => .inReset
  | .badStation => .badStation
  | .ended      => .ended

/-- One microsecond passes. -/
def State.advance (s : State) : State :=
  { s with
    now := s.now + 1
    clock := if s.running then s.clock.advance else s.clock
    peers := { s.peers with entries := s.peers.entries.map Peer.advance }
    control := s.control.advance
    line := s.line.advance
    scanner := { s.scanner with converter := s.scanner.converter.advance }
    startUp := { s.startUp with loader := s.startUp.loader.advance } }

/-! ## What falls due -/

/-- R51: the next advance would take the phase to P_applied. -/
def State.markDue (s : State) : Bool := s.running && decide (s.clock.applied ≤ s.clock.phase + 1)

/-- R64: the scan points whose time is `phase` in the current cycle. -/
def Clock.pointsAt (c : Clock) (phase : Nat) : List Nat := (List.range c.times.length).filter fun k => decide (c.times[k]? = some (some phase))

/-- R64: the scan points of fraction 0, which fire at the mark. -/
def State.markPoints (s : State) : List Nat := s.clock.pointsAt 0

/-- The mark that falls due, its open orders taken from free values (assumption 4), and the points that fire with it. -/
def State.dueMark (s : State) : List Instr :=
  if s.markDue then
    .cycleMark (Config.freeBit s.now) (Config.freeNat s.now 0) :: s.markPoints.map .scanPointFire
  else []

/-- The scan points that fall due within the cycle. -/
def State.duePoints (s : State) : List Instr :=
  if s.running && !s.markDue then (s.clock.pointsAt (s.clock.phase + 1)).map .scanPointFire else []

/-- R116: the expiry that falls due of the entry of station `n`, as it stands after the advance. -/
def dueExpiry (c : Settings) (n : Nat) (e : Peer) : List Instr :=
  if e.state = .fresh ∧ e.ageUs = c.staleMs * 1000 then [.peerStale n]
  else if e.state = .stale ∧ e.ageUs = c.lostMs * 1000 then [.peerLost n]
  else []

/-- The expiries that fall due. -/
def State.dueExpiries (s : State) : List Instr :=
  (s.peers.entries.zipIdx.map fun p => dueExpiry s.settings (p.2 + 1) p.1).flatten

/-- R131: the expiry of the release timer, as it stands after the advance. -/
def Control.due (c : Control) : List Instr := if c.release = some 0 then [.lockstepRelease] else []

/-- The transmitter's timed states that end, as they stand after the advance. -/
def Transmitter.due : Transmitter → List Instr
  | .sending _ 0 => [.transmitComplete]
  | .jam 0       => [.jamEnd]
  | .backoff 0   => [.backoffEnd]
  | _            => []

/-- R156: the INTERVAL beat, as its timer stands after the advance, at 1000 ms or past it where the timer was held there
(DESIGN CHOICE: assumption 31); an event of the same instant that composes a BEAT first restarts the timer, and the command
then has no effect (assumption 18). -/
def LineUnit.dueInterval (u : LineUnit) : List Instr :=
  if u.line.composes && u.intervalOver then [.intervalBeat] else []

/-- An element put at place `k` of a list, or at its end. -/
def putAt {α : Type} : Nat → α → List α → List α
  | 0,     x, l      => x :: l
  | _,     x, []     => [x]
  | k + 1, x, y :: l => y :: putAt k x l

/-- A list in an order drawn from `draw`. -/
def shuffle {α : Type} (draw : Nat → Nat) : List α → List α
  | []     => []
  | x :: l => putAt (draw l.length % (l.length + 1)) x (shuffle draw l)

/-- The commands that fall due in the microsecond that passes from `s`, in an order the manual leaves open: a mark, a firing, an
expiry, a lockstep release, an end of the transmitter's and an INTERVAL beat come in any order (DESIGN CHOICE: assumptions 4
and 18). -/
def State.due (s : State) : List Instr :=
  let t := s.advance
  shuffle (fun k => Config.freeNat s.now (k + 1))
    (s.dueMark ++ s.duePoints ++ t.dueExpiries ++ t.control.due ++ t.line.transmitter.due ++ t.line.dueInterval)

/-- A microsecond with no command waiting. -/
def State.microsecond (s : State) : State := { s.advance with pending := s.due }

end Sys2Proof.Machine
end

