-- ==== Sys2Proof/Safety.lean ====
section
/-! DEFINITION. What a safe state of the node is: the laws of the device that the manual names, and the agreements between
blocks on which they rest. Each is a predicate of one state; the certificates say that every step keeps them. -/

namespace Sys2Proof.Machine

/-! ## Tables -/

/-- Every table and every list of records has the number of entries the manual gives it (R50, R65, R82, R95, R113, and the
tables of R165). -/
def State.Sized (s : State) : Prop :=
  s.clock.times.length = 8 ∧ s.scanner.chains.length = 8 ∧ s.scanner.ladders.length = 12 ∧ s.scanner.overruns.length = 8
    ∧ s.recorder.channels.length = 32 ∧ (∀ r ∈ s.recorder.channels, r.bins.length = 16) ∧ s.cracks.sites.length = 12
    ∧ s.peers.entries.length = 16 ∧ s.settings.segments.length = 64 ∧ s.settings.scans.length = 48
    ∧ s.settings.points.length = 8 ∧ s.settings.channels.length = 32 ∧ s.settings.sites.length = 12

/-! ## Start-up -/

/-- R163: the frame mode is START exactly until start-up ends. -/
def State.StartLaw (s : State) : Prop := s.control.mode = .start ↔ s.startUp.loader ≠ .ended

/-- R148, R163: in START the line is OFF with nothing composed, nothing held and nothing assembled, no peer has been heard, and
no level stands. -/
def State.StartQuiet (s : State) : Prop :=
  s.control.mode = .start →
    s.line.line = .off ∧ s.line.assembler = .off ∧ s.line.transmitter = .idle ∧ s.line.held = none ∧ s.line.beatSlot = none
      ∧ s.line.replySlot = none ∧ (∀ e ∈ s.peers.entries, e.state = .empty) ∧ s.peers.groupAlarm = 0 ∧ s.cracks.level = 0

/-- R167: until start-up ends in STANDBY, and in CFG_FAULT, nothing has been taken from an image. -/
def State.NothingTaken (s : State) : Prop := s.running = false → s.settings = Settings.none

/-- R140: the level 1, 2 and 3 actions do not decrease. -/
def Settings.Ordered (c : Settings) : Prop := c.policy1.rank ≤ c.policy2.rank ∧ c.policy2.rank ≤ c.policy3.rank

/-- The ranges that the checks of R166 (orders 4 to 8) leave to the header constants of an image. -/
def Settings.HeaderGood (c : Settings) : Prop :=
  1 ≤ c.group ∧ c.group ≤ 4
    ∧ c.loadMin ≤ c.park ∧ c.park ≤ c.loadMax ∧ c.loadMin < c.loadMax ∧ c.tripMin < c.loadMin ∧ c.loadMax < c.tripMax
    ∧ 1 ≤ c.umax ∧ c.umax ≤ 2047 ∧ c.kp ≤ 4095 ∧ c.ki ≤ 4095 ∧ c.imax ≤ 2047
    ∧ 100 ≤ c.staleMs ∧ c.staleMs ≤ 10000 ∧ c.staleMs < c.lostMs ∧ c.lostMs ≤ 30000
    ∧ 20000 ≤ c.defaultPeriod ∧ c.defaultPeriod ≤ 10000000
    ∧ 1 ≤ c.holdRate ∧ c.holdRate ≤ 1024 ∧ 1 ≤ c.descentRate ∧ c.descentRate ≤ 1024
    ∧ 8 ≤ c.band ∧ c.band ≤ 256 ∧ 1 ≤ c.lockstepTimeout ∧ c.lockstepTimeout ≤ 600
    ∧ 50 ≤ c.lockWindow ∧ c.lockWindow ≤ 50000 ∧ c.Ordered

/-- What the check of R30 leaves to a segment record that is used. -/
def Segment.Good (t : List Segment) (g : Segment) : Prop :=
  (∀ k, g.body ≠ .none → g.link = some k → k < 64 ∧ (segmentAt t k).body ≠ .none)
    ∧ (∀ target ms, g.body = .ramp target ms → 1 ≤ ms)
    ∧ (∀ ms, g.body = .dwell ms → 1 ≤ ms)
    ∧ (∀ mean a per shape n soft, g.body = .cycle mean a per shape n soft →
        a ≤ 32767 ∧ 20000 ≤ per ∧ per ≤ 10000000 ∧ 1 ≤ n)

/-- R66: the chain that record `r` heads comes to its end within `n` records, each in the table, of a channel of the recorder
and of one of the four sample counts. -/
def chainGood (scans : List ScanRecord) : Nat → Nat → Prop
  | 0,     _ => False
  | n + 1, r => ∃ x, scans[r]? = some x ∧ x.channel ≤ 31 ∧ x.samples ∈ [1, 2, 4, 8] ∧ ∀ k, x.link = some k → chainGood scans n k

/-- What the checks of R30, R66, R81 and R93 leave to the segment, scan, channel and site tables. -/
def Settings.TablesGood (c : Settings) : Prop :=
  (segmentAt c.segments 0).body ≠ .none ∧ (∀ g ∈ c.segments, g.Good c.segments)
    ∧ (∀ p ∈ c.points, (∀ f, p.fraction = some f → f ≤ 255) ∧ ∀ r, p.head = some r → chainGood c.scans 48 r)
    ∧ (∀ r ∈ c.channels, 1 ≤ r.binWidth ∧ r.binWidth ≤ 4096 ∧ r.endurance ≤ 65534)
    ∧ (∀ r ∈ c.sites, r.used = true →
        (r.ladder.isSome = true ∨ r.channel.isSome = true) ∧ (∀ l, r.ladder = some l → l ≤ 11) ∧ (∀ k, r.channel = some k → k ≤ 31)
          ∧ 1 ≤ r.strands ∧ r.strands ≤ 10 ∧ 1 ≤ r.step ∧ r.step ≤ 32767 ∧ r.rIntact < r.rOpen
          ∧ 1 ≤ r.threshold ∧ r.threshold ≤ 100 ∧ 1 ≤ r.runLength ∧ r.runLength ≤ 64
          ∧ 1 ≤ r.critical ∧ r.critical ≤ r.strands)

/-- R166: the checks of an image, in the order they are made. -/
def checkOrder : List FaultCode :=
  [.noImage, .length, .checksum, .group, .limits, .servo, .timing, .policy, .segment, .chain, .channel, .site]

/-- R30: what fails the segment table of an image. -/
def SegmentFails (m : List Byte) : Prop :=
  let at_ : Nat → Nat := fun k => 64 + 16 * k
  let kind : Nat → Nat := fun k => byteAt m (at_ k)
  let link : Nat → Nat := fun k => byteAt m (at_ k + 2)
  kind 0 = 0 ∨ ∃ k < 64, 3 < kind k
    ∨ (kind k ≠ 0 ∧ link k ≠ 255 ∧ (64 ≤ link k ∨ kind (link k) = 0))
    ∨ ((kind k = 1 ∨ kind k = 2) ∧ fieldAt m (at_ k + 5) 2 = 0)
    ∨ (kind k = 3 ∧ (fieldAt m (at_ k + 11) 3 = 0 ∨ 32767 < fieldAt m (at_ k + 5) 2 ∨ fieldAt m (at_ k + 7) 3 < 20000
        ∨ 10000000 < fieldAt m (at_ k + 7) 3 ∨ byteAt m (at_ k + 10) ∉ [1, 2]))

/-- R66: what fails the walk from a chain head of an image: after some links it is outside the table, at a record of a wrong channel
or sample count, or at one it has passed. -/
def WalkFails (m : List Byte) (head : Nat) : Prop :=
  let link : Nat → Nat := fun r => byteAt m (1088 + 4 * r + 2)
  let walk : Nat → Nat := fun n => link^[n] head
  ∃ n, (∀ j < n, walk j < 48 ∧ link (walk j) ≠ 255)
    ∧ (48 ≤ walk n ∨ 31 < byteAt m (1088 + 4 * walk n) ∨ byteAt m (1088 + 4 * walk n + 1) ∉ [1, 2, 4, 8] ∨ ∃ j < n, walk j = walk n)

/-- R93: what fails a site record of an image at the offset given. -/
def SiteFails (m : List Byte) (o : Nat) : Prop :=
  let ladder := byteAt m (o + 1)
  let channel := byteAt m (o + 9)
  let strands := byteAt m (o + 2)
  1 < byteAt m o ∨ (byteAt m o = 1 ∧
    ((ladder = 255 ∧ channel = 255) ∨ (ladder ≠ 255 ∧ 11 < ladder) ∨ (channel ≠ 255 ∧ 31 < channel)
      ∨ strands = 0 ∨ 10 < strands ∨ fieldAt m (o + 5) 2 = 0 ∨ 32767 < fieldAt m (o + 5) 2
      ∨ signed16 (fieldAt m (o + 7) 2) ≤ signed16 (fieldAt m (o + 3) 2)
      ∨ byteAt m (o + 10) = 0 ∨ 100 < byteAt m (o + 10) ∨ byteAt m (o + 11) = 0 ∨ 64 < byteAt m (o + 11)
      ∨ byteAt m (o + 12) = 0 ∨ strands < byteAt m (o + 12)))

/-- The table of R166, with the fields where section 12.2 places them: when the check of a fault code fails. -/
def ImageFails (m : List Byte) : FaultCode → Prop
  | .none => False
  | .noImage => ∀ i < 64, byteAt m i = 255
  | .length => fieldAt m 0 2 ≠ 1986
  | .checksum => ((List.range 1984).map (byteAt m)).sum % 65536 ≠ fieldAt m 1984 2
  | .group => byteAt m 4 ∉ [1, 2, 3, 4]
  | .limits =>
    let c := readSettings m
    c.loadMax ≤ c.loadMin ∨ c.park < c.loadMin ∨ c.loadMax < c.park ∨ c.loadMin ≤ c.tripMin ∨ c.tripMax ≤ c.loadMax
  | .servo =>
    let c := readSettings m
    c.umax = 0 ∨ 2047 < c.umax ∨ 4095 < c.kp ∨ 4095 < c.ki ∨ 2047 < c.imax ∨ byteAt m 47 ∉ [1, 2] ∨ byteAt m 48 ∉ [1, 2]
  | .timing =>
    let c := readSettings m
    byteAt m 5 ∉ [1, 2, 3] ∨ c.staleMs < 100 ∨ 10000 < c.staleMs ∨ c.lostMs ≤ c.staleMs ∨ 30000 < c.lostMs
      ∨ c.defaultPeriod < 20000 ∨ 10000000 < c.defaultPeriod ∨ c.holdRate = 0 ∨ 1024 < c.holdRate
      ∨ c.descentRate = 0 ∨ 1024 < c.descentRate ∨ c.band < 8 ∨ 256 < c.band ∨ c.lockstepTimeout = 0 ∨ 600 < c.lockstepTimeout
      ∨ c.lockWindow < 50 ∨ 50000 < c.lockWindow
  | .policy => (∃ i < 5, 2 < byteAt m (59 + i)) ∨ byteAt m 60 < byteAt m 59 ∨ byteAt m 61 < byteAt m 60
  | .segment => SegmentFails m
  | .chain => ∃ k < 8, byteAt m (1088 + 4 * (2 * k + 1) + 3) % 64 ≠ 63 ∧ WalkFails m (byteAt m (1088 + 4 * (2 * k + 1) + 3) % 64)
  | .channel => ∃ k < 32, 1 < byteAt m (1280 + 16 * k) ∨ fieldAt m (1280 + 16 * k + 5) 2 = 0
      ∨ 4096 < fieldAt m (1280 + 16 * k + 5) 2 ∨ 65534 < fieldAt m (1280 + 16 * k + 7) 2
  | .site => ∃ k < 12, SiteFails m (1792 + 16 * k)

/-- R171 and section 12.2: `c` holds every constant and table of the image `m` as it stands at its place there, for an image whose
codes are those of the section. -/
def Settings.Reads (m : List Byte) (c : Settings) : Prop :=
  let u16 : Nat → Nat := fun i => byteAt m i * 256 + byteAt m (i + 1)
  let u24 : Nat → Nat := fun i => u16 i * 256 + byteAt m (i + 2)
  let s16 : Nat → Int := fun i => if u16 i < 32768 then (u16 i : Int) else (u16 i : Int) - 65536
  let link : Nat → Option Nat := fun i => if byteAt m i = 255 then Option.none else some (byteAt m i)
  let policy : Nat → Policy := fun i => match byteAt m i with | 0 => .note | 1 => .hold | _ => .descent
  c.programme.toNat = u16 2 ∧ c.group = byteAt m 4 ∧ c.defaultPeriod = u24 6 ∧ c.staleMs = u16 9 ∧ c.lostMs = u16 11
    ∧ c.park = s16 13 ∧ c.loadMin = s16 15 ∧ c.loadMax = s16 17 ∧ c.tripMin = s16 19 ∧ c.tripMax = s16 21
    ∧ c.dispMin = s16 23 ∧ c.dispMax = s16 25 ∧ c.zeroLoad = s16 27 ∧ c.gainLoad = s16 29 ∧ c.zeroDisp = s16 31 ∧ c.gainDisp = s16 33
    ∧ c.kp = u16 35 ∧ c.ki = u16 37 ∧ c.imax = u16 39 ∧ c.umax = u16 41 ∧ c.errLimit = u16 43 ∧ c.errTicks = u16 45
    ∧ (c.inverted = true ↔ byteAt m 47 = 2) ∧ (c.idleHigh = true ↔ byteAt m 48 = 2)
    ∧ c.holdRate = u16 49 ∧ c.descentRate = u16 51 ∧ c.band = u16 53 ∧ c.lockstepTimeout = u16 55 ∧ c.lockWindow = u16 57
    ∧ c.policy1 = policy 59 ∧ c.policy2 = policy 60 ∧ c.policy3 = policy 61 ∧ c.lossPolicy = policy 62 ∧ c.dropPolicy = policy 63
    ∧ c.segments.length = 64 ∧ c.scans.length = 48 ∧ c.points.length = 8 ∧ c.channels.length = 32 ∧ c.sites.length = 12
    ∧ (∀ k < 64, let o := 64 + 16 * k
        c.segments[k]? = some
          { body := match byteAt m o with
              | 1 => .ramp (s16 (o + 3)) (u16 (o + 5))
              | 2 => .dwell (u16 (o + 5))
              | 3 => .cycle (s16 (o + 3)) (u16 (o + 5)) (u24 (o + 7)) (if byteAt m (o + 10) = 2 then .triangle else .sine)
                  (u24 (o + 11)) (byteAt m (o + 14))
              | _ => .none
            groupAdvance := decide (byteAt m (o + 1) % 2 = 1), pause := decide (byteAt m (o + 1) / 2 % 2 = 1), link := link (o + 2) })
    ∧ (∀ k < 48, let o := 1088 + 4 * k
        c.scans[k]? = some { channel := byteAt m o, samples := byteAt m (o + 1), link := link (o + 2) })
    ∧ (∀ k < 8, let low := byteAt m (1088 + 4 * (2 * k) + 3)
        let high := byteAt m (1088 + 4 * (2 * k + 1) + 3)
        c.points[k]? = some
          { fraction := if 128 ≤ high then Option.none else some low, head := if high % 64 = 63 then Option.none else some (high % 64) })
    ∧ (∀ k < 32, let o := 1280 + 16 * k
        c.channels[k]? = some
          { enabled := decide (byteAt m o = 1), zero := s16 (o + 1), cal := s16 (o + 3), binWidth := u16 (o + 5), endurance := u16 (o + 7)
            watchAt := u16 (o + 9) * 65536 + u16 (o + 11) })
    ∧ ∀ k < 12, let o := 1792 + 16 * k
        c.sites[k]? = some
          { used := decide (byteAt m o = 1), ladder := link (o + 1), strands := byteAt m (o + 2), rIntact := s16 (o + 3), step := u16 (o + 5)
            rOpen := s16 (o + 7), channel := link (o + 9), threshold := byteAt m (o + 10), runLength := byteAt m (o + 11)
            critical := byteAt m (o + 12) }

/-- R166: the blocks work under constants that every check has passed. -/
def State.SettingsLaw (s : State) : Prop := s.running = true → s.settings.HeaderGood ∧ s.settings.TablesGood

/-! ## The laws of the device -/

/-- R127: q_acc by the frame mode. -/
def State.DescentLaw (s : State) : Prop :=
  s.control.qAcc ≤ Config.accFull ∧ (s.control.mode = .run → s.control.qAcc = Config.accFull)
    ∧ (s.control.mode = .parked ∨ s.control.mode = .standby ∨ s.control.mode = .tripped ∨ s.control.mode = .start
        ∨ s.control.mode = .cfgFault → s.control.qAcc = 0)

/-- R131: the release timer and the released flag are stopped and clear but in DESCENT and ASCENT; there the flag is set exactly
when the timer has run out, and the timer has at most lockstep_timeout left. -/
def State.TimerLaw (s : State) : Prop :=
  if s.control.mode = .descent ∨ s.control.mode = .ascent then
    (s.control.released = true ↔ s.control.release = none)
      ∧ ∀ n, s.control.release = some n → n ≤ s.settings.lockstepTimeout * 1000000
  else s.control.release = none ∧ s.control.released = false

/-- R18, R21, R22, R26: outside the engaged modes the valve is released, and the integrator and the tracking counter are 0. -/
def State.ValveAtRest (s : State) : Prop :=
  s.control.mode.engaged = false →
    s.servo.enable = false ∧ s.servo.buffer = .idle ∧ s.servo.output = .idle ∧ s.servo.integ = 0 ∧ s.servo.tracking = 0

/-- R23: with the cutoff asserted, or in START, CFG_FAULT, STANDBY or TRIPPED, the valve enable output is deasserted and the
valve PWM output rests at its idle level. -/
def State.ValveLaw (s : State) : Prop :=
  s.servo.cutoff = true ∨ s.control.mode.engaged = false →
    s.enablePin = false ∧ ∀ k, s.pwmLevel k = s.settings.idleHigh

/-- R16: the integrator lies within its limits. -/
def State.IntegratorLaw (s : State) : Prop :=
  -(s.settings.imax * 256 : Nat) ≤ s.servo.integ ∧ s.servo.integ ≤ (s.settings.imax * 256 : Nat)

/-- R43 to R45: the envelope accumulator does not pass its full value, and is 0 in STANDBY and TRIPPED; a soft start is in
progress in RUN and ASCENT alone, with a step of at least 1. -/
def State.EnvelopeLaw (s : State) : Prop :=
  s.seq.envelope ≤ Config.accFull
    ∧ (s.control.mode = .standby ∨ s.control.mode = .tripped → s.seq.envelope = 0)
    ∧ ∀ step, s.seq.softStep = some step → 1 ≤ step ∧ (s.control.mode = .run ∨ s.control.mode = .ascent)

/-- R51, R55: the applied period lies within a 64th of the nominal one. -/
def State.PeriodLaw (s : State) : Prop :=
  s.clock.nominal - s.clock.nominal / 64 ≤ s.clock.applied ∧ s.clock.applied ≤ s.clock.nominal + s.clock.nominal / 64

/-- R69, R71: at most one request of a scan point is pending or in service, and an idle converter leaves no request waiting. R65:
the accumulator holds a sum of as many signed 16-bit samples as the record or read in service has completed, 0 where none is. -/
def State.ScannerLaw (s : State) : Prop :=
  (∀ k, s.scanner.serves k = true → (s.scanner.request k).waits = false)
    ∧ (s.scanner.converter = .idle → (∀ x ∈ s.scanner.chains, x.waits = false) ∧ ∀ x ∈ s.scanner.ladders, x = false)
    ∧ -32768 * (s.scanner.converter.sample : Int) ≤ s.scanner.accumulator
    ∧ s.scanner.accumulator ≤ 32767 * (s.scanner.converter.sample : Int)

/-- R89: while no counter has saturated, the bins and the missed count of every enabled channel sum to the total. -/
def State.CycleLaw (s : State) : Prop :=
  ∀ (k : Nat) (c : ChannelConst) (r : Channel), s.settings.channels[k]? = some c → s.recorder.channels[k]? = some r → c.enabled = true →
    s.recorder.total < 4294967295 → r.missed < 4294967295 → (∀ b ∈ r.bins, b < 4294967295) →
      r.bins.sum + r.missed = s.recorder.total

/-- R109: the node alarm level and the sensor fault indication stand as the sites give them; both are clear in START and
CFG_FAULT. -/
def State.LevelLaw (s : State) : Prop :=
  s.cracks.level = (if s.running then levelOf s.settings.sites s.cracks.sites else 0)
    ∧ s.cracks.sensorFault = (s.running && sensorFaultOf s.settings.sites s.cracks.sites)

/-- R118: G is the largest of the node's own level and the own levels of the counted entries. -/
def State.GroupLaw (s : State) : Prop :=
  s.cracks.level ≤ s.peers.groupAlarm ∧ (∀ e ∈ s.peers.countedPeers s.settings.group, e.ownLevel ≤ s.peers.groupAlarm)
    ∧ (s.peers.groupAlarm = s.cracks.level ∨ ∃ e ∈ s.peers.countedPeers s.settings.group, e.ownLevel = s.peers.groupAlarm)

/-- R142: the alarm output is asserted while G is 2 or more or the frame mode is TRIPPED. -/
def State.AlarmPinLaw (s : State) : Prop :=
  s.control.alarm = true ↔ 2 ≤ s.peers.groupAlarm ∨ s.control.mode = .tripped

/-- R140: in RUN and ASCENT the action for G is NOTE, or G does not exceed the accept level. -/
def State.AcceptLaw (s : State) : Prop :=
  s.control.mode = .run ∨ s.control.mode = .ascent →
    s.settings.policyFor s.peers.groupAlarm = .note ∨ s.peers.groupAlarm ≤ s.control.accept

/-- R146 to R150: outside ACTIVE nothing is sent and nothing is held; in ACTIVE an idle transmitter has nothing to send; a
transmitter at work on a message holds it, with fewer than 16 collisions until its last jam. In OFF and STUCK the assembler
takes nothing, nor does it while the transmitter is in SENDING or JAM; and the characters it holds begin a message of at most
48 body bytes that still expects more. -/
def State.LineLaw (s : State) : Prop :=
  (s.line.line ≠ .active → s.line.transmitter = .idle)
    ∧ (s.line.line = .off ∨ s.line.line = .stuck → s.line.assembler = .off)
    ∧ (∀ characters, s.line.assembler = .taking characters → 1 ≤ characters.length
        ∧ (3 ≤ characters.length → byteAt characters 2 ≤ 48 ∧ characters.length < 5 + byteAt characters 2))
    ∧ (s.line.transmitter = .idle → s.line.held = none)
    ∧ (s.line.line = .active → s.line.transmitter = .idle → s.line.beatSlot = none ∧ s.line.replySlot = none)
    ∧ (s.line.transmitter = .waitGap → s.line.held.isSome ∨ s.line.beatSlot.isSome ∨ s.line.replySlot.isSome)
    ∧ (match s.line.transmitter with
        | .sending .. => s.line.assembler = .waiting ∧ ∃ h, s.line.held = some h ∧ h.collisions < 16
        | .jam _ => s.line.assembler = .waiting ∧ ∃ h, s.line.held = some h ∧ 1 ≤ h.collisions ∧ h.collisions ≤ 16
        | .backoff _ => ∃ h, s.line.held = some h ∧ h.collisions < 16
        | .waitGap => ∀ h, s.line.held = some h → h.collisions < 16
        | .idle => True)

/-- R156: an event ends with its PROMPT causes spent. -/
def State.PromptSpent (s : State) : Prop := s.line.prompt = false

/-! ## What a command leaves as it was, and what it reports -/

/-- The node between the strap reading and the end of the image read: every block as a reset leaves it, but for the retained
records and the cutoff input (R163). -/
def State.AwaitsImage (s : State) : Prop :=
  s.startUp.loader.isReading = true ∧ s.startUp.fault = .none ∧ s.control = Control.reset ∧ s.line = LineUnit.reset
    ∧ s.clock = Clock.reset ∧ s.scanner = Scanner.reset ∧ s.peers = PeerTable.reset ∧ s.settings = Settings.none
    ∧ s.servo = Servo.reset s.servo.cutoff ∧ s.seq = s.seq.retained ∧ s.recorder = s.recorder.retained
    ∧ s.cracks.level = 0 ∧ s.cracks.sensorFault = false

/-- The clock, the scanner, the recorder, the crack monitor, the peer view table, the loader, the constants, the timebase and
the queue stand as they were. -/
def State.RecordsKept (s t : State) : Prop :=
  t.clock = s.clock ∧ t.scanner = s.scanner ∧ t.recorder = s.recorder ∧ t.cracks = s.cracks ∧ t.peers = s.peers
    ∧ t.startUp = s.startUp ∧ t.settings = s.settings ∧ t.now = s.now ∧ t.pending = s.pending

/-- As `RecordsKept`, with the recorder's steady flag cleared. -/
def State.RecordsKeptButSteady (s t : State) : Prop :=
  State.RecordsKept { s with recorder := { s.recorder with steady := false } } t

/-- The parts of the line unit that no composition of a BEAT changes stand as they were. -/
def LineUnit.Kept (u v : LineUnit) : Prop :=
  v.line = u.line ∧ v.duplicate = u.duplicate ∧ v.bitUs = u.bitUs ∧ v.assembler = u.assembler ∧ v.held = u.held
    ∧ v.replySlot = u.replySlot ∧ v.lineErrors = u.lineErrors ∧ v.abandons = u.abandons ∧ v.queryOverruns = u.queryOverruns

/-- R157: the BEAT of the cause given that shows every field as its owner holds it in `t`, but for the clamp flag, which is given,
since the composition clears it. -/
def State.shown (cause : Cause) (clamped : Bool) (t : State) : Beat :=
  { group := t.settings.group, mode := t.control.mode, ownLevel := t.cracks.level, groupLevel := t.peers.groupAlarm
    flags :=
      { sensorFault := t.cracks.sensorFault, damageWatch := t.recorder.channels.any Channel.watch, clamped := clamped
        barrierWait := decide (t.seq.state = .barrier), complete := t.seq.complete
        peerLost := t.peers.entries.any fun e => decide (e.state = .lost ∧ e.group = t.settings.group ∧ e.mode.engaged = true)
        released := t.control.released }
    cause := cause, lock := t.clock.lock
    segIndex := if t.seq.state = .idle then 255 else t.seq.index
    remaining := if t.seq.state = .idle then 0 else t.seq.remaining
    total := t.recorder.total, q := t.control.qAcc / 4000, period := t.clock.nominal
    load := t.servo.load, command := t.servo.command, disp := t.servo.disp
    epoch := t.line.seenEpoch.getD 0, outcome := t.line.outcome, lineErrors := t.line.lineErrors
    faultCode := if t.control.mode = .cfgFault then t.startUp.fault.code else if t.line.duplicate then 32 else t.control.trip.code
    markedAt := t.clock.lastMark }

/-- One BEAT of the cause given has been composed between `s` and `t`, at the end of the event, as the line state allows (R149,
R156, R157): it stands in its slot and shows `t`, with the clamp flag given, which is cleared; the timer restarts, and an idle
transmitter of an ACTIVE line waits for its gap. In OFF and LISTEN_ONLY nothing is composed. -/
def State.ReportsWith (cause : Cause) (clamped : Bool) (s t : State) : Prop :=
  s.line.Kept t.line ∧ t.line.prompt = false
    ∧ if s.line.line = .active ∨ s.line.line = .stuck then
        t.line.beatSlot = some (t.shown cause clamped)
        ∧ t.line.intervalUs = some 0 ∧ t.line.lastQ = t.control.qAcc / 4000 ∧ t.servo.clampFlag = false
        ∧ t.line.transmitter = (if s.line.line = .active ∧ s.line.transmitter = .idle then .waitGap else s.line.transmitter)
      else t.line.beatSlot = s.line.beatSlot ∧ t.line.intervalUs = s.line.intervalUs ∧ t.line.lastQ = s.line.lastQ
        ∧ t.servo.clampFlag = clamped ∧ t.line.transmitter = s.line.transmitter

/-- As `ReportsWith`, in an event that does not itself set the clamp flag: the BEAT carries the flag of `s`. -/
def State.Reports (cause : Cause) (s t : State) : Prop := s.ReportsWith cause s.servo.clampFlag t

/-- A tick's BEAT: it carries the clamp flag as the tick leaves it, which is set where it was set before (R14). -/
def State.TickReports (s t : State) : Prop :=
  ∃ clamped, (s.servo.clampFlag = true → clamped = true) ∧ s.ReportsWith .prompt clamped t

/-- R156: of what an arrival or an expiry does, a change of the frame mode alone gives a PROMPT beat; with none the line unit
stands as it was. -/
def State.PromptsOnChange (s t : State) : Prop :=
  (t.control.mode ≠ s.control.mode → s.Reports .prompt t)
    ∧ (t.control.mode = s.control.mode → s.line.prompt = false → t.line = s.line)

/-- R131: at a change of the frame mode between `s` and `t` the released flag is cleared, and the release timer is started with
lockstep_timeout in DESCENT and ASCENT and stopped elsewhere; where the mode stands, both do. -/
def State.TimerFollows (s t : State) : Prop :=
  if t.control.mode = s.control.mode then t.control.release = s.control.release ∧ t.control.released = s.control.released
  else t.control.released = false
    ∧ t.control.release = (if t.control.mode = .descent ∨ t.control.mode = .ascent then some (s.settings.lockstepTimeout * 1000000) else none)

/-- R45: of an event that steps no envelope and starts no CYCLE, a change of the frame mode to another than RUN and ASCENT ends a
soft start, and nothing else changes it. -/
def State.SoftStartFollows (s t : State) : Prop :=
  t.seq.softStep = if t.control.mode = s.control.mode ∨ t.control.mode = .run ∨ t.control.mode = .ascent then s.seq.softStep else none

/-- The sequencer `q` stands as `p` gives it, but for the envelope, the soft start and the clean flag. -/
def Sequencer.Stands (p q : Sequencer) : Prop := q = { p with envelope := q.envelope, softStep := q.softStep, clean := q.clean }

/-- R33, R48: the sequencer as an entry of the frame mode to RUN leaves it: a position in ACTIVE that is not started starts, a RAMP
with S equal to B, a DWELL with its time, and a CYCLE into PRE_CYCLE; any other stands. -/
def State.entered (s : State) : Sequencer :=
  if s.seq.state = .active ∧ s.seq.started = false then
    match s.segment.body with
    | .ramp _ _ => { s.seq with started := true, rampStart := s.seq.base }
    | .dwell _ => { s.seq with started := true }
    | .cycle _ _ _ _ _ _ => { s.seq with state := .preCycle }
    | .none => s.seq
  else s.seq

/-- R4: the mode controller takes a tick of the order given before the sequencer does. -/
def controlFirst (order : Nat) : Prop := (tickOrder order).idxOf .control < (tickOrder order).idxOf .sequencer

/-- R35, R38, R41, R42: a tick of segment time at the position is the last of a RAMP or a DWELL, whose end asks for HOLD: with no
barrier to wait at, it pauses or completes the programme. -/
def State.AsksForHold (s : State) : Prop :=
  s.seq.state = .active
    ∧ (∃ ms, (s.segment.body = .dwell ms ∨ ∃ target, s.segment.body = .ramp target ms) ∧ s.seq.elapsed + 1 = 4 * ms)
    ∧ (s.segment.groupAdvance = false ∨ s.barrierMet = true) ∧ (s.segment.link = none ∨ s.segment.pause = true)

/-- The load servo stands as it was, but for the clamp flag. -/
def Servo.Kept (v w : Servo) : Prop := w = { v with clampFlag := w.clampFlag }

/-- A directive reaches the mode controller: it is received from a console (R146, R158), its mask names the node's group, and
its epoch is newer than the one seen (R159). -/
def State.Adopts (d : Directive) (s : State) : Prop :=
  (s.line.line = .active ∨ s.line.line = .listenOnly) ∧ s.line.assembler = .ready
    ∧ 17 ≤ d.source.toNat ∧ d.source.toNat ≤ 30
    ∧ (if s.settings.group = 0 then d.mask.toNat % 16 ≠ 0 else d.mask.toNat % 16 / 2 ^ (s.settings.group - 1) % 2 = 1)
    ∧ ∃ o, s.line.seenEpoch = some o ∧ 1 ≤ (d.epoch - o).toNat ∧ (d.epoch - o).toNat ≤ 32767

/-- An adopted directive has been recorded with outcome `o` (R132, R159, R160). -/
def State.Records (d : Directive) (o : DirectiveOutcome) (s t : State) : Prop :=
  t.line.seenEpoch = some d.epoch ∧ t.line.outcome = o
    ∧ t.control.refusals = (if o = .adopted then s.control.refusals else min 65535 (s.control.refusals + 1))

/-- A directive has been refused with outcome `o`: the outcome is recorded, counted and reported, and nothing else changes but
the seen epoch (R132). -/
def State.Refused (d : Directive) (o : DirectiveOutcome) (s t : State) : Prop :=
  s.Records d o t ∧ s.Reports .prompt t ∧ s.RecordsKept t ∧ s.servo.Kept t.servo ∧ t.seq = s.seq
    ∧ t.control = { s.control with refusals := min 65535 (s.control.refusals + 1) }

/-- The mode after a policy action (R140, R141). -/
def Mode.answered (m : Mode) (a : Policy) : Mode :=
  match a, m with
  | .hold, .run | .hold, .ascent => .hold
  | .descent, .run | .descent, .ascent | .descent, .hold => .descent
  | _, _ => m

/-- R39: the barrier condition of the segment `index` with the link given: every counted peer at work is at the same barrier,
or past it, or complete where the link is END. -/
def PeerTable.Clears (p : PeerTable) (own index : Nat) (link : Option Nat) : Prop :=
  ∀ e ∈ p.entries, e.state = .fresh ∨ e.state = .stale → e.group = own → own ≠ 0 →
    e.mode = .run ∨ e.mode = .hold ∨ e.mode = .ascent →
      (e.segIndex = index ∧ e.flags.barrierWait = true) ∨ link = some e.segIndex
        ∨ (link = none ∧ e.segIndex = index ∧ e.flags.complete = true)

/-- R33, R38, R41, R42: `q` is what the sequencer of a state that waits in BARRIER comes to when the barrier releases; `starts`
where a segment after a pause starts at an entry to RUN that follows (R48). A soft start may end with a change of mode. -/
def State.Released (starts : Bool) (s : State) (q : Sequencer) : Prop :=
  match s.segment.link with
  | none => q = { s.seq with state := .complete, complete := true, softStep := q.softStep }
  | some k =>
    let arrived : Sequencer := { s.seq with
      state := .active, index := k, started := false, elapsed := 0, clean := false, softStep := q.softStep
      remaining := match (segmentAt s.settings.segments k).body with | .cycle _ _ _ _ n _ => n | _ => 0 }
    if s.segment.pause = true ∧ starts = false then q = arrived
    else match (segmentAt s.settings.segments k).body with
      | .ramp _ _ => q = { arrived with started := true, rampStart := s.seq.base }
      | .dwell _ => q = { arrived with started := true }
      | .cycle _ _ _ _ _ _ => q = { arrived with state := .preCycle }
      | .none => True

/-- A query is answered: it is received from a console, it names the node, and the line is ACTIVE (R146, R161). -/
def State.Answers (q : Query) (s : State) : Prop :=
  s.line.line = .active ∧ s.line.assembler = .ready ∧ 17 ≤ q.source.toNat ∧ q.source.toNat ≤ 30
    ∧ q.target.toNat = s.startUp.station

/-- The state once a REPLY stands in its slot (R149, R150, R161). -/
def State.replied (kind index : Byte) (content : Option (List Byte)) (s : State) : State :=
  { s with line := { s.line with
      replySlot := some { kind := kind, index := index, content := content }
      queryOverruns := if s.line.replySlot.isSome then min 255 (s.line.queryOverruns + 1) else s.line.queryOverruns
      transmitter := if s.line.transmitter = .idle then .waitGap else s.line.transmitter } }

end Sys2Proof.Machine
end

