-- ==== Sys2Proof/Certificates/Slice0/Obligations.lean ====
section
/-! DEFINITION. The statements for the provers. Each says what a command of the node does, with what it leaves unchanged, or
that every step keeps a law of the device. The result statements conclude that the command answers a next state. -/

open Sys2Proof Sys2Proof.Machine

/-! ## The queue -/

/-- The step runs the command at the front of the queue on the state with the queue's rest (assumption 1: the queue is the
model's form of the events that reach the node from outside, one after another). -/
def Obligations.StepRunsTheFrontCommand : Prop :=
  ∀ (c : Instr) (rest : List Instr) (s : State), s.pending = c :: rest → step s = exec c { s with pending := rest }

/-- Every command completes in every state, and none touches the queue or the timebase. That a command whose event cannot arise
has no effect is the model's choice (assumption 1), and so are the queue and the timebase (assumptions 1 and 2). -/
def Obligations.EveryCommandCompletes : Prop :=
  ∀ (i : Instr) (s : State), ∃ t, exec i s = .next t ∧ t.pending = s.pending ∧ t.now = s.now

/-- With no command waiting a microsecond passes, which is the model's form of time (assumption 2): the phase advances (R51), and
stands in the last microsecond of a cycle until the mark is taken (assumption 21); the peers' ages run and hold at 65535 ms
(R113, R116); the release timer, the INTERVAL timer, the timed states of the transmitter, the time of the converter's sample and
the image read run (R131, R156, R151, R68, R165), the sample's up to its 25 µs (its code is brought from outside: assumption 10), the
INTERVAL timer only where the line unit composes, and held in LISTEN_ONLY (the model's
choice: assumption 31); nothing else changes. Exactly what falls due joins the queue: the mark (R51), the scan
points whose time comes (R64), the expiries of a FRESH and of a STALE entry (R116), the expiry of the release timer (R131), the
ends of a transmission, a jam and a backoff (R150, R151), and the INTERVAL beat (R156), which a timer held at 1000 ms raises too
(assumption 31). -/
def Obligations.AnEmptyQueueLetsAMicrosecondPass : Prop :=
  ∀ s : State, s.pending = [] →
    let composes : Prop := s.line.line = .active ∨ s.line.line = .stuck
    let lastPhase : Prop := s.running = true ∧ s.clock.applied ≤ s.clock.phase + 1
    ∃ t, step s = .next t ∧ t.now = s.now + 1
    ∧ t.servo = s.servo ∧ t.seq = s.seq ∧ t.recorder = s.recorder ∧ t.cracks = s.cracks ∧ t.settings = s.settings
    ∧ t.control = { s.control with release := s.control.release.map fun n => n - 1 }
    ∧ t.clock = { s.clock with
        phase := if s.running = true ∧ s.clock.phase + 1 < s.clock.applied then s.clock.phase + 1 else s.clock.phase }
    ∧ t.peers = { s.peers with
        entries := s.peers.entries.map fun e => if e.state = .empty then e else { e with ageUs := min 65535000 (e.ageUs + 1) } }
    ∧ t.scanner = { s.scanner with
        converter := match s.scanner.converter with
          | .chain k n sample us carried => .chain k n sample (min 25 (us + 1)) carried
          | .ladder k sample us => .ladder k sample (min 25 (us + 1))
          | .idle => .idle }
    ∧ t.startUp = { s.startUp with
        loader := match s.startUp.loader with | .reading us => .reading (min 7960 (us + 1)) | other => other }
    ∧ t.line = { s.line with
        transmitter := match s.line.transmitter with
          | .sending wire n => .sending wire (n - 1)
          | .jam n => .jam (n - 1)
          | .backoff n => .backoff (n - 1)
          | other => other
        intervalUs := t.line.intervalUs }
    ∧ (composes → t.line.intervalUs = s.line.intervalUs.map fun n => n + 1)
    ∧ (¬ composes → t.line.intervalUs = s.line.intervalUs)
    ∧ ((∃ first site, Instr.cycleMark first site ∈ t.pending) ↔ lastPhase)
    ∧ (∀ k, Instr.scanPointFire k ∈ t.pending ↔ s.running = true ∧
        ((lastPhase ∧ s.clock.times[k]? = some (some 0))
          ∨ (¬ lastPhase ∧ s.clock.times[k]? = some (some (s.clock.phase + 1)))))
    ∧ (∀ (k : Nat) (e : Peer), s.peers.entries[k]? = some e →
        (Instr.peerStale (k + 1) ∈ t.pending ↔ e.state = .fresh ∧ min 65535000 (e.ageUs + 1) = s.settings.staleMs * 1000)
        ∧ (Instr.peerLost (k + 1) ∈ t.pending ↔ e.state = .stale ∧ min 65535000 (e.ageUs + 1) = s.settings.lostMs * 1000))
    ∧ (Instr.lockstepRelease ∈ t.pending ↔ ∃ n, s.control.release = some n ∧ n ≤ 1)
    ∧ (Instr.transmitComplete ∈ t.pending ↔ ∃ wire n, s.line.transmitter = .sending wire n ∧ n ≤ 1)
    ∧ (Instr.jamEnd ∈ t.pending ↔ ∃ n, s.line.transmitter = .jam n ∧ n ≤ 1)
    ∧ (Instr.backoffEnd ∈ t.pending ↔ ∃ n, s.line.transmitter = .backoff n ∧ n ≤ 1)
    ∧ (Instr.intervalBeat ∈ t.pending ↔ composes ∧ ∃ n, s.line.intervalUs = some n ∧ 999999 ≤ n)
    ∧ ∀ i ∈ t.pending, (∃ first site, i = .cycleMark first site) ∨ (∃ k, i = .scanPointFire k) ∨ (∃ n, i = .peerStale n)
        ∨ (∃ n, i = .peerLost n) ∨ i ∈ [.lockstepRelease, .transmitComplete, .jamEnd, .backoffEnd, .intervalBeat]

/-! ## Resets and start-up -/

/-- A power-on reset sets every piece of state to its value after a reset (R163; R18, R20, R22, R26, R29 for the servo, R32 for the
sequencer, R50, R65, R82, R89, R90, R95, R113, R118, R126, R142, R147, R148, R156, R159, R160, R168 for the rest). A
reset-pin reset differs in the retained records alone: the channel records but for their sample counts, the site records, the
programme position and complete flag, the total and the tag are kept. Where the manual gives no value after a reset, the value
is the model's choice (assumption 9), and so are the constants in force then beside the group, the expiry times and the idle
level (R116, R21, R167; assumption 6). -/
def Obligations.ResetsClearAllButTheRetainedRecords : Prop :=
  (∀ s : State, ∃ t, exec .powerOnReset s = .next t
     ∧ t.control = { mode := .start, qAcc := 0, accept := 0, release := none, released := false, trip := .none,
                     refusals := 0, alarm := false }
     ∧ t.servo = { load := 0, disp := 0, command := 0, clampFlag := false, integ := 0, tracking := 0, buffer := .idle,
                   output := .idle, enable := false, cutoff := s.servo.cutoff }
     ∧ t.settings = Settings.none ∧ t.settings.group = 0 ∧ t.settings.staleMs = 1500 ∧ t.settings.lostMs = 5000
     ∧ t.settings.idleHigh = false
     ∧ t.seq = { state := .idle, index := 0, started := false, elapsed := 0, remaining := 0, base := 0, rampStart := 0,
                 clean := false, complete := false, envelope := 0, softStep := none, scaleBuffer := 10000,
                 scaleActive := 10000, partialCycles := 0 }
     ∧ t.clock = { phase := 0, nominal := 0, applied := 0, trim := 0, lock := .alone, buffer := none,
                   times := List.replicate 8 none, lastMark := none }
     ∧ t.scanner = { chains := List.replicate 8 .none, ladders := List.replicate 12 false, converter := .idle, accumulator := 0,
                     overruns := List.replicate 8 0, late := 0, ladderMerges := 0, input := 0 }
     ∧ (∀ r ∈ t.recorder.channels, r =
         { lastStrain := 0, cycleMax := 0, cycleMin := 0, samples := 0, lastRange := 0, bins := List.replicate 16 0,
           damage := 0, missed := 0, overRange := 0, watch := false })
     ∧ t.recorder.total = 0 ∧ t.recorder.steady = false
     ∧ (∀ r ∈ t.cracks.sites, r =
         { state := .intact, baseline := none, brokenMax := 0, reading := none, stamp := 0, evidence := 0, clears := 0,
           strainSeen := false, refRange := none, captureSum := 0, captureCount := 0, faultFlag := false, growth := 0,
           confirmCycle := none })
     ∧ t.cracks.level = 0 ∧ t.cracks.sensorFault = false
     ∧ (∀ e ∈ t.peers.entries, e =
         { state := .empty, group := 0, mode := .start, previous := none, ownLevel := 0, groupLevel := 0
           flags := { sensorFault := false, damageWatch := false, clamped := false, barrierWait := false, complete := false
                      peerLost := false, released := false }
           lockCode := 0, segIndex := 0, remaining := 0, q := 0, period := 0, cycles := 0, offset := 0, offsetValid := false
           ageUs := 0 })
     ∧ t.peers.groupAlarm = 0
     ∧ t.line = { line := .off, duplicate := false, bitUs := 4, assembler := .off, transmitter := .idle, held := none
                  beatSlot := none, replySlot := none, lineErrors := 0, abandons := 0, queryOverruns := 0, seenEpoch := none
                  outcome := .none, intervalUs := none, lastQ := 0, prompt := false }
     ∧ t.startUp = { loader := .inReset, station := 0, fault := .none, tag := none } ∧ t.Sized)
  ∧ (∀ s : State, ∃ t p, exec .resetPinAssert s = .next t ∧ exec .powerOnReset s = .next p
       ∧ t = { p with
           recorder := { p.recorder with
             channels := s.recorder.channels.map fun r => { r with samples := 0 }
             total := s.recorder.total }
           cracks := { p.cracks with sites := s.cracks.sites }
           seq := { p.seq with
             state := s.seq.state, index := s.seq.index, started := s.seq.started, elapsed := s.seq.elapsed
             remaining := s.seq.remaining, base := s.seq.base, rampStart := s.seq.rampStart, complete := s.seq.complete }
           startUp := { p.startUp with tag := s.startUp.tag } })

/-- R164: at the release the straps are read once as the station number; 1..16 goes on to the image, and with any other the node
stays where it is: no image is read until the next reset. R165: in each microsecond of the read, of which there are 7960, the SPI
clock is low and then high in each of its two bits, and the first 32 bits sent are the read command 03 and the address 0 (most
significant bit first: assumption 30, as is that no level is given to what is sent after them); outside the read the clock
rests low and nothing is sent. -/
def Obligations.ReleaseReadsTheStrapsOnce : Prop :=
  (∀ (straps again : BitVec 5) (s : State), s.startUp.loader = .inReset → ∃ t, exec (.resetRelease straps) s = .next t
    ∧ t = { s with startUp := { s.startUp with
        loader := if 1 ≤ straps.toNat ∧ straps.toNat ≤ 16 then .reading 0 else .badStation, station := straps.toNat } }
    ∧ exec (.resetRelease again) t = .next t
    ∧ (straps.toNat = 0 ∨ 17 ≤ straps.toNat → ∀ image p, exec (.imageReadComplete image p) t = .next t))
  ∧ (∀ (s : State) (us k : Nat), s.startUp.loader = .reading us → us < 7960 → k < 4 →
      let bit := 2 * us + k / 2
      s.spiClock k = decide (k = 1 ∨ k = 3)
        ∧ s.spiSent k = (if bit < 32 then some (Nat.testBit 0x03000000 (31 - bit)) else none))
  ∧ ∀ (s : State) (k : Nat), (∀ us, s.startUp.loader = .reading us → 7960 ≤ us) → s.spiClock k = false ∧ s.spiSent k = none

/-- R144, R165 to R167: a failed check ends start-up in CFG_FAULT with the line ACTIVE, the fault code held and a PROMPT beat,
and with nothing taken from the image but the bit rate; the retained records and the tag stay. The bit time is that of the image's
bit rate code where the image has passed the checks up to CHECKSUM and the code names a rate, and 4 µs otherwise. -/
def Obligations.AFailedImageEndsInCfgFault : Prop :=
  ∀ (image : List Byte) (p : Nat) (s : State) (code : FaultCode), s.AwaitsImage → imageFault (imageOf image) = some code →
    ∃ t, exec (.imageReadComplete image p) s = .next t
      ∧ t.control = { s.control with mode := .cfgFault }
      ∧ t.startUp = { s.startUp with loader := .ended, fault := code }
      ∧ t.settings = s.settings ∧ t.servo = s.servo ∧ t.seq = s.seq ∧ t.recorder = s.recorder ∧ t.cracks = s.cracks
      ∧ t.clock = s.clock ∧ t.scanner = s.scanner ∧ t.peers = s.peers
      ∧ t.line.line = .active ∧ t.line.transmitter = .waitGap ∧ t.line.assembler = .waiting
      ∧ t.line.bitUs = (if code = .noImage ∨ code = .length ∨ code = .checksum then 4 else
          match byteAt (imageOf image) 5 with | 2 => 2 | 3 => 1 | _ => 4)
      ∧ t.line.intervalUs = some 0
      ∧ ∃ b, t.line.beatSlot = some b ∧ b = t.shown .prompt false ∧ b.cause = .prompt ∧ b.mode = .cfgFault ∧ b.group = 0 ∧ b.period = 0 ∧ b.q = 0
          ∧ b.load = 0 ∧ b.command = 0 ∧ b.disp = 0 ∧ b.lock = .alone ∧ b.groupLevel = 0 ∧ b.faultCode = code.code

/-- R50, R168, R169: an image that passes every check ends start-up in STANDBY (and passes on to TRIPPED where the cutoff is
asserted, R24): the retained records are kept on an equal tag and cleared otherwise, the constants are taken, the clock runs
from phase 0 at the default period with no trim, the node alarm level, the sensor fault indication and G are formed (R109, R118),
and a PROMPT beat is composed, which reports STANDBY. R144: the bit time is that of the image's bit rate code. R63: the scan points' times are set. R64, R72, R78: the
points of fraction 0 fire: with the converter idle one of them goes into service, the one named first where it is among them, and
the others wait, not carried. With the cutoff asserted the trip that follows is an event of its own, and its PROMPT beat, which reports
TRIPPED, takes the slot (the model's reading: assumption 11). A clear of the retained records leaves the position values and B
at their values after power-on (assumption 12). -/
def Obligations.AGoodImageEndsInStandby : Prop :=
  ∀ (image : List Byte) (p : Nat) (s : State), s.AwaitsImage → imageFault (imageOf image) = none →
    ∃ t, exec (.imageReadComplete image p) s = .next t
      ∧ t.control.mode = (if s.servo.cutoff then .tripped else .standby)
      ∧ t.control.trip = (if s.servo.cutoff then .cutoff else .none) ∧ t.control.qAcc = 0
      ∧ t.control.release = none ∧ t.control.released = false
      ∧ t.settings = readSettings (imageOf image)
      ∧ t.startUp = { s.startUp with loader := .ended, tag := some (tagOf (imageOf image)) }
      ∧ t.recorder = (if s.startUp.tag = some (tagOf (imageOf image)) then s.recorder else Recorder.cleared)
      ∧ t.cracks.sites = (if s.startUp.tag = some (tagOf (imageOf image)) then s.cracks.sites else Cracks.cleared.sites)
      ∧ t.seq = (if s.startUp.tag = some (tagOf (imageOf image)) then s.seq else Sequencer.reset)
      ∧ t.cracks.level = levelOf t.settings.sites t.cracks.sites ∧ t.peers.groupAlarm = t.cracks.level
      ∧ t.cracks.sensorFault = sensorFaultOf t.settings.sites t.cracks.sites
      ∧ (t.control.alarm = true ↔ 2 ≤ t.cracks.level ∨ s.servo.cutoff = true)
      ∧ t.clock.phase = 0 ∧ t.clock.nominal = t.settings.defaultPeriod ∧ t.clock.applied = t.settings.defaultPeriod
      ∧ t.clock.trim = 0 ∧ t.clock.lock = .alone ∧ t.clock.lastMark = none ∧ t.clock.times.length = 8
      ∧ (∀ (k : Nat) (point : ScanPoint), t.settings.points[k]? = some point → t.clock.times[k]? = some (
          match point.fraction, point.head with
          | some f, some _ => some (f * t.settings.defaultPeriod / 256)
          | _, _ => none))
      ∧ (let fires : Nat → Prop := fun k => ∃ head, t.settings.points[k]? = some { fraction := some 0, head := some head }
         ((∀ k, ¬ fires k) → t.scanner = s.scanner)
         ∧ ((∃ k, fires k) → ∃ b head, t.settings.points[b]? = some { fraction := some 0, head := some head } ∧ (fires p → b = p)
             ∧ t.scanner = { s.scanner with
                 converter := .chain b head 0 0 false, input := (recordAt t.settings head).channel, chains := t.scanner.chains }
             ∧ t.scanner.chains.length = 8
             ∧ ∀ (k : Nat) (x : ChainRequest), t.scanner.chains[k]? = some x →
                 (x = .pending false false ∧ fires k ∧ k ≠ b) ∨ (x = .none ∧ ¬ (fires k ∧ k ≠ b))))
      ∧ t.line.bitUs = (match byteAt (imageOf image) 5 with | 1 => 4 | 2 => 2 | _ => 1)
      ∧ t.servo.enable = false ∧ t.servo.buffer = .idle ∧ t.servo.output = .idle
      ∧ t.line.line = .active ∧ t.line.transmitter = .waitGap
      ∧ (∃ b, (s.reachStandby (imageOf image) p).line.beatSlot = some b ∧ b = (s.reachStandby (imageOf image) p).shown .prompt false
          ∧ b.cause = .prompt ∧ b.mode = .standby
          ∧ (s.servo.cutoff = false → t.line.beatSlot = some b))
      ∧ ∃ b, t.line.beatSlot = some b ∧ b = t.shown .prompt false
          ∧ b.cause = .prompt ∧ b.mode = t.control.mode ∧ b.group = t.settings.group
          ∧ b.ownLevel = t.cracks.level ∧ b.groupLevel = t.cracks.level

/-- R30, R66, R81, R93, R140, R166: the checks of an image are made in their order, and the first that fails gives the fault code; an
image that fails none of them passes; and its constants then lie within the bounds of the rules. R171 and section 12.2: each of them
is then read at its place in the image, most significant byte first, with the codes of the section, and so is every entry of the
four tables and each of the eight scan points, whose two bytes are byte 3 of scan records 2k and 2k+1. R168: the pair that the
retained tag is compared with is the programme id and the check sum of the image. -/
def Obligations.PassedChecksBoundTheConstants : Prop :=
  (∀ m : List Byte, imageFault m = none → (readSettings m).HeaderGood ∧ (readSettings m).TablesGood)
  ∧ (∀ m : List Byte, imageFault m = none → (readSettings m).Reads m
      ∧ (tagOf m).1.toNat = byteAt m 2 * 256 + byteAt m 3 ∧ (tagOf m).2.toNat = byteAt m 1984 * 256 + byteAt m 1985)
  ∧ (∀ m : List Byte, m.length = 1986 → (imageFault m = none ↔ ∀ code, ¬ ImageFails m code))
  ∧ ∀ (m : List Byte) (code : FaultCode), m.length = 1986 → (imageFault m = some code ↔
      ∃ earlier later, checkOrder = earlier ++ code :: later ∧ ImageFails m code ∧ ∀ c ∈ earlier, ¬ ImageFails m c)

/-! ## The servo tick -/

/-- R3, R6, R37, R43, R90: a tick in STANDBY or TRIPPED, in every order of the blocks, updates L and D, holds the envelope at 0,
clears the clean and steady flags, and changes nothing else of the node; one in START or CFG_FAULT finds the clock stopped and
changes nothing but the steady flag, which it clears. -/
def Obligations.ATickAtRestSamplesAlone : Prop :=
  ∀ (order : Nat) (rawL rawD : Half) (s : State), s.line.prompt = false →
    (s.control.mode = .standby ∨ s.control.mode = .tripped →
      exec (.servoTick order rawL rawD) s = .next { s with
        servo := { s.servo with
          load := max (-32768) (min 32767 (Int.tdiv ((rawL.toInt - s.settings.zeroLoad) * s.settings.gainLoad) 4096))
          disp := max (-32768) (min 32767 (Int.tdiv ((rawD.toInt - s.settings.zeroDisp) * s.settings.gainDisp) 4096)) }
        seq := { s.seq with envelope := 0, clean := false }
        recorder := { s.recorder with steady := false } })
    ∧ (s.control.mode = .start ∨ s.control.mode = .cfgFault →
      exec (.servoTick order rawL rawD) s = .next { s with recorder := { s.recorder with steady := false } })

/-- R3, R11 to R19, R26: an engaged tick that the load servo takes first, and in which no check fails, forms the command from the
mean term and the enveloped wave, updates the integrator but for a drive that is saturated in the error's direction, and writes
the duty; the enable, the PWM output and the cutoff level stay. R8: the wave and the amplitude are those of a started CYCLE, and
0 elsewhere. R14: the clamp flag is set where the command is clamped, and cleared only by a BEAT that carries it. -/
def Obligations.AnEngagedTickDrivesTheValve : Prop :=
  ∀ (order : Nat) (rawL rawD : Half) (s : State), order % 4 = 0 → s.control.mode.engaged = true → s.servo.cutoff = false →
    s.settings.loadMin ≤ s.settings.loadMax →
    let set := s.settings
    let q : Nat := s.control.qAcc / 4000
    let amplitude : Nat := s.waveAndAmplitude.2 * s.seq.scaleActive / 10000 * (s.seq.envelope / 4000) * q / 1048576
    let mean : Int := set.park + Int.tdiv ((s.seq.base - set.park) * q) 1024
    let raw : Int := mean + Int.tdiv (amplitude * s.waveAndAmplitude.1) 32767
    let command : Int := max set.loadMin (min set.loadMax raw)
    let load : Int := max (-32768) (min 32767 (Int.tdiv ((rawL.toInt - set.zeroLoad) * set.gainLoad) 4096))
    let disp : Int := max (-32768) (min 32767 (Int.tdiv ((rawD.toInt - set.zeroDisp) * set.gainDisp) 4096))
    let e : Int := command - load
    let count : Nat := if set.errLimit < e.natAbs then s.servo.tracking + 1 else 0
    let p : Int := Int.tdiv (set.kp * e) 256
    let new : Int := s.servo.integ + set.ki * e
    let candidate : Int := p + Int.tdiv new 256
    let integ : Int :=
      if set.umax < candidate.natAbs ∧ e ≠ 0 ∧ (0 < e ↔ 0 < candidate) then s.servo.integ
      else max (-(set.imax * 256)) (min (set.imax * 256) new)
    let u : Int := max (-set.umax) (min set.umax (p + Int.tdiv integ 256))
    set.tripMin ≤ load → load ≤ set.tripMax → set.dispMin ≤ disp → disp ≤ set.dispMax → count < max 1 set.errTicks →
      ∃ t, exec (.servoTick order rawL rawD) s = .next t
        ∧ t.servo = { s.servo with
            load := load, disp := disp, command := command, integ := integ, tracking := count
            buffer := .drive (if set.inverted then 2048 - u else 2048 + u).toNat
            clampFlag := t.servo.clampFlag }
        ∧ (t.servo.clampFlag = (s.servo.clampFlag || decide (command ≠ raw))
            ∨ (t.servo.clampFlag = false ∧ ∃ b, t.line.beatSlot = some b ∧ b.cause = .prompt
                ∧ b.flags.clamped = (s.servo.clampFlag || decide (command ≠ raw))))
        ∧ (∀ mean' per n soft a shape, s.seq.state = .active → s.seq.started = true →
            s.segment.body = .cycle mean' a per shape n soft →
            s.waveAndAmplitude = (waveOf shape s.clock.phase s.clock.applied, a))
        ∧ (s.seq.state ≠ .active ∨ s.seq.started = false ∨ s.segment.isCycle = false → s.waveAndAmplitude = (0, 0))
        ∧ t.clock = s.clock ∧ t.scanner = s.scanner ∧ t.cracks = s.cracks ∧ t.peers = s.peers ∧ t.settings = s.settings
        ∧ t.control.mode.engaged = true

/-- R25 to R28, R139: an engaged tick that the load servo takes first and in which a check fails releases the valve and takes the
frame to TRIPPED under the first cause of OVERLOAD, DISP_LIMIT and TRACKING; q, h, the integrator and the tracking counter
become 0, and the measurement, the command and the position stay as the tick found them. One PROMPT beat is composed, which shows
all of it (R156, R157), with the clamp flag that the tick leaves (R14). That the blocks which take this tick
after the load servo take it in TRIPPED is the model's choice (assumption 29). -/
def Obligations.AFailedCheckTripsTheFrame : Prop :=
  ∀ (order : Nat) (rawL rawD : Half) (s : State) (cause : TripCode), order % 4 = 0 → s.control.mode.engaged = true →
    s.settings.loadMin ≤ s.settings.loadMax →
    let set := s.settings
    let command : Int := max set.loadMin (min set.loadMax s.commandRaw)
    let load : Int := max (-32768) (min 32767 (Int.tdiv ((rawL.toInt - set.zeroLoad) * set.gainLoad) 4096))
    let disp : Int := max (-32768) (min 32767 (Int.tdiv ((rawD.toInt - set.zeroDisp) * set.gainDisp) 4096))
    let count : Nat := if set.errLimit < (command - load).natAbs then s.servo.tracking + 1 else 0
    let overload : Prop := load < set.tripMin ∨ set.tripMax < load
    let outside : Prop := disp < set.dispMin ∨ set.dispMax < disp
    (overload ∧ cause = .overload) ∨ (¬ overload ∧ outside ∧ cause = .dispLimit)
      ∨ (¬ overload ∧ ¬ outside ∧ max 1 set.errTicks ≤ count ∧ cause = .tracking) →
      ∃ t, exec (.servoTick order rawL rawD) s = .next t
        ∧ t.control = { s.control with mode := .tripped, trip := cause, qAcc := 0, release := none, released := false, alarm := true }
        ∧ t.servo = { s.servo with
            load := load, disp := disp, command := command, integ := 0, tracking := 0, buffer := .idle, output := .idle
            enable := false, clampFlag := t.servo.clampFlag }
        ∧ t.seq = { s.seq with envelope := 0, softStep := none, clean := false }
        ∧ s.RecordsKeptButSteady t
        ∧ s.ReportsWith .prompt (s.servo.clampFlag || decide (command ≠ s.commandRaw)) t
        ∧ (s.line.line = .active ∨ s.line.line = .stuck → ∃ b, t.line.beatSlot = some b ∧ b.cause = .prompt
            ∧ b.mode = .tripped ∧ b.load = load ∧ b.disp = disp ∧ b.command = command
            ∧ b.faultCode = (if s.line.duplicate then 32 else cause.code))

/-- R13, R17: in every servo tick, in every order of the blocks, the command used lies within load_min..load_max and the duty
written stands for a drive within −Umax..Umax. A tick in an engaged mode uses the command it forms; one in another mode forms none. -/
def Obligations.EveryTickKeepsTheServoLaws : Prop :=
  ∀ (order : Nat) (rawL rawD : Half) (s t : State), s.settings.loadMin ≤ s.settings.loadMax → s.settings.umax ≤ 2047 →
    exec (.servoTick order rawL rawD) s = .next t →
      (s.control.mode.engaged = true → s.servo.cutoff = false →
          s.settings.loadMin ≤ t.servo.command ∧ t.servo.command ≤ s.settings.loadMax)
      ∧ (s.control.mode.engaged = false → t.servo.command = s.servo.command)
      ∧ (t.servo.command = s.servo.command ∨ (s.settings.loadMin ≤ t.servo.command ∧ t.servo.command ≤ s.settings.loadMax))
      ∧ (t.servo.buffer = s.servo.buffer ∨ t.servo.buffer = .idle
          ∨ ∃ d, t.servo.buffer = .drive d ∧ 2048 ≤ d + s.settings.umax ∧ d ≤ 2048 + s.settings.umax)

/-- R128 to R130: a tick in DESCENT takes descent_rate from q_acc, but not past the floor that the lockstep set and the band give
and never upward, and ends in PARKED where q comes to 0; a tick in ASCENT adds it, but not past the ceiling and never downward,
and ends in RUN where q_acc comes to its full value. R138: it goes on to HOLD exactly where the sequencer takes the tick after the
mode controller, in RUN, and the tick is the last of a RAMP or a DWELL at which the programme pauses or ends; so does a tick of RUN,
in either order, at a position that is started, and with none of these the frame stays in RUN. A check that fails in the tick
takes the frame to TRIPPED; HOLD and PARKED stay as they are else. R131: at each change of mode the release timer and the released
flag are stopped and cleared, and elsewhere they stand. R156, R157: a tick that changes the frame mode, and one of DESCENT or ASCENT
that leaves q 32 or more away from the q last reported, gives one PROMPT beat, which shows the state the tick leaves; any other gives
none. -/
def Obligations.TicksMoveTheDescentFraction : Prop :=
  ∀ (order : Nat) (rawL rawD : Half) (s : State), s.servo.cutoff = false →
    let rate := s.settings.descentRate
    let offers := s.peers.offers s.settings.group
    ∃ t, exec (.servoTick order rawL rawD) s = .next t
      ∧ (s.control.mode = .descent →
          let floor : Nat := if s.control.released then 0 else
            match offers.max? with
            | none => 0
            | some largest => (largest - s.settings.band) * 4000
          let candidate := max floor (s.control.qAcc - rate)
          let result := if s.control.qAcc < candidate then s.control.qAcc else candidate
          t.control.mode = .tripped
            ∨ (if result < 4000 then t.control.mode = .parked ∧ t.control.qAcc = 0
               else t.control.mode = .descent ∧ t.control.qAcc = result))
      ∧ (s.control.mode = .ascent →
          let ceiling : Nat := if s.control.released then 4096000 else
            match offers.min? with
            | none => 4096000
            | some smallest => min 4096000 ((smallest + s.settings.band) * 4000)
          let candidate := min ceiling (s.control.qAcc + rate)
          let result := if candidate < s.control.qAcc then s.control.qAcc else candidate
          t.control.mode = .tripped
            ∨ (if 4096000 ≤ result then t.control.qAcc = 4096000
                ∧ (controlFirst order ∧ s.AsksForHold → t.control.mode = .hold)
                ∧ (¬ (controlFirst order ∧ s.AsksForHold) → t.control.mode = .run)
               else t.control.mode = .ascent ∧ t.control.qAcc = result))
      ∧ (s.control.mode = .run ∨ s.control.mode = .hold ∨ s.control.mode = .parked →
          t.control.mode = .tripped ∨ t.control.qAcc = s.control.qAcc)
      ∧ (s.control.mode = .run → t.control.mode = .tripped
          ∨ ((s.seq.started = true ∧ s.AsksForHold → t.control.mode = .hold)
            ∧ (¬ (s.seq.started = true ∧ s.AsksForHold) → t.control.mode = .run)))
      ∧ (s.control.mode = .hold ∨ s.control.mode = .parked → t.control.mode = .tripped ∨ t.control.mode = s.control.mode)
      ∧ s.TimerFollows t
      ∧ ((s.control.mode = .descent ∨ s.control.mode = .ascent) → s.line.prompt = false →
          let after := t.control.qAcc / 4000
          let far : Prop := after + 32 ≤ s.line.lastQ ∨ s.line.lastQ + 32 ≤ after
          (far → s.TickReports t) ∧ (¬ far → t.control.mode = s.control.mode → t.line = s.line))
      ∧ (t.control.mode ≠ s.control.mode → s.TickReports t)
      ∧ (s.control.mode ≠ .descent → s.control.mode ≠ .ascent → t.control.mode = s.control.mode → s.line.prompt = false →
          t.line = s.line)

/-- R127, R128: no tick of DESCENT raises q and no tick of ASCENT lowers it; and before the lockstep release a tick of DESCENT
never lowers q below the q of a counted engaged peer minus the band, and a tick of ASCENT never raises q above it plus the band,
a peer in RUN or HOLD standing at 1024 and one in PARKED at 0 (R122). -/
def Obligations.TicksKeepTheLockstepBound : Prop :=
  ∀ (order : Nat) (rawL rawD : Half) (s t : State) (e : Peer), s.servo.cutoff = false → s.control.qAcc ≤ 4096000 →
    e ∈ s.peers.entries → (e.state = .fresh ∨ e.state = .stale) → e.group = s.settings.group → s.settings.group ≠ 0 →
    e.mode.engaged = true → exec (.servoTick order rawL rawD) s = .next t → t.control.mode ≠ .tripped →
    let offered := if e.mode = .run ∨ e.mode = .hold then 1024 else if e.mode = .parked then 0 else e.q
    let before := s.control.qAcc / 4000
    let after := t.control.qAcc / 4000
    (s.control.mode = .descent → after ≤ before ∧ (s.control.released = false → after = before ∨ offered ≤ after + s.settings.band))
      ∧ (s.control.mode = .ascent → before ≤ after ∧ (s.control.released = false → after = before ∨ after ≤ offered + s.settings.band))

/-- R37, R43: a tick steps h_acc by the frame mode: up by the soft-start step or by hold_rate in RUN and ASCENT, down by
hold_rate in HOLD, and not at all in DESCENT and PARKED; a soft start ends at the full value, goes on with its step below it, and ends where the tick takes the frame out of RUN and ASCENT
(R45); a trip in the tick leaves 0. No tick sets the clean flag or the steady flag; one in another mode than RUN clears both. R37: in RUN the clean flag is cleared at
a tick where h, after its step, or q is below 1024, and kept at any other while a started CYCLE runs. R90: the steady flag is
cleared there too, and where the sequencer is not at a started CYCLE, and kept where h is full before the tick and q is full. -/
def Obligations.TicksStepTheEnvelope : Prop :=
  ∀ (order : Nat) (rawL rawD : Half) (s : State), s.servo.cutoff = false →
    let full : Prop := 4096000 ≤ s.control.qAcc
    let atCycle : Prop := s.seq.state = .active ∧ s.seq.started = true ∧ s.segment.isCycle = true
    ∃ t, exec (.servoTick order rawL rawD) s = .next t
      ∧ (t.control.mode = .tripped ∧ s.control.mode.engaged = true → t.seq.envelope = 0 ∧ t.seq.softStep = none)
      ∧ (t.control.mode ≠ .tripped →
          ((s.control.mode = .run ∨ s.control.mode = .ascent) →
            (∀ step, s.seq.softStep = some step → t.seq.envelope = min 4096000 (s.seq.envelope + step)
              ∧ (4096000 ≤ s.seq.envelope + step → t.seq.softStep = none)
              ∧ (s.seq.envelope + step < 4096000 →
                  t.seq.softStep = if t.control.mode = .run ∨ t.control.mode = .ascent then some step else none))
            ∧ (s.seq.softStep = none → t.seq.envelope = min 4096000 (s.seq.envelope + s.settings.holdRate) ∧ t.seq.softStep = none))
          ∧ (s.control.mode = .hold → t.seq.envelope = s.seq.envelope - s.settings.holdRate ∧ t.seq.clean = false)
          ∧ (s.control.mode = .descent ∨ s.control.mode = .parked → t.seq.envelope = s.seq.envelope ∧ t.seq.clean = false)
          ∧ (s.control.mode = .hold ∨ s.control.mode = .descent ∨ s.control.mode = .parked → s.SoftStartFollows t)
          ∧ (s.control.mode = .run →
              (¬ full ∨ t.seq.envelope < 4096000 → t.seq.clean = false ∧ t.recorder.steady = false)
              ∧ (full → 4096000 ≤ t.seq.envelope → atCycle → t.seq.clean = s.seq.clean)
              ∧ (¬ atCycle → t.recorder.steady = false)
              ∧ (full → 4096000 ≤ s.seq.envelope → atCycle → t.recorder.steady = s.recorder.steady))
          ∧ (s.control.mode = .ascent → t.control.mode = .ascent → t.seq.clean = false))
      ∧ (s.control.mode ≠ .run → s.control.mode ≠ .ascent ∨ t.control.mode = .ascent → t.recorder.steady = false)
      ∧ (t.seq.clean = true → s.seq.clean = true) ∧ (t.recorder.steady = true → s.recorder.steady = true)

/-- R34, R35: in RUN a started RAMP or DWELL takes one tick of segment time, and a RAMP forms B on the line from S to its target. In
RUN at a position not started, at a started CYCLE, in PRE_CYCLE, BARRIER, COMPLETE and IDLE, and in every other mode, in ASCENT as
long as the tick stays in it, a tick advances no segment time and leaves the position and B as they were. R33, R48, R130: a tick
that takes ASCENT to RUN starts a position that is not started, a RAMP with S equal to B, a DWELL with its time and a CYCLE into
PRE_CYCLE, and leaves any other as it was; where the sequencer takes the tick after the mode controller, in RUN, a RAMP or DWELL
that is started then takes one tick of its time, and else none. A check that fails in the tick takes the frame to TRIPPED. -/
def Obligations.RampsAndDwellsTakeTheirTime : Prop :=
  ∀ (order : Nat) (rawL rawD : Half) (s : State), s.servo.cutoff = false →
    let timed : Prop := (∃ target ms, s.segment.body = .ramp target ms) ∨ ∃ ms, s.segment.body = .dwell ms
    let ticked : Sequencer → State → Prop := fun p t =>
      (∀ target ms, s.segment.body = .ramp target ms → s.seq.elapsed + 1 < 4 * ms →
          p.Stands { t.seq with elapsed := p.elapsed, base := p.base } ∧ t.seq.elapsed = s.seq.elapsed + 1
            ∧ t.seq.base = p.rampStart + Int.tdiv ((target - p.rampStart) * (s.seq.elapsed + 1 : Nat)) (4 * ms : Nat))
        ∧ ∀ ms, s.segment.body = .dwell ms → s.seq.elapsed + 1 < 4 * ms →
          p.Stands { t.seq with elapsed := p.elapsed } ∧ t.seq.elapsed = s.seq.elapsed + 1
    ∃ t, exec (.servoTick order rawL rawD) s = .next t
      ∧ (s.control.mode = .run → s.seq.state = .active → s.seq.started = true →
          t.control.mode = .tripped ∨ ticked s.seq t)
      ∧ (s.control.mode = .run → ¬ (s.seq.state = .active ∧ s.seq.started = true ∧ timed) → s.seq.Stands t.seq)
      ∧ (s.control.mode ≠ .run → s.control.mode ≠ .ascent ∨ t.control.mode = .ascent → s.seq.Stands t.seq)
      ∧ (s.control.mode = .ascent → t.control.mode = .run ∨ t.control.mode = .hold →
          let moves : Prop := controlFirst order ∧ s.entered.state = .active ∧ s.entered.started = true ∧ timed
          (moves → ticked s.entered t) ∧ (¬ moves → s.entered.Stands t.seq))

/-- R33, R38 to R42, R138: the tick at which a RAMP's or a DWELL's time is up, in RUN or in the ASCENT that it takes to RUN before
the sequencer takes it, leaves B at the RAMP's target, or in a DWELL as it
stands, and passes on: into BARRIER where it waits
for its peers; into COMPLETE with HOLD where its link is END; to the link target not started with HOLD where it pauses; else to
the link target, which starts, a CYCLE waiting in PRE_CYCLE for its mark. R138, R156, R157: the change of mode of a pause, a
completion or a trip gives one PROMPT beat, which shows the state the tick leaves, with the clamp flag of R14 where the load servo
takes the tick first, under load limits in order, as R166 leaves them; a tick of RUN that leaves the frame in RUN gives none. -/
def Obligations.TheEndOfARampPassesOn : Prop :=
  ∀ (order : Nat) (rawL rawD : Half) (s : State) (target : Int) (ms : Nat), s.servo.cutoff = false →
    s.control.mode = .run ∨ (s.control.mode = .ascent ∧ controlFirst order) → s.seq.state = .active → s.seq.started = true →
    s.segment.body = .ramp target ms ∨ (s.segment.body = .dwell ms ∧ target = s.seq.base) → 1 ≤ ms →
    s.seq.elapsed + 1 = 4 * ms →
    ∃ t, exec (.servoTick order rawL rawD) s = .next t
      ∧ (t.control.mode ≠ s.control.mode → s.TickReports t)
      ∧ (order % 4 = 0 → s.settings.loadMin ≤ s.settings.loadMax → t.control.mode ≠ s.control.mode → s.ReportsWith .prompt
          (s.servo.clampFlag || decide (max s.settings.loadMin (min s.settings.loadMax s.commandRaw) ≠ s.commandRaw)) t)
      ∧ (s.control.mode = .run → t.control.mode = .run → s.line.prompt = false → t.line = s.line)
      ∧ (t.control.mode = .tripped ∨ t.control.mode = .ascent ∨
      (t.seq.base = target ∧
        if s.segment.groupAdvance = true ∧ s.barrierMet = false then
          t.seq.state = .barrier ∧ t.seq.index = s.seq.index ∧ t.seq.started = true ∧ t.control.mode = .run
        else
          match s.segment.link with
          | none => t.seq.state = .complete ∧ t.seq.complete = true ∧ t.seq.index = s.seq.index ∧ t.control.mode = .hold
          | some k =>
            t.seq.index = k ∧ t.seq.elapsed = 0 ∧ t.seq.clean = false
              ∧ if s.segment.pause then t.seq.state = .active ∧ t.seq.started = false ∧ t.control.mode = .hold
                else t.control.mode = .run ∧
                  match (segmentAt s.settings.segments k).body with
                  | .none => True
                  | .ramp _ _ => t.seq.state = .active ∧ t.seq.started = true ∧ t.seq.rampStart = target
                  | .dwell _ => t.seq.state = .active ∧ t.seq.started = true
                  | .cycle _ _ _ _ n _ => t.seq.state = .preCycle ∧ t.seq.started = false ∧ t.seq.remaining = n))

/-! ## The waves -/

/-- R9: the SINE wave is within half a unit (and a thousandth, for the model's fixed-point series: assumption 5) of
32767 sin(2πφ / P), and has the values the rule names at 0, a quarter, a half and three quarters of the cycle; at the four phases
where the product lies half way between two integers it is rounded away from zero. R10: the TRIANGLE
wave rises, falls and rises again by the quotients of the rule, each truncated and clamped. -/
def Obligations.SineFollowsTheSineFunction : Prop :=
  ∀ p per : Nat, 1 ≤ per → p < per →
    |((waveOf .sine p per : Int) : ℝ) - 32767 * Real.sin (2 * Real.pi * p / per)| ≤ 1 / 2 + 1 / 1000
      ∧ waveOf .sine 0 per = 0 ∧ (4 * p = per → waveOf .sine p per = 32767) ∧ (2 * p = per → waveOf .sine p per = 0)
      ∧ (4 * p = 3 * per → waveOf .sine p per = -32767)
      ∧ (12 * p = per ∨ 12 * p = 5 * per → waveOf .sine p per = 16384)
      ∧ (12 * p = 7 * per ∨ 12 * p = 11 * per → waveOf .sine p per = -16384)
      ∧ (p < per / 4 → waveOf .triangle p per = min (32767 : Int) ((131068 * p / per : Nat) : Int))
      ∧ (per / 4 ≤ p → p < 3 * per / 4 →
          waveOf .triangle p per = max (-32767 : Int) (32767 - ((131068 * (p - per / 4) / per : Nat) : Int)))
      ∧ (3 * per / 4 ≤ p → waveOf .triangle p per = min (32767 : Int) (-32767 + ((131068 * (p - 3 * per / 4) / per : Nat) : Int)))

/-! ## The valve pins -/

/-- R20, R22, R23: at the start of a carrier period the PWM output takes the buffer's content, which the buffer keeps, and the enable
is asserted with a duty; while the cutoff is not asserted the pins show both: a duty d stands high for d of the period's 4096
parts from its start, and idle at the idle level. R23, R24, R139: at its assertion the cutoff holds the pins released; in STANDBY
and the engaged modes the frame trips with CUTOFF, and in START, CFG_FAULT and TRIPPED nothing else changes. Its release opens
the gate and does nothing else. -/
def Obligations.TheValvePinsFollowTheBufferAndTheCutoff : Prop :=
  (∀ s : State, ∃ t, exec .carrierPeriodStart s = .next t
     ∧ t = { s with servo := { s.servo with
         output := s.servo.buffer, enable := s.servo.enable || decide (s.servo.buffer ≠ .idle) } }
     ∧ (s.servo.cutoff = false → t.enablePin = t.servo.enable ∧ ∀ k, k < 4096 →
         t.pwmLevel k = (match s.servo.buffer with
           | .idle => s.settings.idleHigh
           | .drive d => decide (k < d))))
  ∧ (∀ s : State, s.line.prompt = false →
       (∃ t, exec .cutoffAssert s = .next t ∧ t.servo.cutoff = true ∧ t.enablePin = false
         ∧ (∀ k, t.pwmLevel k = t.settings.idleHigh)
         ∧ if s.control.mode = .standby ∨ s.control.mode.engaged = true then
             t.control = { s.control with mode := .tripped, trip := .cutoff, qAcc := 0, release := none, released := false, alarm := true }
               ∧ t.servo = { s.servo with cutoff := true, enable := false, buffer := .idle, output := .idle, integ := 0, tracking := 0,
                                          clampFlag := t.servo.clampFlag }
               ∧ t.seq = { s.seq with envelope := 0, softStep := none }
               ∧ s.RecordsKept t ∧ s.Reports .prompt t
           else t = { s with servo := { s.servo with cutoff := true } })
       ∧ exec .cutoffRelease s = .next { s with servo := { s.servo with cutoff := false } })

/-! ## The cycle mark -/

/-- R36, R37: a mark that leaves a CYCLE running takes one from the cycles remaining after a clean cycle and adds one to the partial
cycles after an unclean one in an engaged mode; it sets the clean flag, copies the scale, and runs the next cycle at the CYCLE's
period. In IDLE, BARRIER and COMPLETE, at a RAMP or DWELL, and at a segment not started, a mark counts nothing: it sets the
clean flag, copies the scale, and runs the next cycle at the default period, or in BARRIER after a CYCLE at that CYCLE's. In
either order of the blocks that take it, and with the cutoff asserted too in a frame that is not engaged (R24). R45: a soft start stays, but for a response to the alarm level
that takes the frame out of RUN and ASCENT. -/
def Obligations.AMarkCountsTheEndingCycle : Prop :=
  (∀ (first : Bool) (site : Nat) (s : State) (mean : Int) (amplitude period : Nat) (shape : Shape) (count soft : Nat),
    s.running = true → s.servo.cutoff = false ∨ s.control.mode.engaged = false → s.seq.state = .active → s.seq.started = true →
    s.segment.body = .cycle mean amplitude period shape count soft →
    2 ≤ s.seq.remaining ∨ (s.seq.clean = false ∧ 1 ≤ s.seq.remaining) →
    ∃ t, exec (.cycleMark first site) s = .next t
      ∧ t.seq = { s.seq with
          remaining := if s.seq.clean then s.seq.remaining - 1 else s.seq.remaining
          partialCycles := if s.seq.clean = false ∧ s.control.mode.engaged = true then min 4294967295 (s.seq.partialCycles + 1)
            else s.seq.partialCycles
          clean := true, scaleActive := s.seq.scaleBuffer, softStep := t.seq.softStep }
      ∧ s.SoftStartFollows t
      ∧ t.clock.nominal = period ∧ t.settings = s.settings ∧ t.startUp = s.startUp)
  ∧ (∀ (first : Bool) (site : Nat) (s : State), s.running = true → s.servo.cutoff = false ∨ s.control.mode.engaged = false →
      s.seq.state = .idle ∨ s.seq.state = .barrier ∨ s.seq.state = .complete
        ∨ (s.seq.state = .active ∧ (s.seq.started = false ∨ s.segment.isCycle = false)) →
      ∃ t, exec (.cycleMark first site) s = .next t
        ∧ t.seq = { s.seq with clean := true, scaleActive := s.seq.scaleBuffer, softStep := t.seq.softStep }
        ∧ s.SoftStartFollows t
        ∧ t.clock.nominal = (match s.seq.state, s.segment.body with
            | .barrier, .cycle _ _ period _ _ _ => period
            | _, _ => s.settings.defaultPeriod)
        ∧ t.settings = s.settings ∧ t.startUp = s.startUp)

/-- R33, R36, R44: a CYCLE that waits in PRE_CYCLE starts at the mark, at its mean, with the envelope that the frame mode gives and at
its own period. In the order in which the recorder takes the mark first, the frame mode is the one that a response to the alarm
level leaves. So it is with the cutoff asserted too in a frame that is not engaged (R24). -/
def Obligations.AMarkStartsAWaitingCycle : Prop :=
  ∀ (first : Bool) (site : Nat) (s : State) (mean : Int) (amplitude period : Nat) (shape : Shape) (count soft : Nat),
    s.running = true → s.servo.cutoff = false ∨ s.control.mode.engaged = false → s.seq.state = .preCycle →
    s.segment.body = .cycle mean amplitude period shape count soft →
    ∃ t, exec (.cycleMark first site) s = .next t
      ∧ (let m : Mode := if first then s.control.mode else t.control.mode
         t.seq = { s.seq with
          state := .active, started := true, base := mean, clean := true, scaleActive := s.seq.scaleBuffer
          envelope := if (m = .run ∨ m = .ascent) ∧ soft = 0 then 4096000 else 0
          softStep := if (t.control.mode = .run ∨ t.control.mode = .ascent) ∧ soft ≠ 0 then
            some (max 1 (1024000000 / (soft * period))) else none })
      ∧ (t.control.mode = .run ∨ t.control.mode = .ascent → t.control.mode = s.control.mode)
      ∧ t.clock.nominal = period

/-- R36 to R42: the mark at which a clean cycle takes the cycles remaining to 0 ends the CYCLE: into BARRIER at its own period where it
waits for its peers; into COMPLETE at the default period where its link is END; to the link target not started where it pauses;
else to the link target, which starts. R33, R44: a CYCLE starts at this mark, at its mean and at its own period, with the envelope
that the frame mode gives, and its soft start is in progress where it has one and the frame is in RUN or ASCENT. A frame in RUN
does not stay in RUN through a pause or a completion. In either order of the blocks that take the mark; in the order in which
the recorder takes it first, the frame mode is the one that a response to the alarm level leaves
With the cutoff asserted too in a frame that is not engaged (R24). -/
def Obligations.ACycleEndsAtAMark : Prop :=
  ∀ (first : Bool) (site : Nat) (s : State) (mean : Int) (amplitude period : Nat) (shape : Shape) (count soft : Nat),
    s.running = true → s.servo.cutoff = false ∨ s.control.mode.engaged = false → s.seq.state = .active → s.seq.started = true →
    s.seq.clean = true →
    s.segment.body = .cycle mean amplitude period shape count soft → s.seq.remaining = 1 →
    ∃ t, exec (.cycleMark first site) s = .next t ∧ t.seq.clean = true ∧ t.seq.scaleActive = s.seq.scaleBuffer
      ∧ t.seq.partialCycles = s.seq.partialCycles ∧
      if s.segment.groupAdvance = true ∧ s.barrierMet = false then
        t.seq.state = .barrier ∧ t.seq.index = s.seq.index ∧ t.seq.base = s.seq.base ∧ t.clock.nominal = period
      else
        match s.segment.link with
        | none => t.seq.state = .complete ∧ t.seq.complete = true ∧ t.seq.index = s.seq.index ∧ t.seq.base = s.seq.base
            ∧ t.clock.nominal = s.settings.defaultPeriod ∧ t.control.mode ≠ .run
        | some k => t.seq.index = k ∧
            if s.segment.pause then
              t.seq.state = .active ∧ t.seq.started = false ∧ t.seq.base = s.seq.base
                ∧ t.clock.nominal = s.settings.defaultPeriod ∧ t.control.mode ≠ .run
            else
              match (segmentAt s.settings.segments k).body with
              | .cycle mean' _ period' _ count' soft' =>
                let m : Mode := if first then s.control.mode else t.control.mode
                t.seq.state = .active ∧ t.seq.started = true ∧ t.seq.base = mean'
                  ∧ t.seq.remaining = count' ∧ t.clock.nominal = period'
                  ∧ t.seq.envelope = (if (m = .run ∨ m = .ascent) ∧ soft' = 0 then 4096000 else 0)
                  ∧ t.seq.softStep = (if (t.control.mode = .run ∨ t.control.mode = .ascent) ∧ soft' ≠ 0 then
                      some (max 1 (1024000000 / (soft' * period'))) else none)
                  ∧ (t.control.mode = .run ∨ t.control.mode = .ascent → t.control.mode = s.control.mode)
              | .ramp _ _ => t.seq.state = .active ∧ t.seq.started = true ∧ t.seq.elapsed = 0 ∧ t.seq.base = s.seq.base
                  ∧ t.seq.rampStart = s.seq.base ∧ t.seq.remaining = 0 ∧ t.clock.nominal = s.settings.defaultPeriod
              | .dwell _ => t.seq.state = .active ∧ t.seq.started = true ∧ t.seq.elapsed = 0 ∧ t.seq.base = s.seq.base
                  ∧ t.seq.remaining = 0 ∧ t.clock.nominal = s.settings.defaultPeriod
              | .none => True

/-- R54 to R56, R63: a mark forms the new cycle: the trim from the mean of the offsets held, clamped to a 64th of the nominal period,
the lock state from that mean, the applied period as their sum, and the time of every scan point that fires, within the cycle;
and it clears every offset-valid flag and nothing else of the peer entries. R62: a point that is disabled or has no head gets no
time. R156, R157: one BEAT of cause MARK is composed once every block has taken the mark, and no PROMPT beat; it shows the new
cycle's nominal period and lock state, and the programme, the mode, the total, the levels, the flags and every other field as
the mark leaves them. R131: where a response or a request for HOLD at the mark changes the frame mode, the release timer and the
released flag follow it. -/
def Obligations.AMarkFormsTheNewCycle : Prop :=
  ∀ (first : Bool) (site : Nat) (s : State), s.running = true → ∃ t, exec (.cycleMark first site) s = .next t ∧
    let offsets := (s.peers.entries.filter fun e => e.offsetValid).map fun e => e.offset
    let m : Int := if offsets.length = 0 then 0 else Int.tdiv offsets.sum offsets.length
    let limit : Int := (t.clock.nominal / 64 : Nat)
    t.clock.trim = max (-limit) (min limit (Int.tdiv m 2))
      ∧ (t.clock.applied : Int) = t.clock.nominal + t.clock.trim
      ∧ t.clock.nominal - t.clock.nominal / 64 ≤ t.clock.applied ∧ t.clock.applied ≤ t.clock.nominal + t.clock.nominal / 64
      ∧ t.clock.lock = (if offsets.length = 0 then .alone else if m.natAbs ≤ s.settings.lockWindow then .locked else .seeking)
      ∧ t.clock.phase = 0 ∧ t.clock.lastMark = some s.now ∧ t.clock.buffer = some t.clock.nominal
      ∧ (∀ (k : Nat) (point : ScanPoint) (f head : Nat), s.settings.points[k]? = some point → point.fraction = some f → point.head = some head → f ≤ 255 →
          0 < t.clock.applied →
          t.clock.times[k]? = some (some (f * t.clock.applied / 256)) ∧ f * t.clock.applied / 256 < t.clock.applied)
      ∧ (∀ (k : Nat) (point : ScanPoint), s.settings.points[k]? = some point → point.fraction = none ∨ point.head = none →
          t.clock.times[k]? = some none)
      ∧ t.peers.entries = (s.peers.entries.map fun e => { e with offsetValid := false })
      ∧ s.Reports .mark t ∧ s.TimerFollows t

/-- R85 to R91: a mark closes every enabled channel with samples: the range of its extremes, filed in its bin, cubed into the damage
at or above the cutoff, and the watch flag raised at the threshold; counts an enabled channel without samples as missed; leaves
a disabled one; empties every sample count; and counts the cycle. -/
def Obligations.AMarkClosesTheChannels : Prop :=
  ∀ (first : Bool) (site : Nat) (s : State) (k : Nat) (c : ChannelConst) (r : Channel), s.running = true →
    s.settings.channels[k]? = some c → s.recorder.channels[k]? = some r →
    ∃ t v, exec (.cycleMark first site) s = .next t ∧ t.recorder.channels[k]? = some v
      ∧ t.recorder.total = min 4294967295 (s.recorder.total + 1) ∧ t.recorder.steady = true
      ∧ if c.enabled = true ∧ 1 ≤ r.samples then
          let range := (r.cycleMax - r.cycleMin).toNat
          let bin := min 15 (range / c.binWidth)
          v = { r with
              samples := 0, lastRange := range, bins := v.bins
              damage := if c.endurance ≤ range then min (2 ^ 48 - 1) (r.damage + (range / 8) ^ 3) else r.damage
              watch := r.watch || (decide (c.watchAt ≠ 0) && decide (c.watchAt ≤ v.damage / 65536)) }
            ∧ v.bins.length = r.bins.length
            ∧ ∀ (i n : Nat), r.bins[i]? = some n → v.bins[i]? = some (if i = bin then min 4294967295 (n + 1) else n)
        else if c.enabled then v = { r with samples := 0, missed := min 4294967295 (r.missed + 1) }
        else v = { r with samples := 0 }

/-- R89: every step keeps the law that, until a counter saturates, the bins and the missed count of every enabled channel sum to
the total; but for a start-up that keeps the records of an earlier image under its tag (R168), whose enabled channels are then
judged by a new table. R51, R55: every step keeps the applied period within a 64th of the nominal one. -/
def Obligations.EveryStepKeepsTheCycleLaw : Prop :=
  (∀ s t : State, s.Sized → s.CycleLaw → step s = .next t →
    (∀ image p rest, s.pending = .imageReadComplete image p :: rest → s.startUp.tag ≠ some (tagOf (imageOf image))) → t.CycleLaw)
  ∧ ∀ s t : State, s.PeriodLaw → step s = .next t → t.PeriodLaw

/-! ## Crack sites -/

/-- R97, R103, R108: at a mark a recent reading at or above r_open takes an INTACT or SUSPECT site to SENSOR_FAULT, starts a
SENSOR_FAULT site's recovery afresh, and sets the sensor fault flag of a CONFIRMED or CRITICAL site; one below it clears that
flag, takes a CONFIRMED site to CRITICAL at the critical count, and records one growth for a count above b_max, and none where it
gives the baseline that was awaited, with b_max (R99). R104: one below it counts toward a SENSOR_FAULT site's recovery, and
returns it to INTACT at the run length. A reading that is none or old leaves a SENSOR_FAULT, a CONFIRMED and a CRITICAL site as it
is. R99: a baseline that is awaited is taken from the first reading below r_open, and a baseline taken stays. R100: the capture of
an INTACT site adds the range of a steady cycle and forms the reference at the sixteenth; else it stands. R94: a site that is not
used keeps its record, and with the clock stopped, in START and CFG_FAULT, every site does. R109: the sensor fault indication is formed from the sites as the mark leaves them. -/
def Obligations.OpenReadingsAndGrowthAreRecorded : Prop :=
  (∀ (first : Bool) (site : Nat) (s : State) (k : Nat) (c : SiteConst) (r : Site), s.running = true →
     s.settings.sites[k]? = some c → s.cracks.sites[k]? = some r → c.used = true →
     ∃ t v, exec (.cycleMark first site) s = .next t ∧ t.cracks.sites[k]? = some v
       ∧ let total := min 4294967295 (s.recorder.total + 1)
         let recent : Int → Prop := fun x => c.ladder.isSome = true ∧ r.reading = some x ∧ total - r.stamp ≤ 4
         let broken : Int → Nat := fun x =>
           if x < c.rIntact then 0 else min c.strands ((x - c.rIntact + (c.step / 2 : Nat)).toNat / c.step)
         (∀ x, recent x → c.rOpen ≤ x → match r.state with
           | .intact | .suspect => v = { r with
               state := .sensorFault, evidence := 0, clears := 0, strainSeen := false
               refRange := v.refRange, captureSum := v.captureSum, captureCount := v.captureCount }
           | .sensorFault => v = { r with clears := 0 }
           | .confirmed | .critical => v = { r with faultFlag := true })
         ∧ (∀ x, recent x → x < c.rOpen → r.state = .confirmed ∨ r.state = .critical →
             v = { r with
               state := if r.state = .critical ∨ c.critical ≤ broken x then .critical else .confirmed
               faultFlag := false
               baseline := some (r.baseline.getD (broken x))
               brokenMax := if r.baseline = none then broken x else max r.brokenMax (broken x)
               growth := if r.baseline ≠ none ∧ r.brokenMax < broken x then min 65535 (r.growth + 1) else r.growth })
         ∧ (∀ x, recent x → x < c.rOpen → r.state = .sensorFault →
             let clears := min 65535 (r.clears + 1)
             v = { r with
               state := if c.runLength ≤ clears then .intact else .sensorFault
               evidence := if c.runLength ≤ clears then 0 else r.evidence
               clears := if c.runLength ≤ clears then 0 else clears
               baseline := some (r.baseline.getD (broken x))
               brokenMax := if r.baseline = none then broken x else r.brokenMax })
         ∧ ((∀ x, ¬ recent x) → r.state = .sensorFault ∨ r.state = .confirmed ∨ r.state = .critical → v = r)
         ∧ (∀ x, recent x → x < c.rOpen → r.baseline = none → v.baseline = some (broken x) ∧ v.brokenMax = broken x)
         ∧ (r.baseline.isSome = true ∨ (∀ x, recent x → c.rOpen ≤ x) → v.baseline = r.baseline)
         ∧ (∀ (j : Nat) (g : ChannelConst) (h : Channel), c.channel = some j → s.settings.channels[j]? = some g →
             s.recorder.channels[j]? = some h →
             if r.refRange = none ∧ r.state = .intact ∧ s.recorder.steady = true ∧ g.enabled = true ∧ 1 ≤ h.samples then
               let sum := r.captureSum + (h.cycleMax - h.cycleMin).toNat
               v.captureSum = sum ∧ v.captureCount = r.captureCount + 1
                 ∧ v.refRange = (if r.captureCount + 1 = 16 then some (sum / 16) else none)
             else v.captureSum = r.captureSum ∧ v.captureCount = r.captureCount ∧ v.refRange = r.refRange)
         ∧ (c.channel = none → v.captureSum = r.captureSum ∧ v.captureCount = r.captureCount ∧ v.refRange = r.refRange))
  ∧ (∀ (first : Bool) (site : Nat) (s : State), s.running = true →
     ∃ t, exec (.cycleMark first site) s = .next t
       ∧ (∀ (k : Nat) (c : SiteConst) (r : Site), s.settings.sites[k]? = some c → s.cracks.sites[k]? = some r → c.used = false →
           t.cracks.sites[k]? = some r)
       ∧ (t.cracks.sensorFault = true ↔ ∃ (k : Nat) (c : SiteConst) (v : Site), s.settings.sites[k]? = some c
           ∧ t.cracks.sites[k]? = some v ∧ c.used = true ∧ (v.state = .sensorFault ∨ v.faultFlag = true)))
  ∧ ∀ (first : Bool) (site : Nat) (s : State), s.running = false → exec (.cycleMark first site) s = .next s

/-- R97, R99 to R102, R105 to R108: at a mark whose reading is not open, with the ladder evidence L and the strain evidence S each
true, false or unavailable: true evidence makes an INTACT site SUSPECT and adds to a SUSPECT one's evidence; N such evaluations
confirm it on the ladder, once the gauge has borne it out where there is one, and 4N on the gauge alone, as CRITICAL at the
critical count; with no true evidence and some false, N evaluations return a SUSPECT site to INTACT; else nothing changes. L is
judged with the b0 that the same evaluation may take, and S with the reference that it may complete; without a reference S is
unavailable. -/
def Obligations.LadderEvidenceConfirmsASite : Prop :=
  ∀ (first : Bool) (site : Nat) (s : State) (k : Nat) (c : SiteConst) (r captured : Site) (broken : Nat) (ladder strain : Option Bool),
    s.running = true → s.settings.sites[k]? = some c → s.cracks.sites[k]? = some r → c.used = true →
    r.state = .intact ∨ r.state = .suspect →
    let total : Nat := min 4294967295 (s.recorder.total + 1)
    (∃ x, c.ladder.isSome = true ∧ r.reading = some x ∧ total - r.stamp ≤ 4 ∧ x < c.rOpen
        ∧ broken = (if x < c.rIntact then 0 else min c.strands ((x - c.rIntact + (c.step / 2 : Nat)).toNat / c.step))
        ∧ ladder = some (decide (r.baseline.getD broken < broken)))
      ∨ ((c.ladder = none ∨ r.reading = none ∨ 4 < total - r.stamp) ∧ ladder = none) →
    (∃ j g h, c.channel = some j ∧ s.settings.channels[j]? = some g ∧ s.recorder.channels[j]? = some h ∧
        let range : Nat := (h.cycleMax - h.cycleMin).toNat
        let steady : Bool := g.enabled && decide (1 ≤ h.samples) && s.recorder.steady
        captured = (if r.refRange = none ∧ r.state = .intact ∧ steady = true then { r with
            captureSum := r.captureSum + range, captureCount := r.captureCount + 1
            refRange := if r.captureCount + 1 = 16 then some ((r.captureSum + range) / 16) else none } else r)
          ∧ strain = (match captured.refRange with
            | some ref => if steady then some (decide (ref * c.threshold ≤ ((range : Int) - ref).natAbs * 100)) else none
            | none => none))
      ∨ (c.channel = none ∧ captured = r ∧ strain = none) →
    let base : Site := { captured with
      baseline := if ladder.isSome then some (r.baseline.getD broken) else r.baseline
      brokenMax := if ladder.isSome = true ∧ r.baseline = none then broken else r.brokenMax }
    let evidence : Nat := if r.state = .intact then 1 else min 65535 (r.evidence + 1)
    let clears : Nat := min 65535 (r.clears + 1)
    let seen : Bool := (decide (r.state = .suspect) && r.strainSeen) || decide (strain = some true)
    let byLadder : Prop := ladder = some true ∧ c.runLength ≤ evidence ∧ (c.channel = none ∨ seen = true)
    let byStrain : Prop := strain = some true ∧ 4 * c.runLength ≤ evidence
    ∃ t v, exec (.cycleMark first site) s = .next t ∧ t.cracks.sites[k]? = some v
      ∧ v = if ladder = some true ∨ strain = some true then
          if byLadder ∨ byStrain then { base with
            state := if ladder.isSome = true ∧ c.critical ≤ broken then .critical else .confirmed
            evidence := evidence, clears := 0, strainSeen := seen, confirmCycle := some total
            brokenMax := if ladder = none then r.brokenMax else if byLadder then broken else max base.brokenMax broken
            faultFlag := if ladder = none then r.faultFlag else false }
          else { base with state := .suspect, evidence := evidence, clears := 0, strainSeen := seen }
        else if r.state = .suspect ∧ (ladder = some false ∨ strain = some false) then
          if c.runLength ≤ clears then { base with state := .intact, evidence := 0, clears := 0, strainSeen := false }
          else { base with clears := clears }
        else base

/-- R95: a CONFIRMED site stays CONFIRMED or CRITICAL and a CRITICAL one CRITICAL through every step but those that clear the retained
records: a power-on reset, and a start-up whose image is not the tag's. -/
def Obligations.ConfirmedSitesStayConfirmed : Prop :=
  ∀ (s t : State) (k : Nat) (r : Site), s.Sized → s.cracks.sites[k]? = some r → r.state = .confirmed ∨ r.state = .critical →
    step s = .next t → (∀ rest, s.pending ≠ .powerOnReset :: rest) →
    (∀ image p rest, s.pending = .imageReadComplete image p :: rest → s.startUp.tag = some (tagOf (imageOf image))) →
    ∃ v, t.cracks.sites[k]? = some v ∧ (v.state = .confirmed ∨ v.state = .critical) ∧ (r.state = .critical → v.state = .critical)

/-! ## The strain scanner -/

/-- R69, R72, R76: the firing of a scan point merges into the request of its own that waits or is in service; else its chain goes into
service on an idle converter, and waits, not carried, on a busy one. A firing at a mark's instant that is taken before the mark
is marked so, and the mark then does not carry it (the model's reading: assumption 15). R70, R76: a mark carries every other
chain request that waits; the request in service keeps its flag. The ladder request of every active site with a ladder is
posted: on a busy converter each waits, or merges into the one that waits and is counted; on an idle one with none waiting, one
of them goes into service, the one named first where it is among them, and the others wait. -/
def Obligations.AFiringAsksForItsChain : Prop :=
  (∀ (k f head : Nat) (s : State), s.running = true → k < s.scanner.chains.length →
    s.settings.points[k]? = some { fraction := some f, head := some head } →
    ∃ t, exec (.scanPointFire k) s = .next t ∧
      if s.scanner.serves k = true ∨ (s.scanner.request k).waits = true then
        t = { s with scanner := { s.scanner with overruns := t.scanner.overruns } }
          ∧ ∀ (j n : Nat), s.scanner.overruns[j]? = some n → t.scanner.overruns[j]? = some (if j = k then min 65535 (n + 1) else n)
      else if s.scanner.converter = .idle then
        t = { s with scanner := { s.scanner with
          chains := s.scanner.chains.set k .none, converter := .chain k head 0 0 false, input := (recordAt s.settings head).channel } }
      else
        t = { s with scanner := { s.scanner with
          chains := s.scanner.chains.set k (.pending false (decide (f = 0 ∧ s.clock.phase ≠ 0))) } })
  ∧ (∀ (first : Bool) (site : Nat) (s : State), s.running = true → s.Sized → s.scanner.ladderMerges ≤ 65535 →
      let posted : Nat → Prop := fun j => ∃ c, s.settings.sites[j]? = some c ∧ c.used = true ∧ c.ladder.isSome = true
      ∃ t, exec (.cycleMark first site) s = .next t
        ∧ t.scanner.chains = (s.scanner.chains.map fun
            | .none => .none
            | .pending carried atMark => .pending (carried || !atMark) false)
        ∧ t.scanner.accumulator = s.scanner.accumulator ∧ t.scanner.overruns = s.scanner.overruns ∧ t.scanner.late = s.scanner.late
        ∧ (s.scanner.converter ≠ .idle → t.scanner.converter = s.scanner.converter ∧ t.scanner.input = s.scanner.input
            ∧ (∀ (j : Nat) (w : Bool), s.scanner.ladders[j]? = some w →
                ∃ u, t.scanner.ladders[j]? = some u ∧ (u = true ↔ w = true ∨ posted j))
            ∧ ∃ merged : List Nat, merged.Nodup ∧ (∀ j, j ∈ merged ↔ posted j ∧ s.scanner.ladders[j]? = some true)
                ∧ t.scanner.ladderMerges = min 65535 (s.scanner.ladderMerges + merged.length))
        ∧ (s.scanner.converter = .idle → (∀ w ∈ s.scanner.ladders, w = false) →
            t.scanner.ladderMerges = s.scanner.ladderMerges
            ∧ ((∀ j, ¬ posted j) → t.scanner.converter = .idle ∧ t.scanner.ladders = s.scanner.ladders
                ∧ t.scanner.input = s.scanner.input)
            ∧ ((∃ j, posted j) → ∃ b l, posted b ∧ (posted site → b = site) ∧ (siteConst s.settings b).ladder = some l
                ∧ t.scanner.converter = .ladder b 0 0 ∧ t.scanner.input = 32 + l
                ∧ ∀ (j : Nat) (w : Bool), t.scanner.ladders[j]? = some w → (w = true ↔ posted j ∧ j ≠ b))))

/-- R65, R73, R77: codes that do not end the record or read in service are added to the accumulator, and the converter goes on with
its next sample; more codes than it takes, or none, do nothing (the model's form of a sample: assumption 10). R73, R74, R83, R84: a
record that completes hands the average of its samples, those that the accumulator holds among them, to its channel, which takes it into the open cycle
when enabled, reduced and saturated (and counted when saturated), and discards it when not; a record with a link goes on to the
next with no gap, its request keeping its carried flag. R77, R96: a ladder read hands the average of its four samples to its site, with the total cycle count as its
stamp. No other channel, site or block changes. -/
def Obligations.ResultsReachTheirChannelAndSite : Prop :=
  (∀ (codes : List Half) (s : State) (k n sample us : Nat) (carried : Bool) (record : ScanRecord) (c : ChannelConst) (r : Channel),
     s.scanner.converter = .chain k n sample us carried → s.settings.scans[n]? = some record →
     sample + codes.length = record.samples →
     s.settings.channels[record.channel]? = some c → s.recorder.channels[record.channel]? = some r →
     let average : Int := Int.tdiv (s.scanner.accumulator + (codes.map fun x => x.toInt).sum) record.samples
     let raw : Int := Int.tdiv ((average - c.zero) * c.cal) 1024
     let strain : Int := max (-32767) (min 32767 raw)
     ∃ t v, exec (.recordComplete codes) s = .next t ∧ t.recorder.channels[record.channel]? = some v
       ∧ t = { s with scanner := t.scanner, recorder := { s.recorder with channels := t.recorder.channels } }
       ∧ (∀ j, j ≠ record.channel → t.recorder.channels[j]? = s.recorder.channels[j]?)
       ∧ (v = if c.enabled then
             { r with
               lastStrain := strain
               overRange := if -32767 ≤ raw ∧ raw ≤ 32767 then r.overRange else min 65535 (r.overRange + 1)
               cycleMax := if r.samples = 0 then strain else max r.cycleMax strain
               cycleMin := if r.samples = 0 then strain else min r.cycleMin strain
               samples := min 65535 (r.samples + 1) }
           else r)
       ∧ ∀ next, record.link = some next → t.scanner = { s.scanner with
           accumulator := 0, converter := .chain k next 0 0 carried, input := (recordAt s.settings next).channel })
  ∧ (∀ (codes : List Half) (s : State) (site sample us : Nat), s.scanner.converter = .ladder site sample us →
       sample + codes.length = 4 →
       ∃ t, exec (.ladderReadComplete codes) s = .next t
         ∧ t = { s with scanner := t.scanner, cracks := { s.cracks with sites := t.cracks.sites } }
         ∧ t.cracks.sites.length = s.cracks.sites.length
         ∧ ∀ (j : Nat) (r : Site), s.cracks.sites[j]? = some r → t.cracks.sites[j]? = some (if j = site then
             { r with
               reading := some (Int.tdiv (s.scanner.accumulator + (codes.map fun x => x.toInt).sum) 4), stamp := s.recorder.total }
             else r))
  ∧ ∀ (codes : List Half) (s : State) (i : Instr) (sample takes : Nat) (next : Converter),
      (∃ k n us carried record, i = .recordComplete codes ∧ s.scanner.converter = .chain k n sample us carried
          ∧ s.settings.scans[n]? = some record ∧ takes = record.samples
          ∧ next = .chain k n (sample + codes.length) 0 carried)
        ∨ (∃ site us, i = .ladderReadComplete codes ∧ s.scanner.converter = .ladder site sample us ∧ takes = 4
          ∧ next = .ladder site (sample + codes.length) 0) →
      (codes ≠ [] → sample + codes.length < takes → exec i s = .next { s with scanner := { s.scanner with
          accumulator := s.scanner.accumulator + (codes.map fun x => x.toInt).sum, converter := next } })
      ∧ (takes < sample + codes.length ∨ (codes = [] ∧ sample < takes) → exec i s = .next s)

/-- R71, R73, R76, R77: when a chain's last record or a ladder read completes, the lowest-numbered chain that waits goes into service
(counted late if its request was carried, and keeping that flag); else the lowest-numbered ladder; else the converter is idle. -/
def Obligations.TheArbiterChoosesTheNextWork : Prop :=
  ∀ (i : Instr) (s : State),
    ((∃ codes k n sample us kept record, i = .recordComplete codes ∧ s.scanner.converter = .chain k n sample us kept
        ∧ s.settings.scans[n]? = some record ∧ record.link = none ∧ sample + codes.length = record.samples)
      ∨ ∃ codes site sample us, i = .ladderReadComplete codes ∧ s.scanner.converter = .ladder site sample us
        ∧ sample + codes.length = 4) →
    ∃ t, exec i s = .next t ∧ t.scanner.accumulator = 0 ∧ t.scanner.overruns = s.scanner.overruns
      ∧ t.scanner.ladderMerges = s.scanner.ladderMerges
      ∧ (∀ (j head : Nat) (carried atMark : Bool), s.scanner.chains[j]? = some (.pending carried atMark) →
          (∀ l x, l < j → s.scanner.chains[l]? = some x → x.waits = false) → (pointAt s.settings j).head = some head →
          t.scanner.converter = .chain j head 0 0 carried ∧ t.scanner.chains = s.scanner.chains.set j .none
            ∧ t.scanner.ladders = s.scanner.ladders ∧ t.scanner.input = (recordAt s.settings head).channel
            ∧ t.scanner.late = (if carried then min 65535 (s.scanner.late + 1) else s.scanner.late))
      ∧ ((∀ x ∈ s.scanner.chains, x.waits = false) → t.scanner.chains = s.scanner.chains ∧ t.scanner.late = s.scanner.late
          ∧ (∀ (j ladder : Nat), s.scanner.ladders[j]? = some true → (∀ l, l < j → s.scanner.ladders[l]? = some false) →
              (siteConst s.settings j).ladder = some ladder →
              t.scanner.converter = .ladder j 0 0 ∧ t.scanner.ladders = s.scanner.ladders.set j false
                ∧ t.scanner.input = 32 + ladder)
          ∧ ((∀ x ∈ s.scanner.ladders, x = false) → t.scanner.converter = .idle ∧ t.scanner.ladders = s.scanner.ladders
              ∧ t.scanner.input = s.scanner.input))

/-- R69, R71: every step keeps at most one request of each scan point, pending or in service, and no work waiting behind an idle
converter. R65: in every step the accumulator holds a sum of as many signed 16-bit samples as the converter has completed of the
record or read in service, and 0 while it is idle. -/
def Obligations.EveryStepKeepsTheScannerLaw : Prop :=
  ∀ s t : State, s.Sized → s.ScannerLaw → step s = .next t → t.ScannerLaw

/-! ## The peer view -/

/-- R114, R115: a valid BEAT of another frame station is taken into its entry whole: the previous mode, the fields of the body with q
limited to 1024, the state FRESH and the age 0; no other entry, no record and no part of the clock changes. R170: the lock state code
is recorded as received, 3 included; that its place is the peer's entry is the model's reading (assumption 24). The programme
position changes only where a barrier waits. R156: a PROMPT beat is composed where the arrival leads to a change of the frame
mode, and none where it leads to none. R45, R131: at such a change the release timer and the released flag follow the mode,
and a soft start ends. R114: a BEAT whose source is neither the node nor another frame station, whose mode code
lies outside 1..8 or whose group lies outside 0..4 is not taken, and nothing changes. -/
def Obligations.AnArrivalUpdatesItsEntry : Prop :=
  (∀ (source : Byte) (body : List Byte) (s : State), s.line.line = .active ∨ s.line.line = .listenOnly →
    s.line.assembler = .ready → 1 ≤ source.toNat → source.toNat ≤ 16 → source.toNat ≠ s.startUp.station →
    1 ≤ byteAt body 1 → byteAt body 1 ≤ 8 → byteAt body 0 ≤ 4 → s.peers.entries.length = 16 →
    ∃ t, exec (.beatArrival source body) s = .next t
      ∧ (let old := s.peers.entry source.toNat
         let new := t.peers.entry source.toNat
         let flags := byteAt body 3
         new.mode.code = byteAt body 1
          ∧ new = { old with
              previous := if old.state = .empty then none else some old.mode
              group := byteAt body 0, mode := new.mode, ownLevel := byteAt body 2 / 16 % 4, groupLevel := byteAt body 2 % 4
              flags := { sensorFault := flags.testBit 0, damageWatch := flags.testBit 1, clamped := flags.testBit 2,
                         barrierWait := flags.testBit 3, complete := flags.testBit 4, peerLost := flags.testBit 5,
                         released := flags.testBit 6 }
              segIndex := byteAt body 5, remaining := fieldAt body 6 3, cycles := fieldAt body 9 4
              q := min 1024 (fieldAt body 13 2), period := fieldAt body 15 3, lockCode := byteAt body 4 % 4, state := .fresh, ageUs := 0
              offset := new.offset, offsetValid := new.offsetValid })
      ∧ (∀ n, 1 ≤ n → n ≤ 16 → n ≠ source.toNat → t.peers.entry n = s.peers.entry n)
      ∧ t.clock = s.clock ∧ t.scanner = s.scanner ∧ t.recorder = s.recorder ∧ t.cracks = s.cracks ∧ t.startUp = s.startUp
      ∧ t.settings = s.settings
      ∧ (s.seq.state ≠ .barrier → s.servo.cutoff = false ∨ s.control.mode.engaged = false →
          t.seq = { s.seq with softStep := t.seq.softStep })
      ∧ s.PromptsOnChange t ∧ s.TimerFollows t ∧ s.SoftStartFollows t)
  ∧ ∀ (source : Byte) (body : List Byte) (s : State), s.line.line = .active ∨ s.line.line = .listenOnly →
      s.line.assembler = .ready → s.line.prompt = false → source.toNat ≠ s.startUp.station →
      source.toNat = 0 ∨ 17 ≤ source.toNat ∨ byteAt body 1 = 0 ∨ 9 ≤ byteAt body 1 ∨ 5 ≤ byteAt body 0 →
      exec (.beatArrival source body) s = .next s

/-- R58 to R60: a MARK beat of a counted peer at the node's own nominal period, its deferral not saturated, leaves in the peer's entry
the offset that is the node's phase less the transmission time (36 characters of 11 bits) and the deferral, modulo the applied
period and within half of it; any other beat leaves the offset and its flag. -/
def Obligations.AMarkBeatGivesAPhaseOffset : Prop :=
  ∀ (source : Byte) (body : List Byte) (s : State), s.line.line = .active ∨ s.line.line = .listenOnly →
    s.line.assembler = .ready → 1 ≤ source.toNat → source.toNat ≤ 16 → source.toNat ≠ s.startUp.station →
    1 ≤ byteAt body 1 → byteAt body 1 ≤ 8 → byteAt body 0 ≤ 4 → s.peers.entries.length = 16 → 0 < s.clock.applied →
    let old := s.peers.entry source.toNat
    let qualifies : Prop := s.running = true ∧ byteAt body 4 / 16 = 1 ∧ byteAt body 0 = s.settings.group ∧ s.settings.group ≠ 0
      ∧ fieldAt body 15 3 = s.clock.nominal ∧ fieldAt body 18 2 < 65535
    ∃ t, exec (.beatArrival source body) s = .next t
      ∧ (qualifies → (t.peers.entry source.toNat).offsetValid = true
          ∧ -(s.clock.applied : Int) < 2 * (t.peers.entry source.toNat).offset
          ∧ 2 * (t.peers.entry source.toNat).offset ≤ s.clock.applied
          ∧ (s.clock.applied : Int) ∣ (t.peers.entry source.toNat).offset
              - (s.clock.phase - 36 * 11 * s.line.bitUs - fieldAt body 18 2))
      ∧ (¬ qualifies → (t.peers.entry source.toNat).offset = old.offset
          ∧ (t.peers.entry source.toNat).offsetValid = old.offsetValid)

/-- R116, R131: a FRESH entry whose age has reached stale_ms becomes STALE at its expiry and, where G stands as R118 forms it and no
barrier waits, nothing else of the node changes; the expiry of the release timer in DESCENT or ASCENT sets the released flag and
changes nothing else. An expiry taken after an arrival or a change of mode of the same instant has restarted its age or its
timer does not happen: nothing changes (assumption 1). -/
def Obligations.ExpiriesChangeTheirOwnStateAlone : Prop :=
  (∀ (n : Nat) (s : State), 1 ≤ n → n ≤ 16 → (s.peers.entry n).state = .fresh →
      s.settings.staleMs * 1000 ≤ (s.peers.entry n).ageUs → s.peers.entries.length = 16 → s.GroupLaw →
      s.seq.state ≠ .barrier → s.line.prompt = false →
      exec (.peerStale n) s = .next { s with peers := s.peers.setEntry n { s.peers.entry n with state := .stale } })
    ∧ (∀ (n : Nat) (s : State), (s.peers.entry n).state ≠ .fresh ∨ (s.peers.entry n).ageUs < s.settings.staleMs * 1000 →
        exec (.peerStale n) s = .next s)
    ∧ (∀ (n : Nat) (s : State), (s.peers.entry n).state ≠ .stale ∨ (s.peers.entry n).ageUs < s.settings.lostMs * 1000 →
        exec (.peerLost n) s = .next s)
    ∧ (∀ s : State, s.control.mode = .descent ∨ s.control.mode = .ascent → s.control.release = some 0 →
        exec .lockstepRelease s = .next { s with control := { s.control with released := true, release := none } })
    ∧ ∀ s : State, (s.control.mode ≠ .descent ∧ s.control.mode ≠ .ascent) ∨ s.control.release ≠ some 0 →
        exec .lockstepRelease s = .next s

/-- R116, R119, R121, R140, R141: a STALE entry's second expiry makes it LOST, with its fields kept; where it was counted and engaged
it is a peer loss, which the loss policy answers whatever the accept level, and the peer lost indication is set; G does not rise.
R118, R120: an arrival that reports STANDBY, TRIPPED or CFG_FAULT from a peer of the node's group last heard in ASCENT, RUN, HOLD
or DESCENT is a peer drop, which the drop policy answers, where the beat brings no rise of G. R118, R140, R142: a rise of G, by the
own level that a counted peer's arrival brings or by the node's own level at a mark, is answered by the policy of the new level
where that is not NOTE and the level exceeds the accept level; the alarm output follows. An arrival that brings both is answered by
both. R131: a response into DESCENT starts the release timer, any other stops it, both clear the released flag, and where the
mode stands so do they; R45: a response that changes the mode ends a soft start. R156, R157: a change of mode by an arrival or an expiry
gives one PROMPT beat that shows the state it leaves, and none is composed where the mode stands; one at a mark is carried by the MARK
beat. All this holds with the cutoff asserted too in a frame
that is not engaged, whose mode no response changes (R24, R140). -/
def Obligations.PeerLossAndPeerDropAreAnswered : Prop :=
  (∀ (n : Nat) (s : State), 1 ≤ n → n ≤ 16 → (s.peers.entry n).state = .stale →
     s.settings.lostMs * 1000 ≤ (s.peers.entry n).ageUs → s.peers.entries.length = 16 → s.GroupLaw →
     s.seq.state ≠ .barrier → s.servo.cutoff = false ∨ s.control.mode.engaged = false →
     let e := s.peers.entry n
     let loss : Prop := e.group = s.settings.group ∧ s.settings.group ≠ 0 ∧ e.mode.engaged = true
     ∃ t, exec (.peerLost n) s = .next t ∧ t.peers.entry n = { e with state := .lost }
       ∧ (∀ m, 1 ≤ m → m ≤ 16 → m ≠ n → t.peers.entry m = s.peers.entry m)
       ∧ t.peers.groupAlarm ≤ s.peers.groupAlarm
       ∧ (loss → t.control.mode = s.control.mode.answered s.settings.lossPolicy ∧ t.peers.peerLost s.settings.group = true)
       ∧ (¬ loss → t.control.mode = s.control.mode)
       ∧ t.seq = { s.seq with softStep := t.seq.softStep } ∧ s.servo.Kept t.servo ∧ t.clock = s.clock
       ∧ t.scanner = s.scanner ∧ t.recorder = s.recorder ∧ t.cracks = s.cracks ∧ t.settings = s.settings ∧ s.PromptsOnChange t
       ∧ s.TimerFollows t ∧ s.SoftStartFollows t)
  ∧ (∀ (source : Byte) (body : List Byte) (s : State), s.line.line = .active ∨ s.line.line = .listenOnly →
       s.line.assembler = .ready → 1 ≤ source.toNat → source.toNat ≤ 16 → source.toNat ≠ s.startUp.station →
       byteAt body 1 = 1 ∨ byteAt body 1 = 7 ∨ byteAt body 1 = 8 → s.peers.entries.length = 16 → s.GroupLaw →
       byteAt body 2 / 16 % 4 ≤ s.peers.groupAlarm → s.seq.state ≠ .barrier → s.servo.cutoff = false ∨ s.control.mode.engaged = false →
       let old := s.peers.entry source.toNat
       s.settings.group ≠ 0 → (byteAt body 0 = s.settings.group ∧ s.settings.group ≤ 4) ∨ (byteAt body 0 = 0 ∧ old.group = s.settings.group) →
       old.state ≠ .empty →
       ∃ t, exec (.beatArrival source body) s = .next t
         ∧ t.control.mode = (if old.mode = .ascent ∨ old.mode = .run ∨ old.mode = .hold ∨ old.mode = .descent then
             s.control.mode.answered s.settings.dropPolicy else s.control.mode)
         ∧ t.control.accept = s.control.accept ∧ s.servo.Kept t.servo ∧ s.PromptsOnChange t
         ∧ s.TimerFollows t ∧ s.SoftStartFollows t)
  ∧ (let answer : Nat → State → Mode := fun g s =>
       if s.settings.policyFor g ≠ .note ∧ s.control.accept < g then s.control.mode.answered (s.settings.policyFor g)
       else s.control.mode
     (∀ (source : Byte) (body : List Byte) (s : State), s.line.line = .active ∨ s.line.line = .listenOnly →
       s.line.assembler = .ready → 1 ≤ source.toNat → source.toNat ≤ 16 → source.toNat ≠ s.startUp.station →
       1 ≤ byteAt body 1 → byteAt body 1 ≤ 8 → s.peers.entries.length = 16 → s.GroupLaw → byteAt body 0 = s.settings.group →
       1 ≤ s.settings.group → s.settings.group ≤ 4 → s.seq.state ≠ .barrier → s.servo.cutoff = false ∨ s.control.mode.engaged = false →
       let level := byteAt body 2 / 16 % 4
       let old := s.peers.entry source.toNat
       let drop : Prop := (byteAt body 1 = 1 ∨ byteAt body 1 = 7 ∨ byteAt body 1 = 8) ∧ old.state ≠ .empty
         ∧ (old.mode = .ascent ∨ old.mode = .run ∨ old.mode = .hold ∨ old.mode = .descent)
       s.peers.groupAlarm < level →
       ∃ t, exec (.beatArrival source body) s = .next t ∧ t.peers.groupAlarm = level
         ∧ (drop → t.control.mode = (answer level s).answered s.settings.dropPolicy) ∧ (¬ drop → t.control.mode = answer level s)
         ∧ t.control.accept = s.control.accept ∧ (t.control.alarm = true ↔ 2 ≤ level ∨ s.control.mode = .tripped)
         ∧ s.servo.Kept t.servo ∧ s.PromptsOnChange t ∧ s.TimerFollows t ∧ s.SoftStartFollows t)
     ∧ ∀ (first : Bool) (site : Nat) (s : State), s.running = true → s.GroupLaw →
       s.seq.state ≠ .active ∨ s.seq.started = false ∨ s.segment.isCycle = false ∨ 2 ≤ s.seq.remaining
         ∨ (s.seq.clean = false ∧ 1 ≤ s.seq.remaining) → s.servo.cutoff = false ∨ s.control.mode.engaged = false →
       ∃ t, exec (.cycleMark first site) s = .next t ∧ s.Reports .mark t ∧ s.TimerFollows t
         ∧ (t.control.mode ≠ s.control.mode → t.seq.softStep = none)
         ∧ (s.peers.groupAlarm < t.cracks.level → t.peers.groupAlarm = t.cracks.level ∧ t.control.mode = answer t.cracks.level s
             ∧ t.control.accept = s.control.accept ∧ (t.control.alarm = true ↔ 2 ≤ t.cracks.level ∨ s.control.mode = .tripped))
         ∧ (t.peers.groupAlarm ≤ s.peers.groupAlarm → t.control.mode = s.control.mode))

/-- R114, R141, R155: a BEAT of the node's own number on an ACTIVE line silences the line unit, empties all it would send, and takes
RUN, ASCENT and HOLD to DESCENT, with no BEAT composed; q, the trip code and the accept level stay, the release timer starts with that
change (R131), and a soft start ends (R45). On a line already silenced nothing changes. The entries keep what they held. With the cutoff asserted too in a frame that is not engaged (R24). -/
def Obligations.ADuplicateStationSilencesTheNode : Prop :=
  ∀ (source : Byte) (body : List Byte) (s : State), s.line.assembler = .ready → source.toNat = s.startUp.station →
    s.line.prompt = false → s.servo.cutoff = false ∨ s.control.mode.engaged = false →
    (s.line.line = .active → ∃ t, exec (.beatArrival source body) s = .next t
      ∧ t.line = { s.line with line := .listenOnly, duplicate := true, held := none, beatSlot := none, replySlot := none,
                               transmitter := .idle }
      ∧ t.control = (if s.control.mode = .run ∨ s.control.mode = .ascent ∨ s.control.mode = .hold then
            { s.control with mode := .descent, release := some (s.settings.lockstepTimeout * 1000000), released := false
                             alarm := decide (2 ≤ s.peers.groupAlarm) }
          else s.control)
      ∧ t.seq = { s.seq with softStep :=
            if s.control.mode = .run ∨ s.control.mode = .ascent ∨ s.control.mode = .hold then none else s.seq.softStep }
      ∧ t.servo = s.servo ∧ s.RecordsKept t)
    ∧ (s.line.line = .listenOnly → exec (.beatArrival source body) s = .next s)

/-! ## Directives -/

/-- R46, R47, R48, R133, R134: a RUN with entry RESUME that passes its checks is adopted from STANDBY with a position held, from PARKED
and from HOLD: into RUN from HOLD with q full, and into ASCENT from the present q else. The accept level and the scale buffer
take the directive's, the position is kept, and at the entry to RUN a position not started starts. -/
def Obligations.ARunResumesTheProgramme : Prop :=
  ∀ (first : Bool) (d : Directive) (s : State), s.Adopts d → d.entry.toNat = 1 → d.programme = s.settings.programme →
    s.servo.cutoff = false →
    s.settings.policyFor s.peers.groupAlarm = .note ∨ s.peers.groupAlarm ≤ min d.accept.toNat 3 → s.seq.state ≠ .barrier →
    (s.control.mode = .standby ∧ s.seq.state ≠ .idle ∧ s.seq.complete = false) ∨ s.control.mode = .parked ∨ s.control.mode = .hold →
    let target : Mode := if s.control.mode = .hold ∧ 4096000 ≤ s.control.qAcc then .run else .ascent
    ∃ t, exec (.run d first) s = .next t ∧ s.Records d .adopted t ∧ s.Reports .prompt t ∧ s.RecordsKept t ∧ s.servo.Kept t.servo
      ∧ t.control = { s.control with
          mode := target, accept := min d.accept.toNat 3, qAcc := if target = .run then 4096000 else s.control.qAcc
          release := if target = .run then none else some (s.settings.lockstepTimeout * 1000000)
          released := false, alarm := decide (2 ≤ s.peers.groupAlarm) }
      ∧ if target = .run ∧ s.seq.state = .active ∧ s.seq.started = false then
          match s.segment.body with
          | .ramp _ _ => t.seq = { s.seq with scaleBuffer := min d.scale.toNat 10000, started := true, rampStart := s.seq.base }
          | .dwell _ => t.seq = { s.seq with scaleBuffer := min d.scale.toNat 10000, started := true }
          | .cycle _ _ _ _ _ _ => t.seq = { s.seq with scaleBuffer := min d.scale.toNat 10000, state := .preCycle }
          | .none => True
        else t.seq = { s.seq with scaleBuffer := min d.scale.toNat 10000 }

/-- R33, R46, R47, R133, R134: a RUN with entry RESTART that passes its checks is adopted from STANDBY, with B at the park load, and from
HOLD, with B as it stands: the complete flag is cleared and segment 0 starts, a CYCLE waiting for its mark. R131: into ASCENT the release timer starts. -/
def Obligations.ARunRestartsTheProgramme : Prop :=
  ∀ (first : Bool) (d : Directive) (s : State), s.Adopts d → d.entry.toNat = 2 → d.programme = s.settings.programme →
    s.servo.cutoff = false →
    s.settings.policyFor s.peers.groupAlarm = .note ∨ s.peers.groupAlarm ≤ min d.accept.toNat 3 →
    s.control.mode = .standby ∨ s.control.mode = .hold →
    let target : Mode := if s.control.mode = .hold ∧ 4096000 ≤ s.control.qAcc then .run else .ascent
    let base : Int := if s.control.mode = .standby then s.settings.park else s.seq.base
    ∃ t, exec (.run d first) s = .next t ∧ s.Records d .adopted t ∧ s.Reports .prompt t ∧ s.RecordsKept t ∧ s.servo.Kept t.servo
      ∧ t.control = { s.control with
          mode := target, accept := min d.accept.toNat 3, qAcc := if target = .run then 4096000 else s.control.qAcc
          release := if target = .run then none else some (s.settings.lockstepTimeout * 1000000)
          released := false, alarm := decide (2 ≤ s.peers.groupAlarm) }
      ∧ match (segmentAt s.settings.segments 0).body with
        | .ramp _ _ => t.seq = { s.seq with
            scaleBuffer := min d.scale.toNat 10000, complete := false, clean := false, index := 0, elapsed := 0, remaining := 0
            base := base, rampStart := base, state := .active, started := true }
        | .dwell _ => t.seq = { s.seq with
            scaleBuffer := min d.scale.toNat 10000, complete := false, clean := false, index := 0, elapsed := 0, remaining := 0
            base := base, state := .active, started := true }
        | .cycle _ _ _ _ n _ => t.seq = { s.seq with
            scaleBuffer := min d.scale.toNat 10000, complete := false, clean := false, index := 0, elapsed := 0, remaining := n
            base := base, state := .preCycle, started := false }
        | .none => True

/-- R132 to R134: a RUN is refused by the first of its checks that fails: the programme id, the cutoff, the alarm level, the mode; in
CFG_FAULT it and every other directive is refused by the mode at once, BASELINE and SCALE included. A refused directive changes
nothing but the outcome and the refusal count. -/
def Obligations.RefusalsComeInOrderAndChangeNothing : Prop :=
  (∀ (first : Bool) (d : Directive) (s : State), s.Adopts d → d.entry.toNat = 1 ∨ d.entry.toNat = 2 →
     let m := s.control.mode
     let programme : Prop := d.programme ≠ s.settings.programme
     let cutoff : Prop := s.servo.cutoff = true
     let alarm : Prop := s.settings.policyFor s.peers.groupAlarm ≠ .note ∧ min d.accept.toNat 3 < s.peers.groupAlarm
     let complete : Prop := m = .standby ∧ d.entry.toNat = 1 ∧ (s.seq.state = .idle ∨ s.seq.complete = true)
     let mode : Prop := m = .ascent ∨ m = .run ∨ m = .descent ∨ m = .tripped ∨ (m = .parked ∧ d.entry.toNat = 2)
     (m = .cfgFault → ∃ t, exec (.run d first) s = .next t ∧ s.Refused d .refusedMode t)
       ∧ (m ≠ .cfgFault → programme → ∃ t, exec (.run d first) s = .next t ∧ s.Refused d .refusedProgram t)
       ∧ (m ≠ .cfgFault → ¬ programme → cutoff → ∃ t, exec (.run d first) s = .next t ∧ s.Refused d .refusedCutoff t)
       ∧ (m ≠ .cfgFault → ¬ programme → ¬ cutoff → alarm → ∃ t, exec (.run d first) s = .next t ∧ s.Refused d .refusedAlarm t)
       ∧ (¬ programme → ¬ cutoff → ¬ alarm → complete → ∃ t, exec (.run d first) s = .next t ∧ s.Refused d .refusedComplete t)
       ∧ (¬ programme → ¬ cutoff → ¬ alarm → mode → ∃ t, exec (.run d first) s = .next t ∧ s.Refused d .refusedMode t))
  ∧ (∀ (d : Directive) (s : State) (i : Instr), s.Adopts d → s.control.mode = .cfgFault →
       i ∈ [.hold d, .unload d, .stop d, .resetTrip d, .baseline d, .scale d] →
       ∃ t, exec i s = .next t ∧ s.Refused d .refusedMode t)

/-- R45, R131, R135: HOLD is adopted in RUN and ASCENT, and UNLOAD in RUN, ASCENT and HOLD, with q and the envelope where they stand, a
soft start ended, and the release timer stopped or started; in every other mode each is refused with REFUSED_MODE. (With the
cutoff asserted the frame is in none of those modes: R24.) -/
def Obligations.HoldAndUnloadAreDecidedByTheMode : Prop :=
  ∀ (d : Directive) (s : State), s.Adopts d →
    (∃ t, exec (.hold d) s = .next t ∧
      if s.control.mode = .run ∨ s.control.mode = .ascent then s.servo.cutoff = false →
        s.Records d .adopted t ∧ s.Reports .prompt t ∧ s.RecordsKept t ∧ s.servo.Kept t.servo
          ∧ t.seq = { s.seq with softStep := none }
          ∧ t.control = { s.control with mode := .hold, release := none, released := false, alarm := decide (2 ≤ s.peers.groupAlarm) }
      else s.Refused d .refusedMode t)
    ∧ ∃ t, exec (.unload d) s = .next t ∧
      if s.control.mode = .run ∨ s.control.mode = .ascent ∨ s.control.mode = .hold then s.servo.cutoff = false →
        s.Records d .adopted t ∧ s.Reports .prompt t ∧ s.RecordsKept t ∧ s.servo.Kept t.servo
          ∧ t.seq = { s.seq with softStep := none }
          ∧ t.control = { s.control with mode := .descent, release := some (s.settings.lockstepTimeout * 1000000)
                                         released := false, alarm := decide (2 ≤ s.peers.groupAlarm) }
      else s.Refused d .refusedMode t

/-- R28, R45, R127, R136: STOP is adopted in PARKED, and RESET_TRIP in TRIPPED with the cutoff not asserted: each enters STANDBY with the
valve released, the integrator, the tracking counter, q and h at 0, and RESET_TRIP clears the trip code. In every other mode each
is refused with REFUSED_MODE, and RESET_TRIP with REFUSED_CUTOFF while the cutoff is asserted. (With the cutoff asserted no frame is
in PARKED: R24.) -/
def Obligations.StopAndResetTripAreDecidedByTheMode : Prop :=
  ∀ (d : Directive) (s : State), s.Adopts d →
    let atRest : State → Prop := fun t => s.Records d .adopted t ∧ s.Reports .prompt t ∧ s.RecordsKept t
      ∧ t.servo = { s.servo with enable := false, buffer := .idle, output := .idle, integ := 0, tracking := 0,
                                 clampFlag := t.servo.clampFlag }
      ∧ t.seq = { s.seq with envelope := 0, softStep := none }
    (∃ t, exec (.stop d) s = .next t ∧
      if s.control.mode = .parked then s.servo.cutoff = false → atRest t
        ∧ t.control = { s.control with mode := .standby, qAcc := 0, release := none, released := false,
                                       alarm := decide (2 ≤ s.peers.groupAlarm) }
      else s.Refused d .refusedMode t)
    ∧ ∃ t, exec (.resetTrip d) s = .next t ∧
      if s.control.mode ≠ .tripped then s.Refused d .refusedMode t
      else if s.servo.cutoff = true then s.Refused d .refusedCutoff t
      else atRest t ∧ t.control = { s.control with mode := .standby, trip := .none, qAcc := 0, release := none, released := false,
                                                   alarm := decide (2 ≤ s.peers.groupAlarm) }

/-- R46, R110, R137: outside START and CFG_FAULT, SCALE is adopted and written to the scale buffer, at most 10000; BASELINE is adopted
and makes every active INTACT site await its baseline and capture its reference afresh, and changes no other site. -/
def Obligations.ScaleAndBaselineAreAdopted : Prop :=
  ∀ (d : Directive) (s : State), s.Adopts d → s.running = true →
    (∃ t, exec (.scale d) s = .next t ∧ s.Records d .adopted t ∧ s.Reports .prompt t ∧ s.RecordsKept t ∧ s.servo.Kept t.servo
      ∧ t.control = s.control ∧ t.seq = { s.seq with scaleBuffer := min d.scale.toNat 10000 })
    ∧ ∃ t, exec (.baseline d) s = .next t ∧ s.Records d .adopted t ∧ s.Reports .prompt t
      ∧ State.RecordsKept { s with cracks := t.cracks } t ∧ s.servo.Kept t.servo ∧ t.control = s.control ∧ t.seq = s.seq
      ∧ t.cracks.level = s.cracks.level ∧ t.cracks.sensorFault = s.cracks.sensorFault
      ∧ ∀ (k : Nat) (c : SiteConst) (r : Site), s.settings.sites[k]? = some c → s.cracks.sites[k]? = some r →
          t.cracks.sites[k]? = some (if c.used = true ∧ r.state = .intact then
            { r with baseline := none, refRange := none, captureSum := 0, captureCount := 0 } else r)

/-- R158, R159: a directive that is not from a console, whose mask does not name the node's group, whose RUN entry is neither of the
two, whose epoch is not newer than the one seen, or whose action is none of the seven changes nothing (where it ends no message in
progress, the assembler included); the first epoch heard is recorded alone. In every step the seen epoch stays, is replaced by a newer one, or is forgotten at a reset. -/
def Obligations.OnlyNewerEpochsAreObeyed : Prop :=
  (∀ (d : Directive) (s : State) (i : Instr) (first : Bool) (action : Byte), s.line.prompt = false → (∀ l, s.line.assembler ≠ .taking l) →
     let ready : Prop := (s.line.line = .active ∨ s.line.line = .listenOnly) ∧ s.line.assembler = .ready
     let named : Prop := if s.settings.group = 0 then d.mask.toNat % 16 ≠ 0
       else d.mask.toNat % 16 / 2 ^ (s.settings.group - 1) % 2 = 1
     let console : Prop := 17 ≤ d.source.toNat ∧ d.source.toNat ≤ 30
     let entry : Prop := d.entry.toNat = 1 ∨ d.entry.toNat = 2
     i ∈ [.run d first, .hold d, .unload d, .stop d, .resetTrip d, .baseline d, .scale d] →
     (¬ console ∨ ¬ named ∨ (i = .run d first ∧ ¬ entry) → exec i s = .next s)
       ∧ (ready → console → named → (i = .run d first → entry) → s.line.seenEpoch = none →
           exec i s = .next { s with line := { s.line with seenEpoch := some d.epoch } })
       ∧ (∀ o, s.line.seenEpoch = some o → d.epoch = o ∨ 32768 ≤ (d.epoch - o).toNat → exec i s = .next s)
       ∧ exec (.directiveUnknownAction action d) s = .next s)
  ∧ (∀ (s t : State) (o : Half), s.line.seenEpoch = some o → step s = .next t →
       t.line.seenEpoch = some o
         ∨ (∃ n, t.line.seenEpoch = some n ∧ 1 ≤ (n - o).toNat ∧ (n - o).toNat ≤ 32767)
         ∨ (t.line.seenEpoch = none ∧ ∃ rest, s.pending = .powerOnReset :: rest ∨ s.pending = .resetPinAssert :: rest))

/-! ## Queries -/

/-- R92, R161, R162 and section 12.1: CHANNEL, HIST_LO and HIST_HI are answered from the channel's record as it stands, in the layout of
the REPLY, and with no content for an index outside 0..31; a query of no console, for another station, or
on a line in LISTEN_ONLY changes nothing, whatever its record kind (where it ends no message in progress, the assembler included). -/
def Obligations.ChannelQueriesAreAnswered : Prop :=
  ∀ (q : Query) (s : State), s.recorder.channels.length = 32 →
    (s.Answers q →
      (32 ≤ q.index.toNat →
        exec (.channel q) s = .next (s.replied 1#8 q.index none) ∧ exec (.histLo q) s = .next (s.replied 2#8 q.index none)
          ∧ exec (.histHi q) s = .next (s.replied 3#8 q.index none))
      ∧ ∀ r : Channel, s.recorder.channels[q.index.toNat]? = some r → r.bins.length = 16 →
        exec (.channel q) s = .next (s.replied 1#8 q.index (some
          (signedBytes r.lastStrain ++ bytesOf 2 r.lastRange ++ signedBytes r.cycleMax ++ signedBytes r.cycleMin
            ++ bytesOf 2 r.samples ++ bytesOf 4 r.missed ++ bytesOf 2 r.overRange ++ bytesOf 6 r.damage
            ++ [if r.watch then 1#8 else 0#8])))
        ∧ exec (.histLo q) s = .next (s.replied 2#8 q.index (some ((r.bins.take 8).flatMap (bytesOf 4))))
        ∧ exec (.histHi q) s = .next (s.replied 3#8 q.index (some ((r.bins.drop 8).flatMap (bytesOf 4)))))
    ∧ (q.source.toNat < 17 ∨ 30 < q.source.toNat ∨ q.target.toNat ≠ s.startUp.station ∨ s.line.line = .listenOnly →
        (∀ l, s.line.assembler ≠ .taking l) → ∀ (kind : Byte) (i : Instr),
          i ∈ [.channel q, .histLo q, .histHi q, .crack q, .segment q, .counters q, .peer q, .queryUnknownKind kind q] →
          exec i s = .next s)

/-- R49, R111, R125, R161, R162, R170: CRACK and PEER are answered from the record that the index names, SEGMENT and COUNTERS whatever the
index, the COUNTERS reply counting its own overrun; an index outside the range and an unknown kind get a reply with no content. A
reading that is absent, or whose ladder is NONE, shows no age and no count; in CFG_FAULT a kept reading shows its age, and its
open bit and count come from constants that are free values (assumption 7). -/
def Obligations.RecordQueriesAreAnswered : Prop :=
  ∀ (q : Query) (kind : Byte) (s : State), s.Answers q → s.cracks.sites.length = 12 → s.settings.sites.length = 12 →
    s.peers.entries.length = 16 →
    (12 ≤ q.index.toNat → exec (.crack q) s = .next (s.replied 4#8 q.index none))
      ∧ (∀ (c : SiteConst) (r : Site), s.settings.sites[q.index.toNat]? = some c → s.cracks.sites[q.index.toNat]? = some r →
          let content : Bool → Bool → Nat → List Byte := fun shown isOpen broken =>
            bytesOf 1 r.state.code
              ++ bytesOf 1 ((if r.baseline.isSome then 1 else 0) + (if shown then 2 else 0) + (if isOpen then 4 else 0)
                + (if r.refRange.isSome then 8 else 0) + (if r.confirmCycle.isSome then 16 else 0))
              ++ bytesOf 1 (r.baseline.getD 0) ++ bytesOf 1 r.brokenMax ++ bytesOf 1 broken
              ++ bytesOf 4 (if shown then s.recorder.total - r.stamp else 0) ++ bytesOf 2 r.evidence ++ bytesOf 2 r.clears
              ++ bytesOf 2 (r.refRange.getD 0) ++ bytesOf 1 r.captureCount ++ bytesOf 2 r.growth
              ++ bytesOf 4 (r.confirmCycle.getD 0)
          (∀ x, s.control.mode ≠ .cfgFault → r.reading = some x → c.ladder.isSome = true →
            exec (.crack q) s = .next (s.replied 4#8 q.index (some (content true (decide (c.rOpen ≤ x))
              (if c.rOpen ≤ x ∨ x < c.rIntact then 0
                else min c.strands ((x - c.rIntact + (c.step / 2 : Nat)).toNat / c.step))))))
          ∧ (r.reading = none ∨ (s.control.mode ≠ .cfgFault ∧ c.ladder = none) →
            exec (.crack q) s = .next (s.replied 4#8 q.index (some (content false false 0))))
          ∧ (∀ x, s.control.mode = .cfgFault → r.reading = some x → ∃ isOpen broken, broken ≤ 10 ∧ (isOpen = true → broken = 0) ∧
            exec (.crack q) s = .next (s.replied 4#8 q.index (some (content true isOpen broken)))))
      ∧ exec (.segment q) s = .next (s.replied 5#8 q.index (some
          (if s.seq.state = .idle then [255#8, 0#8, 0#8, 0#8, 0#8, 0#8, 0#8, 0#8, 0#8]
           else bytesOf 1 s.seq.index ++ [if s.seq.started then 1#8 else 0#8] ++ bytesOf 1 s.seq.state.code
             ++ bytesOf 3 s.seq.remaining ++ bytesOf 3 s.seq.elapsed)))
      ∧ exec (.counters q) s = .next (s.replied 6#8 q.index (some
          (bytesOf 1 s.line.abandons
            ++ bytesOf 1 (if s.line.replySlot.isSome then min 255 (s.line.queryOverruns + 1) else s.line.queryOverruns)
            ++ s.scanner.overruns.flatMap (bytesOf 2) ++ bytesOf 2 s.scanner.late ++ bytesOf 2 s.scanner.ladderMerges
            ++ bytesOf 4 s.seq.partialCycles ++ bytesOf 2 s.control.refusals)))
      ∧ (q.index.toNat = 0 ∨ 17 ≤ q.index.toNat → exec (.peer q) s = .next (s.replied 7#8 q.index none))
      ∧ (∀ e : Peer, 1 ≤ q.index.toNat → q.index.toNat ≤ 16 → s.peers.entries[q.index.toNat - 1]? = some e →
          exec (.peer q) s = .next (s.replied 7#8 q.index (some
            (bytesOf 1 e.state.code ++ bytesOf 2 (min 65535 (e.ageUs / 1000)) ++ bytesOf 1 e.group ++ bytesOf 1 e.mode.code
              ++ bytesOf 1 (match e.previous with | some m => m.code | none => 0)
              ++ bytesOf 1 (e.ownLevel % 4 * 16 + e.groupLevel % 4) ++ bytesOf 1 e.flags.byte ++ bytesOf 1 e.segIndex
              ++ bytesOf 3 e.remaining ++ bytesOf 2 e.q ++ bytesOf 3 e.period ++ bytesOf 4 e.cycles
              ++ bytesOf 4 (BitVec.ofInt 32 e.offset).toNat ++ [if e.offsetValid then 1#8 else 0#8]))))
      ∧ exec (.queryUnknownKind kind q) s = .next (s.replied kind q.index none)

/-! ## The hall line -/

/-- R61, R149, R150: in ACTIVE a transmitter in WAIT_GAP starts: a held REPLY again; a BEAT that waits in its slot, in place of a held
BEAT or of nothing; a held BEAT again where no newer waits; else the REPLY that waits. The wire carries the whole message, with
a BEAT's deferral taken afresh, for eleven bit times a character, and the assembler takes nothing meanwhile. That the deferral of
an INTERVAL or PROMPT beat counts from the node's most recent mark at the start of the transmission is the model's reading
(assumption 13), and that the command comes at the instant at which the gap is complete is its choice (assumption 28). -/
def Obligations.TheTransmitterStartsFromItsGap : Prop :=
  ∀ s : State, s.line.line = .active → s.line.transmitter = .waitGap →
    let beatWire : Beat → List Byte := fun b =>
      framed 1 s.startUp.station (b.body (match (if b.cause = .mark then b.markedAt else s.clock.lastMark) with
        | some t => min 65535 (s.now - t)
        | none => 0))
    let replyWire : Reply → List Byte := fun r => framed 4 s.startUp.station r.body
    let sends : Held → List Byte → Option Beat → Option Reply → Prop := fun h wire beat reply =>
      exec .transmitStart s = .next { s with line := { s.line with
        held := some h, beatSlot := beat, replySlot := reply, assembler := .waiting
        transmitter := .sending wire (wire.length * (11 * s.line.bitUs)) } }
    (∀ r n, s.line.held = some ⟨.reply r, n⟩ → sends ⟨.reply r, n⟩ (replyWire r) s.line.beatSlot s.line.replySlot)
      ∧ (∀ b, s.line.beatSlot = some b → (s.line.held = none ∨ ∃ a n, s.line.held = some ⟨.beat a, n⟩) →
          sends ⟨.beat b, 0⟩ (beatWire b) none s.line.replySlot ∧ (beatWire b).length = 36)
      ∧ (∀ b n, s.line.held = some ⟨.beat b, n⟩ → s.line.beatSlot = none →
          sends ⟨.beat b, n⟩ (beatWire b) none s.line.replySlot)
      ∧ ∀ r, s.line.held = none → s.line.beatSlot = none → s.line.replySlot = some r →
          sends ⟨.reply r, 0⟩ (replyWire r) none none

/-- R150 to R152: a message sent whole is gone; a bit that the transmitter released and that reads low jams it for a character time
and counts, and a bit it drives low never does; after the jam the sixteenth collision abandons it, and an earlier one backs off
by the station and the attempt, after which the transmitter waits for its gap. -/
def Obligations.CollisionsJamAndBackOff : Prop :=
  ∀ s : State,
    let after : Transmitter :=
      if s.line.line = .active ∧ (s.line.beatSlot.isSome ∨ s.line.replySlot.isSome) then .waitGap else .idle
    (∀ wire left, s.line.transmitter = .sending wire left →
        exec .transmitComplete s = .next { s with line := { s.line with held := none, transmitter := after } }
        ∧ ∀ bit h, s.line.held = some h →
          ((wireBits wire)[bit]? = some true → exec (.collision bit) s = .next { s with line := { s.line with
            held := some { h with collisions := h.collisions + 1 }, transmitter := .jam (11 * s.line.bitUs) } })
          ∧ ((wireBits wire)[bit]? = some false → exec (.collision bit) s = .next s))
      ∧ (∀ left h, s.line.transmitter = .jam left → s.line.held = some h →
          (h.collisions = 16 → exec .jamEnd s = .next { s with line := { s.line with
            held := none, abandons := min 255 (s.line.abandons + 1), transmitter := after } })
          ∧ (h.collisions < 16 → exec .jamEnd s = .next { s with line := { s.line with
              transmitter := .backoff (((s.startUp.station * 5 + h.collisions * 3) % 16 + 1) * (11 * s.line.bitUs)) } }))
      ∧ ∀ left, s.line.transmitter = .backoff left →
          exec .backoffEnd s = .next { s with line := { s.line with transmitter := .waitGap } }

/-- R146, R147, R153: a stuck line drops the held message, idles the transmitter and stops the assembler, and leaves to LISTEN_ONLY where
the fault code is DUPLICATE and to ACTIVE else. The assembler holds the characters so far of a message in progress (assumption
17), and takes more of them while its byte 2, once it has come, gives at most 48 and further ones are expected; a damaged message
is counted and discarded, and the assembler waits for a quiet line; the gap discards a message in progress and nothing else. A
valid message ends the one in progress that its characters begin, is handed on as one that comes whole, and leaves the assembler
ready; one that they do not begin does not come. A REPLY is taken by no block. A waiting assembler becomes ready in any state of
the transmitter but SENDING and JAM. -/
def Obligations.TheReceiverAndTheStuckLine : Prop :=
  ∀ s : State,
    let works : Prop := s.line.line = .active ∨ s.line.line = .listenOnly
    let discarded : State := { s with line := { s.line with
      lineErrors := min 255 (s.line.lineErrors + 1), assembler := .waiting } }
    let unfinished : List Byte → Prop := fun l => 1 ≤ l.length ∧ (3 ≤ l.length → byteAt l 2 ≤ 48 ∧ l.length < 5 + byteAt l 2)
    let holds : List Byte → Prop := fun l => (s.line.assembler = .ready ∧ l = []) ∨ (s.line.assembler = .taking l ∧ l ≠ [])
    (works → exec .lineStuck s = .next { s with line := { s.line with
        line := .stuck, held := none, transmitter := .idle, assembler := .off } })
    ∧ (s.line.line = .stuck → s.line.transmitter = .idle → exec .lineStuckRelease s = .next { s with line := { s.line with
        line := if s.line.duplicate then .listenOnly else .active, assembler := .ready
        transmitter := if s.line.duplicate = false ∧ (s.line.beatSlot.isSome ∨ s.line.replySlot.isSome) then .waitGap else .idle } })
    ∧ (works → ∀ l : List Byte, holds l →
        (∀ more : List Byte, more ≠ [] → unfinished (l ++ more) → exec (.receiveDiscard (.unfinished more)) s =
          .next { s with line := { s.line with assembler := .taking (l ++ more) } })
        ∧ (unfinished l → exec .receiveGapExpiry s = .next discarded)
        ∧ (l = [] → exec .receiveGapExpiry s = .next s)
        ∧ ∀ error : ReceiveError,
          (error = .parity ∨ error = .framing ∨ (∃ n : Byte, error = .tooLong n ∧ 48 < n.toNat ∧ l.length ≤ 2)
            ∨ ∃ bytes : List Byte, error = .rejected bytes ∧ l <+: bytes ∧ 3 ≤ bytes.length ∧ bytes.length = 5 + byteAt bytes 2
                ∧ byteAt bytes 2 ≤ 48 ∧ arrivalValid bytes = false) →
          exec (.receiveDiscard error) s = .next discarded)
    ∧ (works → ∀ (l bytes : List Byte) (first : Bool), s.line.assembler = .taking l → byteAt bytes 2 ≤ 48 →
        arrivalValid bytes = true →
        (l <+: bytes → exec (arrivalCommand bytes first) s =
          exec (arrivalCommand bytes first) { s with line := { s.line with assembler := .ready } })
        ∧ (¬ l <+: bytes → exec (arrivalCommand bytes first) s = .next s))
    ∧ (s.line.assembler = .waiting →
        (s.line.transmitter = .idle ∨ s.line.transmitter = .waitGap ∨ ∃ left, s.line.transmitter = .backoff left) →
        exec .receiveAssemblerReady s = .next { s with line := { s.line with assembler := .ready } })
    ∧ (s.line.assembler ≠ .waiting ∨ (∃ wire left, s.line.transmitter = .sending wire left) ∨ (∃ left, s.line.transmitter = .jam left) →
        exec .receiveAssemblerReady s = .next s)
    ∧ ∀ (source : Byte) (body : List Byte), (∀ l, s.line.assembler ≠ .taking l) → exec (.replyReceived source body) s = .next s

/-- R14, R61, R156, R157: an INTERVAL beat takes every field from the block that owns it, clears the clamp flag, restarts the timer and
waits in its slot; in OFF and LISTEN_ONLY nothing is composed. It comes 1000 ms after the last composition; where a composition of
the same instant has restarted the timer, nothing changes (assumption 1). -/
def Obligations.AnIntervalBeatIsASnapshot : Prop :=
  ∀ s : State, s.line.prompt = false →
    (∀ n, s.line.intervalUs = some n → 1000000 ≤ n → s.line.line = .active ∨ s.line.line = .stuck → exec .intervalBeat s = .next { s with
      servo := { s.servo with clampFlag := false }
      line := { s.line with
        intervalUs := some 0, lastQ := s.control.qAcc / 4000
        transmitter := if s.line.line = .active ∧ s.line.transmitter = .idle then .waitGap else s.line.transmitter
        beatSlot := some
          { group := s.settings.group, mode := s.control.mode, ownLevel := s.cracks.level, groupLevel := s.peers.groupAlarm
            flags :=
              { sensorFault := s.cracks.sensorFault, damageWatch := s.recorder.channels.any Channel.watch
                clamped := s.servo.clampFlag, barrierWait := decide (s.seq.state = .barrier), complete := s.seq.complete
                peerLost := s.peers.entries.any fun e =>
                  decide (e.state = .lost ∧ e.group = s.settings.group ∧ e.mode.engaged = true)
                released := s.control.released }
            cause := .interval, lock := s.clock.lock
            segIndex := if s.seq.state = .idle then 255 else s.seq.index
            remaining := if s.seq.state = .idle then 0 else s.seq.remaining
            total := s.recorder.total, q := s.control.qAcc / 4000, period := s.clock.nominal, load := s.servo.load
            command := s.servo.command, disp := s.servo.disp, epoch := s.line.seenEpoch.getD 0, outcome := s.line.outcome
            lineErrors := s.line.lineErrors
            faultCode := if s.control.mode = .cfgFault then s.startUp.fault.code
              else if s.line.duplicate then 32 else s.control.trip.code
            markedAt := s.clock.lastMark } } })
    ∧ (s.line.line = .off ∨ s.line.line = .listenOnly ∨ (∀ n, s.line.intervalUs = some n → n < 1000000) →
        exec .intervalBeat s = .next s)

/-! ## Messages as bytes -/

/-- R170 and section 12.1: a BEAT's body is 31 bytes, and every field of it reads back from its place in the layout, with the undefined
bits 0. -/
def Obligations.ABeatReadsBackFromItsBody : Prop :=
  ∀ (b : Beat) (deferral : Nat), b.group ≤ 4 → b.ownLevel ≤ 3 → b.groupLevel ≤ 3 → b.segIndex ≤ 255 → b.remaining < 2 ^ 24 →
    b.total < 2 ^ 32 → b.q ≤ 1024 → b.period < 2 ^ 24 → deferral ≤ 65535 → -32768 ≤ b.load → b.load ≤ 32767 →
    -32768 ≤ b.command → b.command ≤ 32767 → -32768 ≤ b.disp → b.disp ≤ 32767 → b.lineErrors ≤ 255 → b.faultCode ≤ 255 →
    let body := b.body deferral
    body.length = 31
      ∧ readBeat body =
          { group := b.group, modeCode := b.mode.code, ownLevel := b.ownLevel, groupLevel := b.groupLevel, flags := b.flags
            cause := some b.cause, segIndex := b.segIndex, remaining := b.remaining, total := b.total, q := b.q
            period := b.period, deferral := deferral, lockCode := b.lock.code }
      ∧ byteAt body 2 = b.ownLevel * 16 + b.groupLevel ∧ byteAt body 3 < 128
      ∧ byteAt body 4 = b.cause.code * 16 + b.lock.code
      ∧ signed16 (fieldAt body 20 2) = b.load ∧ signed16 (fieldAt body 22 2) = b.command ∧ signed16 (fieldAt body 24 2) = b.disp
      ∧ fieldAt body 26 2 = b.epoch.toNat ∧ byteAt body 28 = b.outcome.code ∧ byteAt body 29 = b.lineErrors
      ∧ byteAt body 30 = b.faultCode

/-- R145, R147: a message that the line unit frames, of a known kind and its kind's length, passes every check of a receiver, and the
same characters with any one of them changed, in its header, its body or its CRC, do not. R146, R158, R162 and section 12.1: a framed BEAT, DIRECTIVE, QUERY
or REPLY arrives as the command that its kind, its action code and its record kind code name, with every field of its body read
back; the codes outside 1..7 name none of the seven. A message that a check fails arrives as a discard. -/
def Obligations.AFramedMessageIsValidAndGuarded : Prop :=
  (∀ (kind source : Nat) (body : List Byte), 1 ≤ kind → kind ≤ 4 → source ≤ 31 → body.length ≤ 48 →
    (kind = 1 → body.length = 31) → (kind = 2 → body.length = 10) → (kind = 3 → body.length = 3) →
    (framed kind source body).length = 5 + body.length ∧ arrivalValid (framed kind source body) = true
      ∧ ∀ (i : Nat) (x : Byte), i < 5 + body.length → (framed kind source body)[i]? ≠ some x →
          arrivalValid ((framed kind source body).set i x) = false)
  ∧ (∀ (source : Byte) (body : List Byte) (first : Bool),
      (body.length = 31 → arrivalCommand (framed 1 source.toNat body) first = .beatArrival source body)
      ∧ (body.length ≤ 48 → arrivalCommand (framed 4 source.toNat body) first = .replyReceived source body))
  ∧ (∀ (d : Directive) (first : Bool) (action : Byte),
      let arrives : Byte → Instr := fun code => arrivalCommand (framed 2 d.source.toNat
        ([d.mask] ++ bytesOf 2 d.epoch.toNat ++ [code, d.entry] ++ bytesOf 2 d.programme.toNat ++ bytesOf 2 d.scale.toNat
          ++ [d.accept])) first
      arrives 1#8 = .run d first ∧ arrives 2#8 = .hold d ∧ arrives 3#8 = .unload d ∧ arrives 4#8 = .stop d
        ∧ arrives 5#8 = .resetTrip d ∧ arrives 6#8 = .baseline d ∧ arrives 7#8 = .scale d
        ∧ (action.toNat = 0 ∨ 7 < action.toNat → arrives action = .directiveUnknownAction action d))
  ∧ (∀ (q : Query) (first : Bool) (kind : Byte),
      let arrives : Byte → Instr := fun code => arrivalCommand (framed 3 q.source.toNat [q.target, code, q.index]) first
      arrives 1#8 = .channel q ∧ arrives 2#8 = .histLo q ∧ arrives 3#8 = .histHi q ∧ arrives 4#8 = .crack q
        ∧ arrives 5#8 = .segment q ∧ arrives 6#8 = .counters q ∧ arrives 7#8 = .peer q
        ∧ (kind.toNat = 0 ∨ 7 < kind.toNat → arrives kind = .queryUnknownKind kind q))
  ∧ ∀ (bytes : List Byte) (first : Bool), byteAt bytes 2 ≤ 48 → arrivalValid bytes = false →
      arrivalCommand bytes first = .receiveDiscard (.rejected bytes)

/-! ## The laws of the device -/

/-- R163 and the table sizes: every step keeps the tables whole, keeps START to the time before the end of start-up with the line silent
and no peer heard, works under constants that the checks have passed, and ends with its PROMPT causes spent. The constants in force
before STANDBY and in CFG_FAULT are the model's choice where the manual gives none (assumption 6), and the flag that marks a
PROMPT cause within an event is the model's own (assumption 22). -/
def Obligations.EveryStepKeepsTheTablesAndStartUp : Prop :=
  (∀ s t : State, s.Sized → step s = .next t → t.Sized)
    ∧ (∀ s t : State, s.StartLaw → s.StartQuiet → s.NothingTaken → step s = .next t →
        t.StartLaw ∧ t.StartQuiet ∧ t.NothingTaken)
    ∧ (∀ s t : State, s.StartLaw → s.SettingsLaw → step s = .next t → t.SettingsLaw)
    ∧ ∀ s t : State, s.PromptSpent → step s = .next t → t.PromptSpent

/-- R23 with R21, R22 and R28: every step leaves the valve released outside the engaged modes; so whenever the cutoff is asserted or the
mode is START, CFG_FAULT, STANDBY or TRIPPED, the enable output is deasserted and the PWM output rests at its idle level. -/
def Obligations.EveryStepKeepsTheValveLaw : Prop :=
  (∀ s t : State, s.StartLaw → s.ValveAtRest → step s = .next t → t.StartLaw ∧ t.ValveAtRest ∧ t.ValveLaw)

/-- R16, R32, R43, R127: every step keeps q at 1024 in RUN and at 0 in PARKED, STANDBY and TRIPPED, the envelope within its full value
and at 0 in STANDBY and TRIPPED, and the integrator within its limits. R131: it keeps the release timer stopped and the released
flag clear but in DESCENT and ASCENT, where the timer has at most lockstep_timeout left and the flag is set exactly once it has run
out. R44, R45: it keeps a soft start to RUN and ASCENT, with a step of at least 1. -/
def Obligations.EveryStepKeepsTheDescentLaw : Prop :=
  (∀ s t : State, s.StartLaw → s.DescentLaw → s.EnvelopeLaw → s.ValveAtRest → s.IntegratorLaw → step s = .next t →
      t.DescentLaw ∧ t.EnvelopeLaw ∧ t.IntegratorLaw)
    ∧ ∀ s t : State, s.StartLaw → s.TimerLaw → step s = .next t → t.TimerLaw

/-- R109, R118: in every step the node alarm level is the largest of the active sites' levels, the sensor fault indication is set
exactly while an active site is in SENSOR_FAULT or has its sensor fault flag set, and G is the largest of the level and the own
levels of the counted entries. -/
def Obligations.EveryStepKeepsTheAlarmLevels : Prop :=
  ∀ s t : State, s.StartLaw → s.StartQuiet → s.NothingTaken → s.LevelLaw → s.GroupLaw → step s = .next t →
    t.LevelLaw ∧ t.GroupLaw

/-- R140, R142: in every step the alarm output follows G and the mode, and RUN and ASCENT are held only under an action NOTE or a G
that the accept level covers. -/
def Obligations.EveryStepKeepsTheAcceptLaw : Prop :=
  ∀ s t : State, s.StartLaw → s.settings.Ordered → s.AlarmPinLaw → s.AcceptLaw → step s = .next t →
    t.settings.Ordered ∧ t.AlarmPinLaw ∧ t.AcceptLaw

/-- R146 to R153: in every step, in OFF and STUCK the assembler takes nothing, nor does it while the transmitter is in SENDING or JAM,
and the characters it holds begin a message that still expects more; outside ACTIVE the transmitter is idle; an idle one holds nothing, and in ACTIVE leaves nothing waiting;
and one at work on a message holds it, abandoned at its sixteenth collision. -/
def Obligations.EveryStepKeepsTheLineLaw : Prop :=
  ∀ s t : State, s.StartLaw → s.StartQuiet → s.LineLaw → step s = .next t → t.LineLaw

/-- The laws hold at reset. -/
def Obligations.TheLawsHoldAtReset : Prop :=
  let s := State.reset
  s.Sized ∧ s.StartLaw ∧ s.StartQuiet ∧ s.NothingTaken ∧ s.settings.Ordered ∧ s.SettingsLaw ∧ s.DescentLaw ∧ s.TimerLaw ∧ s.ValveAtRest
    ∧ s.ValveLaw ∧ s.IntegratorLaw ∧ s.EnvelopeLaw ∧ s.PeriodLaw ∧ s.ScannerLaw ∧ s.CycleLaw ∧ s.LevelLaw ∧ s.GroupLaw
    ∧ s.AlarmPinLaw ∧ s.AcceptLaw ∧ s.LineLaw ∧ s.PromptSpent

/-! ## Barriers -/

/-- R39, R40, R123: a sequencer that waits in BARRIER examines its condition at every arrival that R114 lets through and at every expiry
of a peer entry. Where every counted peer at work is at the barrier, past it, or complete with it, the barrier releases (R38, R41,
R42): into COMPLETE where the segment's link is END, to the link target not started where it pauses, and else to the link target,
which starts; a pause and a completion leave no frame in RUN (R138). Else it waits on. A frame that is not engaged does so with the
cutoff asserted too. R45, R131: the release timer, the released flag and a soft start follow the change of mode. R156: a PROMPT beat is
composed where the frame mode changes, and none where it stands. R40, R133: an adopted RUN with entry RESUME examines it too, before or after the change of mode, which the
order operand says (the model's form: assumption 3). -/
def Obligations.ABarrierReleasesWhenItsConditionHolds : Prop :=
  (∀ (i : Instr) (s : State), s.seq.state = .barrier → s.running = true →
    s.servo.cutoff = false ∨ s.control.mode.engaged = false → s.peers.entries.length = 16 →
    (∃ (source : Byte) (body : List Byte), i = .beatArrival source body ∧ (s.line.line = .active ∨ s.line.line = .listenOnly)
        ∧ s.line.assembler = .ready ∧ 1 ≤ source.toNat ∧ source.toNat ≤ 16 ∧ source.toNat ≠ s.startUp.station
        ∧ 1 ≤ byteAt body 1 ∧ byteAt body 1 ≤ 8 ∧ byteAt body 0 ≤ 4)
      ∨ (∃ n, 1 ≤ n ∧ n ≤ 16 ∧ i = .peerStale n ∧ (s.peers.entry n).state = .fresh
          ∧ s.settings.staleMs * 1000 ≤ (s.peers.entry n).ageUs)
      ∨ (∃ n, 1 ≤ n ∧ n ≤ 16 ∧ i = .peerLost n ∧ (s.peers.entry n).state = .stale
          ∧ s.settings.lostMs * 1000 ≤ (s.peers.entry n).ageUs) →
    ∃ t, exec i s = .next t
      ∧ (t.peers.Clears s.settings.group s.seq.index s.segment.link →
          s.Released false t.seq ∧ (s.segment.link = none ∨ s.segment.pause = true → t.control.mode ≠ .run))
      ∧ (¬ t.peers.Clears s.settings.group s.seq.index s.segment.link → t.seq = { s.seq with softStep := t.seq.softStep })
      ∧ s.PromptsOnChange t ∧ s.TimerFollows t ∧ s.SoftStartFollows t)
  ∧ ∀ (first : Bool) (d : Directive) (s : State), s.Adopts d → d.entry.toNat = 1 → d.programme = s.settings.programme →
      s.servo.cutoff = false →
      s.settings.policyFor s.peers.groupAlarm = .note ∨ s.peers.groupAlarm ≤ min d.accept.toNat 3 → s.seq.state = .barrier →
      (s.control.mode = .standby ∧ s.seq.complete = false) ∨ s.control.mode = .parked ∨ s.control.mode = .hold →
      let target : Mode := if s.control.mode = .hold ∧ 4096000 ≤ s.control.qAcc then .run else .ascent
      let scaled : State := { s with seq := { s.seq with scaleBuffer := min d.scale.toNat 10000 } }
      ∃ t, exec (.run d first) s = .next t ∧ s.Records d .adopted t ∧ s.Reports .prompt t ∧ s.RecordsKept t
        ∧ t.control = { s.control with
            mode := t.control.mode, accept := min d.accept.toNat 3, qAcc := if target = .run then 4096000 else s.control.qAcc
            release := if target = .run then none else some (s.settings.lockstepTimeout * 1000000)
            released := false, alarm := decide (2 ≤ s.peers.groupAlarm) }
        ∧ t.seq.softStep = (if t.control.mode = .hold then none else s.seq.softStep)
        ∧ (s.peers.Clears s.settings.group s.seq.index s.segment.link →
            scaled.Released (decide (first = true ∧ target = .run)) t.seq
              ∧ t.control.mode = (if first = false ∧ target = .run ∧ (s.segment.link = none ∨ s.segment.pause = true) then .hold
                  else target))
        ∧ (¬ s.peers.Clears s.settings.group s.seq.index s.segment.link → t.seq = scaled.seq ∧ t.control.mode = target)
end

