-- ==== Sys2Proof/Laws/State.lean ====
section
/-! SUPPORT. One lemma for each field of the state under each named update of it, true by `rfl`, so that no later proof unfolds
an update. -/

namespace Sys2Proof.Machine

/-! ### putQ -/

@[simp] theorem State.putQ_servo (acc : Nat) (s : State) : (s.putQ acc).servo = s.servo := rfl
@[simp] theorem State.putQ_seq (acc : Nat) (s : State) : (s.putQ acc).seq = s.seq := rfl
@[simp] theorem State.putQ_clock (acc : Nat) (s : State) : (s.putQ acc).clock = s.clock := rfl
@[simp] theorem State.putQ_scanner (acc : Nat) (s : State) : (s.putQ acc).scanner = s.scanner := rfl
@[simp] theorem State.putQ_recorder (acc : Nat) (s : State) : (s.putQ acc).recorder = s.recorder := rfl
@[simp] theorem State.putQ_cracks (acc : Nat) (s : State) : (s.putQ acc).cracks = s.cracks := rfl
@[simp] theorem State.putQ_peers (acc : Nat) (s : State) : (s.putQ acc).peers = s.peers := rfl
@[simp] theorem State.putQ_control (acc : Nat) (s : State) : (s.putQ acc).control = { s.control with qAcc := acc } := rfl
@[simp] theorem State.putQ_line (acc : Nat) (s : State) : (s.putQ acc).line = s.line := rfl
@[simp] theorem State.putQ_startUp (acc : Nat) (s : State) : (s.putQ acc).startUp = s.startUp := rfl
@[simp] theorem State.putQ_settings (acc : Nat) (s : State) : (s.putQ acc).settings = s.settings := rfl
@[simp] theorem State.putQ_now (acc : Nat) (s : State) : (s.putQ acc).now = s.now := rfl
@[simp] theorem State.putQ_pending (acc : Nat) (s : State) : (s.putQ acc).pending = s.pending := rfl

/-! ### putAlarm -/

@[simp] theorem State.putAlarm_servo (g : Nat) (s : State) : (s.putAlarm g).servo = s.servo := rfl
@[simp] theorem State.putAlarm_seq (g : Nat) (s : State) : (s.putAlarm g).seq = s.seq := rfl
@[simp] theorem State.putAlarm_clock (g : Nat) (s : State) : (s.putAlarm g).clock = s.clock := rfl
@[simp] theorem State.putAlarm_scanner (g : Nat) (s : State) : (s.putAlarm g).scanner = s.scanner := rfl
@[simp] theorem State.putAlarm_recorder (g : Nat) (s : State) : (s.putAlarm g).recorder = s.recorder := rfl
@[simp] theorem State.putAlarm_cracks (g : Nat) (s : State) : (s.putAlarm g).cracks = s.cracks := rfl
@[simp] theorem State.putAlarm_peers (g : Nat) (s : State) : (s.putAlarm g).peers = { s.peers with groupAlarm := g } := rfl
@[simp] theorem State.putAlarm_control (g : Nat) (s : State) :
    (s.putAlarm g).control = { s.control with alarm := alarmPin g s.control.mode } := rfl
@[simp] theorem State.putAlarm_line (g : Nat) (s : State) : (s.putAlarm g).line = s.line := rfl
@[simp] theorem State.putAlarm_startUp (g : Nat) (s : State) : (s.putAlarm g).startUp = s.startUp := rfl
@[simp] theorem State.putAlarm_settings (g : Nat) (s : State) : (s.putAlarm g).settings = s.settings := rfl
@[simp] theorem State.putAlarm_now (g : Nat) (s : State) : (s.putAlarm g).now = s.now := rfl
@[simp] theorem State.putAlarm_pending (g : Nat) (s : State) : (s.putAlarm g).pending = s.pending := rfl

/-! ### enterMode -/

@[simp] theorem State.enterMode_servo (m : Mode) (s : State) : (s.enterMode m).servo = s.servo.enter m := rfl
@[simp] theorem State.enterMode_seq (m : Mode) (s : State) : (s.enterMode m).seq = s.seq.enter s.settings.segments m := rfl
@[simp] theorem State.enterMode_clock (m : Mode) (s : State) : (s.enterMode m).clock = s.clock := rfl
@[simp] theorem State.enterMode_scanner (m : Mode) (s : State) : (s.enterMode m).scanner = s.scanner := rfl
@[simp] theorem State.enterMode_recorder (m : Mode) (s : State) : (s.enterMode m).recorder = s.recorder := rfl
@[simp] theorem State.enterMode_cracks (m : Mode) (s : State) : (s.enterMode m).cracks = s.cracks := rfl
@[simp] theorem State.enterMode_peers (m : Mode) (s : State) : (s.enterMode m).peers = s.peers := rfl
@[simp] theorem State.enterMode_control (m : Mode) (s : State) :
    (s.enterMode m).control = s.control.enter s.settings.lockstepTimeout s.peers.groupAlarm m := rfl
@[simp] theorem State.enterMode_line (m : Mode) (s : State) : (s.enterMode m).line = { s.line with prompt := true } := rfl
@[simp] theorem State.enterMode_startUp (m : Mode) (s : State) : (s.enterMode m).startUp = s.startUp := rfl
@[simp] theorem State.enterMode_settings (m : Mode) (s : State) : (s.enterMode m).settings = s.settings := rfl
@[simp] theorem State.enterMode_now (m : Mode) (s : State) : (s.enterMode m).now = s.now := rfl
@[simp] theorem State.enterMode_pending (m : Mode) (s : State) : (s.enterMode m).pending = s.pending := rfl

/-! ### enterTrip -/

@[simp] theorem State.enterTrip_servo (code : TripCode) (s : State) :
    (s.enterTrip code).servo = s.servo.enter .tripped := rfl
@[simp] theorem State.enterTrip_seq (code : TripCode) (s : State) :
    (s.enterTrip code).seq = s.seq.enter s.settings.segments .tripped := rfl
@[simp] theorem State.enterTrip_clock (code : TripCode) (s : State) : (s.enterTrip code).clock = s.clock := rfl
@[simp] theorem State.enterTrip_scanner (code : TripCode) (s : State) : (s.enterTrip code).scanner = s.scanner := rfl
@[simp] theorem State.enterTrip_recorder (code : TripCode) (s : State) : (s.enterTrip code).recorder = s.recorder := rfl
@[simp] theorem State.enterTrip_cracks (code : TripCode) (s : State) : (s.enterTrip code).cracks = s.cracks := rfl
@[simp] theorem State.enterTrip_peers (code : TripCode) (s : State) : (s.enterTrip code).peers = s.peers := rfl
@[simp] theorem State.enterTrip_control (code : TripCode) (s : State) :
    (s.enterTrip code).control = { s.control.enter s.settings.lockstepTimeout s.peers.groupAlarm .tripped with trip := code } := rfl
@[simp] theorem State.enterTrip_line (code : TripCode) (s : State) :
    (s.enterTrip code).line = { s.line with prompt := true } := rfl
@[simp] theorem State.enterTrip_startUp (code : TripCode) (s : State) : (s.enterTrip code).startUp = s.startUp := rfl
@[simp] theorem State.enterTrip_settings (code : TripCode) (s : State) : (s.enterTrip code).settings = s.settings := rfl
@[simp] theorem State.enterTrip_now (code : TripCode) (s : State) : (s.enterTrip code).now = s.now := rfl
@[simp] theorem State.enterTrip_pending (code : TripCode) (s : State) : (s.enterTrip code).pending = s.pending := rfl

/-! ### seeEpoch -/

@[simp] theorem State.seeEpoch_servo (e : Half) (s : State) : (s.seeEpoch e).servo = s.servo := rfl
@[simp] theorem State.seeEpoch_seq (e : Half) (s : State) : (s.seeEpoch e).seq = s.seq := rfl
@[simp] theorem State.seeEpoch_clock (e : Half) (s : State) : (s.seeEpoch e).clock = s.clock := rfl
@[simp] theorem State.seeEpoch_scanner (e : Half) (s : State) : (s.seeEpoch e).scanner = s.scanner := rfl
@[simp] theorem State.seeEpoch_recorder (e : Half) (s : State) : (s.seeEpoch e).recorder = s.recorder := rfl
@[simp] theorem State.seeEpoch_cracks (e : Half) (s : State) : (s.seeEpoch e).cracks = s.cracks := rfl
@[simp] theorem State.seeEpoch_peers (e : Half) (s : State) : (s.seeEpoch e).peers = s.peers := rfl
@[simp] theorem State.seeEpoch_control (e : Half) (s : State) : (s.seeEpoch e).control = s.control := rfl
@[simp] theorem State.seeEpoch_line (e : Half) (s : State) : (s.seeEpoch e).line = { s.line with seenEpoch := some e } := rfl
@[simp] theorem State.seeEpoch_startUp (e : Half) (s : State) : (s.seeEpoch e).startUp = s.startUp := rfl
@[simp] theorem State.seeEpoch_settings (e : Half) (s : State) : (s.seeEpoch e).settings = s.settings := rfl
@[simp] theorem State.seeEpoch_now (e : Half) (s : State) : (s.seeEpoch e).now = s.now := rfl
@[simp] theorem State.seeEpoch_pending (e : Half) (s : State) : (s.seeEpoch e).pending = s.pending := rfl

/-! ### record -/

@[simp] theorem State.record_servo (o : DirectiveOutcome) (s : State) : (s.record o).servo = s.servo := rfl
@[simp] theorem State.record_seq (o : DirectiveOutcome) (s : State) : (s.record o).seq = s.seq := rfl
@[simp] theorem State.record_clock (o : DirectiveOutcome) (s : State) : (s.record o).clock = s.clock := rfl
@[simp] theorem State.record_scanner (o : DirectiveOutcome) (s : State) : (s.record o).scanner = s.scanner := rfl
@[simp] theorem State.record_recorder (o : DirectiveOutcome) (s : State) : (s.record o).recorder = s.recorder := rfl
@[simp] theorem State.record_cracks (o : DirectiveOutcome) (s : State) : (s.record o).cracks = s.cracks := rfl
@[simp] theorem State.record_peers (o : DirectiveOutcome) (s : State) : (s.record o).peers = s.peers := rfl
@[simp] theorem State.record_control (o : DirectiveOutcome) (s : State) :
    (s.record o).control = { s.control with refusals := if o = .adopted then s.control.refusals else satAdd 65535 s.control.refusals 1 } := rfl
@[simp] theorem State.record_line (o : DirectiveOutcome) (s : State) :
    (s.record o).line = { s.line with outcome := o, prompt := true } := rfl
@[simp] theorem State.record_startUp (o : DirectiveOutcome) (s : State) : (s.record o).startUp = s.startUp := rfl
@[simp] theorem State.record_settings (o : DirectiveOutcome) (s : State) : (s.record o).settings = s.settings := rfl
@[simp] theorem State.record_now (o : DirectiveOutcome) (s : State) : (s.record o).now = s.now := rfl
@[simp] theorem State.record_pending (o : DirectiveOutcome) (s : State) : (s.record o).pending = s.pending := rfl

/-! ### writeScale -/

@[simp] theorem State.writeScale_servo (n : Nat) (s : State) : (s.writeScale n).servo = s.servo := rfl
@[simp] theorem State.writeScale_seq (n : Nat) (s : State) : (s.writeScale n).seq = { s.seq with scaleBuffer := n } := rfl
@[simp] theorem State.writeScale_clock (n : Nat) (s : State) : (s.writeScale n).clock = s.clock := rfl
@[simp] theorem State.writeScale_scanner (n : Nat) (s : State) : (s.writeScale n).scanner = s.scanner := rfl
@[simp] theorem State.writeScale_recorder (n : Nat) (s : State) : (s.writeScale n).recorder = s.recorder := rfl
@[simp] theorem State.writeScale_cracks (n : Nat) (s : State) : (s.writeScale n).cracks = s.cracks := rfl
@[simp] theorem State.writeScale_peers (n : Nat) (s : State) : (s.writeScale n).peers = s.peers := rfl
@[simp] theorem State.writeScale_control (n : Nat) (s : State) : (s.writeScale n).control = s.control := rfl
@[simp] theorem State.writeScale_line (n : Nat) (s : State) : (s.writeScale n).line = s.line := rfl
@[simp] theorem State.writeScale_startUp (n : Nat) (s : State) : (s.writeScale n).startUp = s.startUp := rfl
@[simp] theorem State.writeScale_settings (n : Nat) (s : State) : (s.writeScale n).settings = s.settings := rfl
@[simp] theorem State.writeScale_now (n : Nat) (s : State) : (s.writeScale n).now = s.now := rfl
@[simp] theorem State.writeScale_pending (n : Nat) (s : State) : (s.writeScale n).pending = s.pending := rfl

/-! ### steadyTick -/

@[simp] theorem State.steadyTick_servo (s : State) : (s.steadyTick).servo = s.servo := rfl
@[simp] theorem State.steadyTick_seq (s : State) : (s.steadyTick).seq = s.seq := rfl
@[simp] theorem State.steadyTick_clock (s : State) : (s.steadyTick).clock = s.clock := rfl
@[simp] theorem State.steadyTick_scanner (s : State) : (s.steadyTick).scanner = s.scanner := rfl
@[simp] theorem State.steadyTick_recorder (s : State) :
    (s.steadyTick).recorder = { s.recorder with steady := s.recorder.steady && s.steadyNow } := rfl
@[simp] theorem State.steadyTick_cracks (s : State) : (s.steadyTick).cracks = s.cracks := rfl
@[simp] theorem State.steadyTick_peers (s : State) : (s.steadyTick).peers = s.peers := rfl
@[simp] theorem State.steadyTick_control (s : State) : (s.steadyTick).control = s.control := rfl
@[simp] theorem State.steadyTick_line (s : State) : (s.steadyTick).line = s.line := rfl
@[simp] theorem State.steadyTick_startUp (s : State) : (s.steadyTick).startUp = s.startUp := rfl
@[simp] theorem State.steadyTick_settings (s : State) : (s.steadyTick).settings = s.settings := rfl
@[simp] theorem State.steadyTick_now (s : State) : (s.steadyTick).now = s.now := rfl
@[simp] theorem State.steadyTick_pending (s : State) : (s.steadyTick).pending = s.pending := rfl

/-! ### clockMark -/

@[simp] theorem State.clockMark_servo (s : State) : (s.clockMark).servo = s.servo := rfl
@[simp] theorem State.clockMark_seq (s : State) : (s.clockMark).seq = s.seq := rfl
@[simp] theorem State.clockMark_clock (s : State) :
    (s.clockMark).clock = s.clock.newCycle s.settings.points s.settings.lockWindow s.now
      (s.seq.offeredPeriod s.settings.segments s.settings.defaultPeriod) s.peers.validOffsets := rfl
@[simp] theorem State.clockMark_scanner (s : State) : (s.clockMark).scanner = s.scanner := rfl
@[simp] theorem State.clockMark_recorder (s : State) : (s.clockMark).recorder = s.recorder := rfl
@[simp] theorem State.clockMark_cracks (s : State) : (s.clockMark).cracks = s.cracks := rfl
@[simp] theorem State.clockMark_peers (s : State) : (s.clockMark).peers = s.peers.clearOffsets := rfl
@[simp] theorem State.clockMark_control (s : State) : (s.clockMark).control = s.control := rfl
@[simp] theorem State.clockMark_line (s : State) : (s.clockMark).line = s.line := rfl
@[simp] theorem State.clockMark_startUp (s : State) : (s.clockMark).startUp = s.startUp := rfl
@[simp] theorem State.clockMark_settings (s : State) : (s.clockMark).settings = s.settings := rfl
@[simp] theorem State.clockMark_now (s : State) : (s.clockMark).now = s.now := rfl
@[simp] theorem State.clockMark_pending (s : State) : (s.clockMark).pending = s.pending := rfl

/-! ### scannerMark -/

@[simp] theorem State.scannerMark_servo (s : State) : (s.scannerMark).servo = s.servo := rfl
@[simp] theorem State.scannerMark_seq (s : State) : (s.scannerMark).seq = s.seq := rfl
@[simp] theorem State.scannerMark_clock (s : State) : (s.scannerMark).clock = s.clock := rfl
@[simp] theorem State.scannerMark_scanner (s : State) : (s.scannerMark).scanner = s.scanner.mark := rfl
@[simp] theorem State.scannerMark_recorder (s : State) : (s.scannerMark).recorder = s.recorder := rfl
@[simp] theorem State.scannerMark_cracks (s : State) : (s.scannerMark).cracks = s.cracks := rfl
@[simp] theorem State.scannerMark_peers (s : State) : (s.scannerMark).peers = s.peers := rfl
@[simp] theorem State.scannerMark_control (s : State) : (s.scannerMark).control = s.control := rfl
@[simp] theorem State.scannerMark_line (s : State) : (s.scannerMark).line = s.line := rfl
@[simp] theorem State.scannerMark_startUp (s : State) : (s.scannerMark).startUp = s.startUp := rfl
@[simp] theorem State.scannerMark_settings (s : State) : (s.scannerMark).settings = s.settings := rfl
@[simp] theorem State.scannerMark_now (s : State) : (s.scannerMark).now = s.now := rfl
@[simp] theorem State.scannerMark_pending (s : State) : (s.scannerMark).pending = s.pending := rfl

/-! ### firePoint -/

@[simp] theorem State.firePoint_servo (k : Nat) (s : State) : (s.firePoint k).servo = s.servo := rfl
@[simp] theorem State.firePoint_seq (k : Nat) (s : State) : (s.firePoint k).seq = s.seq := rfl
@[simp] theorem State.firePoint_clock (k : Nat) (s : State) : (s.firePoint k).clock = s.clock := rfl
@[simp] theorem State.firePoint_scanner (k : Nat) (s : State) :
    (s.firePoint k).scanner = s.scanner.fire s.settings k (s.firesAtMark k) := rfl
@[simp] theorem State.firePoint_recorder (k : Nat) (s : State) : (s.firePoint k).recorder = s.recorder := rfl
@[simp] theorem State.firePoint_cracks (k : Nat) (s : State) : (s.firePoint k).cracks = s.cracks := rfl
@[simp] theorem State.firePoint_peers (k : Nat) (s : State) : (s.firePoint k).peers = s.peers := rfl
@[simp] theorem State.firePoint_control (k : Nat) (s : State) : (s.firePoint k).control = s.control := rfl
@[simp] theorem State.firePoint_line (k : Nat) (s : State) : (s.firePoint k).line = s.line := rfl
@[simp] theorem State.firePoint_startUp (k : Nat) (s : State) : (s.firePoint k).startUp = s.startUp := rfl
@[simp] theorem State.firePoint_settings (k : Nat) (s : State) : (s.firePoint k).settings = s.settings := rfl
@[simp] theorem State.firePoint_now (k : Nat) (s : State) : (s.firePoint k).now = s.now := rfl
@[simp] theorem State.firePoint_pending (k : Nat) (s : State) : (s.firePoint k).pending = s.pending := rfl

/-! ### takeBeat -/

@[simp] theorem State.takeBeat_servo (n : Nat) (m : Mode) (v : BeatView) (s : State) :
    (s.takeBeat n m v).servo = s.servo := rfl
@[simp] theorem State.takeBeat_seq (n : Nat) (m : Mode) (v : BeatView) (s : State) : (s.takeBeat n m v).seq = s.seq := rfl
@[simp] theorem State.takeBeat_clock (n : Nat) (m : Mode) (v : BeatView) (s : State) :
    (s.takeBeat n m v).clock = s.clock := rfl
@[simp] theorem State.takeBeat_scanner (n : Nat) (m : Mode) (v : BeatView) (s : State) :
    (s.takeBeat n m v).scanner = s.scanner := rfl
@[simp] theorem State.takeBeat_recorder (n : Nat) (m : Mode) (v : BeatView) (s : State) :
    (s.takeBeat n m v).recorder = s.recorder := rfl
@[simp] theorem State.takeBeat_cracks (n : Nat) (m : Mode) (v : BeatView) (s : State) :
    (s.takeBeat n m v).cracks = s.cracks := rfl
@[simp] theorem State.takeBeat_peers (n : Nat) (m : Mode) (v : BeatView) (s : State) :
    (s.takeBeat n m v).peers = s.peers.setEntry n ((s.peers.entry n).arrive m v) := rfl
@[simp] theorem State.takeBeat_control (n : Nat) (m : Mode) (v : BeatView) (s : State) :
    (s.takeBeat n m v).control = s.control := rfl
@[simp] theorem State.takeBeat_line (n : Nat) (m : Mode) (v : BeatView) (s : State) : (s.takeBeat n m v).line = s.line := rfl
@[simp] theorem State.takeBeat_startUp (n : Nat) (m : Mode) (v : BeatView) (s : State) :
    (s.takeBeat n m v).startUp = s.startUp := rfl
@[simp] theorem State.takeBeat_settings (n : Nat) (m : Mode) (v : BeatView) (s : State) :
    (s.takeBeat n m v).settings = s.settings := rfl
@[simp] theorem State.takeBeat_now (n : Nat) (m : Mode) (v : BeatView) (s : State) : (s.takeBeat n m v).now = s.now := rfl
@[simp] theorem State.takeBeat_pending (n : Nat) (m : Mode) (v : BeatView) (s : State) :
    (s.takeBeat n m v).pending = s.pending := rfl

/-! ### expire -/

@[simp] theorem State.expire_servo (n : Nat) (p : PeerState) (s : State) : (s.expire n p).servo = s.servo := rfl
@[simp] theorem State.expire_seq (n : Nat) (p : PeerState) (s : State) : (s.expire n p).seq = s.seq := rfl
@[simp] theorem State.expire_clock (n : Nat) (p : PeerState) (s : State) : (s.expire n p).clock = s.clock := rfl
@[simp] theorem State.expire_scanner (n : Nat) (p : PeerState) (s : State) : (s.expire n p).scanner = s.scanner := rfl
@[simp] theorem State.expire_recorder (n : Nat) (p : PeerState) (s : State) : (s.expire n p).recorder = s.recorder := rfl
@[simp] theorem State.expire_cracks (n : Nat) (p : PeerState) (s : State) : (s.expire n p).cracks = s.cracks := rfl
@[simp] theorem State.expire_peers (n : Nat) (p : PeerState) (s : State) :
    (s.expire n p).peers = s.peers.setEntry n { s.peers.entry n with state := p } := rfl
@[simp] theorem State.expire_control (n : Nat) (p : PeerState) (s : State) : (s.expire n p).control = s.control := rfl
@[simp] theorem State.expire_line (n : Nat) (p : PeerState) (s : State) : (s.expire n p).line = s.line := rfl
@[simp] theorem State.expire_startUp (n : Nat) (p : PeerState) (s : State) : (s.expire n p).startUp = s.startUp := rfl
@[simp] theorem State.expire_settings (n : Nat) (p : PeerState) (s : State) : (s.expire n p).settings = s.settings := rfl
@[simp] theorem State.expire_now (n : Nat) (p : PeerState) (s : State) : (s.expire n p).now = s.now := rfl
@[simp] theorem State.expire_pending (n : Nat) (p : PeerState) (s : State) : (s.expire n p).pending = s.pending := rfl

/-! ### putReply -/

@[simp] theorem State.putReply_servo (r : Reply) (s : State) : (s.putReply r).servo = s.servo := rfl
@[simp] theorem State.putReply_seq (r : Reply) (s : State) : (s.putReply r).seq = s.seq := rfl
@[simp] theorem State.putReply_clock (r : Reply) (s : State) : (s.putReply r).clock = s.clock := rfl
@[simp] theorem State.putReply_scanner (r : Reply) (s : State) : (s.putReply r).scanner = s.scanner := rfl
@[simp] theorem State.putReply_recorder (r : Reply) (s : State) : (s.putReply r).recorder = s.recorder := rfl
@[simp] theorem State.putReply_cracks (r : Reply) (s : State) : (s.putReply r).cracks = s.cracks := rfl
@[simp] theorem State.putReply_peers (r : Reply) (s : State) : (s.putReply r).peers = s.peers := rfl
@[simp] theorem State.putReply_control (r : Reply) (s : State) : (s.putReply r).control = s.control := rfl
@[simp] theorem State.putReply_line (r : Reply) (s : State) :
    (s.putReply r).line = LineUnit.wake { s.line with replySlot := some r } := rfl
@[simp] theorem State.putReply_startUp (r : Reply) (s : State) : (s.putReply r).startUp = s.startUp := rfl
@[simp] theorem State.putReply_settings (r : Reply) (s : State) : (s.putReply r).settings = s.settings := rfl
@[simp] theorem State.putReply_now (r : Reply) (s : State) : (s.putReply r).now = s.now := rfl
@[simp] theorem State.putReply_pending (r : Reply) (s : State) : (s.putReply r).pending = s.pending := rfl

/-! ### takeSettings -/

@[simp] theorem State.takeSettings_servo (c : Settings) (b : Nat) (s : State) : (s.takeSettings c b).servo = s.servo := rfl
@[simp] theorem State.takeSettings_seq (c : Settings) (b : Nat) (s : State) : (s.takeSettings c b).seq = s.seq := rfl
@[simp] theorem State.takeSettings_clock (c : Settings) (b : Nat) (s : State) :
    (s.takeSettings c b).clock = Clock.started c.points c.defaultPeriod := rfl
@[simp] theorem State.takeSettings_scanner (c : Settings) (b : Nat) (s : State) :
    (s.takeSettings c b).scanner = s.scanner := rfl
@[simp] theorem State.takeSettings_recorder (c : Settings) (b : Nat) (s : State) :
    (s.takeSettings c b).recorder = s.recorder := rfl
@[simp] theorem State.takeSettings_cracks (c : Settings) (b : Nat) (s : State) :
    (s.takeSettings c b).cracks = s.cracks := rfl
@[simp] theorem State.takeSettings_peers (c : Settings) (b : Nat) (s : State) : (s.takeSettings c b).peers = s.peers := rfl
@[simp] theorem State.takeSettings_control (c : Settings) (b : Nat) (s : State) :
    (s.takeSettings c b).control = s.control := rfl
@[simp] theorem State.takeSettings_line (c : Settings) (b : Nat) (s : State) :
    (s.takeSettings c b).line = s.line.open b := rfl
@[simp] theorem State.takeSettings_startUp (c : Settings) (b : Nat) (s : State) :
    (s.takeSettings c b).startUp = { s.startUp with loader := .ended } := rfl
@[simp] theorem State.takeSettings_settings (c : Settings) (b : Nat) (s : State) : (s.takeSettings c b).settings = c := rfl
@[simp] theorem State.takeSettings_now (c : Settings) (b : Nat) (s : State) : (s.takeSettings c b).now = s.now := rfl
@[simp] theorem State.takeSettings_pending (c : Settings) (b : Nat) (s : State) :
    (s.takeSettings c b).pending = s.pending := rfl

/-! ### advance -/

@[simp] theorem State.advance_servo (s : State) : (s.advance).servo = s.servo := rfl
@[simp] theorem State.advance_seq (s : State) : (s.advance).seq = s.seq := rfl
@[simp] theorem State.advance_clock (s : State) : (s.advance).clock = if s.running then s.clock.advance else s.clock := rfl
@[simp] theorem State.advance_scanner (s : State) :
    (s.advance).scanner = { s.scanner with converter := s.scanner.converter.advance } := rfl
@[simp] theorem State.advance_recorder (s : State) : (s.advance).recorder = s.recorder := rfl
@[simp] theorem State.advance_cracks (s : State) : (s.advance).cracks = s.cracks := rfl
@[simp] theorem State.advance_peers (s : State) :
    (s.advance).peers = { s.peers with entries := s.peers.entries.map Peer.advance } := rfl
@[simp] theorem State.advance_control (s : State) : (s.advance).control = s.control.advance := rfl
@[simp] theorem State.advance_line (s : State) : (s.advance).line = s.line.advance := rfl
@[simp] theorem State.advance_startUp (s : State) :
    (s.advance).startUp = { s.startUp with loader := s.startUp.loader.advance } := rfl
@[simp] theorem State.advance_settings (s : State) : (s.advance).settings = s.settings := rfl
@[simp] theorem State.advance_now (s : State) : (s.advance).now = s.now + 1 := rfl
@[simp] theorem State.advance_pending (s : State) : (s.advance).pending = s.pending := rfl

/-! ### Control.enter -/

@[simp] theorem Control.enter_mode (timeout g : Nat) (m : Mode) (c : Control) : (c.enter timeout g m).mode = m := rfl
@[simp] theorem Control.enter_qAcc (timeout g : Nat) (m : Mode) (c : Control) :
    (c.enter timeout g m).qAcc = qAtEntry m c.qAcc := rfl
@[simp] theorem Control.enter_accept (timeout g : Nat) (m : Mode) (c : Control) :
    (c.enter timeout g m).accept = c.accept := rfl
@[simp] theorem Control.enter_release (timeout g : Nat) (m : Mode) (c : Control) :
    (c.enter timeout g m).release = releaseAtEntry timeout m := rfl
@[simp] theorem Control.enter_released (timeout g : Nat) (m : Mode) (c : Control) :
    (c.enter timeout g m).released = false := rfl
@[simp] theorem Control.enter_trip (timeout g : Nat) (m : Mode) (c : Control) : (c.enter timeout g m).trip = c.trip := rfl
@[simp] theorem Control.enter_refusals (timeout g : Nat) (m : Mode) (c : Control) :
    (c.enter timeout g m).refusals = c.refusals := rfl
@[simp] theorem Control.enter_alarm (timeout g : Nat) (m : Mode) (c : Control) :
    (c.enter timeout g m).alarm = alarmPin g m := rfl

/-! ### Servo.release -/

@[simp] theorem Servo.release_load (v : Servo) : (v.release).load = v.load := rfl
@[simp] theorem Servo.release_disp (v : Servo) : (v.release).disp = v.disp := rfl
@[simp] theorem Servo.release_command (v : Servo) : (v.release).command = v.command := rfl
@[simp] theorem Servo.release_clampFlag (v : Servo) : (v.release).clampFlag = v.clampFlag := rfl
@[simp] theorem Servo.release_integ (v : Servo) : (v.release).integ = v.integ := rfl
@[simp] theorem Servo.release_tracking (v : Servo) : (v.release).tracking = v.tracking := rfl
@[simp] theorem Servo.release_buffer (v : Servo) : (v.release).buffer = .idle := rfl
@[simp] theorem Servo.release_output (v : Servo) : (v.release).output = .idle := rfl
@[simp] theorem Servo.release_enable (v : Servo) : (v.release).enable = false := rfl
@[simp] theorem Servo.release_cutoff (v : Servo) : (v.release).cutoff = v.cutoff := rfl

/-! ### Sequencer.moveTo -/

@[simp] theorem Sequencer.moveTo_state (t : List Segment) (k : Nat) (q : Sequencer) : (q.moveTo t k).state = .active := rfl
@[simp] theorem Sequencer.moveTo_index (t : List Segment) (k : Nat) (q : Sequencer) : (q.moveTo t k).index = k := rfl
@[simp] theorem Sequencer.moveTo_started (t : List Segment) (k : Nat) (q : Sequencer) : (q.moveTo t k).started = false := rfl
@[simp] theorem Sequencer.moveTo_elapsed (t : List Segment) (k : Nat) (q : Sequencer) : (q.moveTo t k).elapsed = 0 := rfl
@[simp] theorem Sequencer.moveTo_remaining (t : List Segment) (k : Nat) (q : Sequencer) :
    (q.moveTo t k).remaining = (segmentAt t k).count := rfl
@[simp] theorem Sequencer.moveTo_base (t : List Segment) (k : Nat) (q : Sequencer) : (q.moveTo t k).base = q.base := rfl
@[simp] theorem Sequencer.moveTo_rampStart (t : List Segment) (k : Nat) (q : Sequencer) :
    (q.moveTo t k).rampStart = q.rampStart := rfl
@[simp] theorem Sequencer.moveTo_clean (t : List Segment) (k : Nat) (q : Sequencer) : (q.moveTo t k).clean = false := rfl
@[simp] theorem Sequencer.moveTo_complete (t : List Segment) (k : Nat) (q : Sequencer) :
    (q.moveTo t k).complete = q.complete := rfl
@[simp] theorem Sequencer.moveTo_envelope (t : List Segment) (k : Nat) (q : Sequencer) :
    (q.moveTo t k).envelope = q.envelope := rfl
@[simp] theorem Sequencer.moveTo_softStep (t : List Segment) (k : Nat) (q : Sequencer) :
    (q.moveTo t k).softStep = q.softStep := rfl
@[simp] theorem Sequencer.moveTo_scaleBuffer (t : List Segment) (k : Nat) (q : Sequencer) :
    (q.moveTo t k).scaleBuffer = q.scaleBuffer := rfl
@[simp] theorem Sequencer.moveTo_scaleActive (t : List Segment) (k : Nat) (q : Sequencer) :
    (q.moveTo t k).scaleActive = q.scaleActive := rfl
@[simp] theorem Sequencer.moveTo_partialCycles (t : List Segment) (k : Nat) (q : Sequencer) :
    (q.moveTo t k).partialCycles = q.partialCycles := rfl

/-! ### Sequencer.openCycle -/

@[simp] theorem Sequencer.openCycle_state (q : Sequencer) : (q.openCycle).state = q.state := rfl
@[simp] theorem Sequencer.openCycle_index (q : Sequencer) : (q.openCycle).index = q.index := rfl
@[simp] theorem Sequencer.openCycle_started (q : Sequencer) : (q.openCycle).started = q.started := rfl
@[simp] theorem Sequencer.openCycle_elapsed (q : Sequencer) : (q.openCycle).elapsed = q.elapsed := rfl
@[simp] theorem Sequencer.openCycle_remaining (q : Sequencer) : (q.openCycle).remaining = q.remaining := rfl
@[simp] theorem Sequencer.openCycle_base (q : Sequencer) : (q.openCycle).base = q.base := rfl
@[simp] theorem Sequencer.openCycle_rampStart (q : Sequencer) : (q.openCycle).rampStart = q.rampStart := rfl
@[simp] theorem Sequencer.openCycle_clean (q : Sequencer) : (q.openCycle).clean = true := rfl
@[simp] theorem Sequencer.openCycle_complete (q : Sequencer) : (q.openCycle).complete = q.complete := rfl
@[simp] theorem Sequencer.openCycle_envelope (q : Sequencer) : (q.openCycle).envelope = q.envelope := rfl
@[simp] theorem Sequencer.openCycle_softStep (q : Sequencer) : (q.openCycle).softStep = q.softStep := rfl
@[simp] theorem Sequencer.openCycle_scaleBuffer (q : Sequencer) : (q.openCycle).scaleBuffer = q.scaleBuffer := rfl
@[simp] theorem Sequencer.openCycle_scaleActive (q : Sequencer) : (q.openCycle).scaleActive = q.scaleBuffer := rfl
@[simp] theorem Sequencer.openCycle_partialCycles (q : Sequencer) : (q.openCycle).partialCycles = q.partialCycles := rfl

/-! ### Clock.newCycle -/

@[simp] theorem Clock.newCycle_phase (points : List ScanPoint) (window now period : Nat) (offsets : List Int) (c : Clock) :
    (c.newCycle points window now period offsets).phase = 0 := rfl
@[simp] theorem Clock.newCycle_nominal (points : List ScanPoint) (window now period : Nat) (offsets : List Int) (c : Clock) :
    (c.newCycle points window now period offsets).nominal = period := rfl
@[simp] theorem Clock.newCycle_applied (points : List ScanPoint) (window now period : Nat) (offsets : List Int) (c : Clock) :
    (c.newCycle points window now period offsets).applied = ((period : Int) + trimOf period offsets).toNat := rfl
@[simp] theorem Clock.newCycle_trim (points : List ScanPoint) (window now period : Nat) (offsets : List Int) (c : Clock) :
    (c.newCycle points window now period offsets).trim = trimOf period offsets := rfl
@[simp] theorem Clock.newCycle_lock (points : List ScanPoint) (window now period : Nat) (offsets : List Int) (c : Clock) :
    (c.newCycle points window now period offsets).lock = lockOf window offsets := rfl
@[simp] theorem Clock.newCycle_buffer (points : List ScanPoint) (window now period : Nat) (offsets : List Int) (c : Clock) :
    (c.newCycle points window now period offsets).buffer = some period := rfl
@[simp] theorem Clock.newCycle_times (points : List ScanPoint) (window now period : Nat) (offsets : List Int) (c : Clock) :
    (c.newCycle points window now period offsets).times = scanTimes points ((period : Int) + trimOf period offsets).toNat := rfl
@[simp] theorem Clock.newCycle_lastMark (points : List ScanPoint) (window now period : Nat) (offsets : List Int) (c : Clock) :
    (c.newCycle points window now period offsets).lastMark = some now := rfl

/-! ### Peer.arrive -/

@[simp] theorem Peer.arrive_state (m : Mode) (v : BeatView) (e : Peer) : (e.arrive m v).state = .fresh := rfl
@[simp] theorem Peer.arrive_group (m : Mode) (v : BeatView) (e : Peer) : (e.arrive m v).group = v.group := rfl
@[simp] theorem Peer.arrive_mode (m : Mode) (v : BeatView) (e : Peer) : (e.arrive m v).mode = m := rfl
@[simp] theorem Peer.arrive_previous (m : Mode) (v : BeatView) (e : Peer) :
    (e.arrive m v).previous = if e.state = .empty then none else some e.mode := rfl
@[simp] theorem Peer.arrive_ownLevel (m : Mode) (v : BeatView) (e : Peer) : (e.arrive m v).ownLevel = v.ownLevel := rfl
@[simp] theorem Peer.arrive_groupLevel (m : Mode) (v : BeatView) (e : Peer) : (e.arrive m v).groupLevel = v.groupLevel := rfl
@[simp] theorem Peer.arrive_flags (m : Mode) (v : BeatView) (e : Peer) : (e.arrive m v).flags = v.flags := rfl
@[simp] theorem Peer.arrive_lockCode (m : Mode) (v : BeatView) (e : Peer) : (e.arrive m v).lockCode = v.lockCode := rfl
@[simp] theorem Peer.arrive_segIndex (m : Mode) (v : BeatView) (e : Peer) : (e.arrive m v).segIndex = v.segIndex := rfl
@[simp] theorem Peer.arrive_remaining (m : Mode) (v : BeatView) (e : Peer) : (e.arrive m v).remaining = v.remaining := rfl
@[simp] theorem Peer.arrive_q (m : Mode) (v : BeatView) (e : Peer) : (e.arrive m v).q = min v.q Config.full := rfl
@[simp] theorem Peer.arrive_period (m : Mode) (v : BeatView) (e : Peer) : (e.arrive m v).period = v.period := rfl
@[simp] theorem Peer.arrive_cycles (m : Mode) (v : BeatView) (e : Peer) : (e.arrive m v).cycles = v.total := rfl
@[simp] theorem Peer.arrive_offset (m : Mode) (v : BeatView) (e : Peer) : (e.arrive m v).offset = e.offset := rfl
@[simp] theorem Peer.arrive_offsetValid (m : Mode) (v : BeatView) (e : Peer) :
    (e.arrive m v).offsetValid = e.offsetValid := rfl
@[simp] theorem Peer.arrive_ageUs (m : Mode) (v : BeatView) (e : Peer) : (e.arrive m v).ageUs = 0 := rfl

/-! ### Peer.withOffset -/

@[simp] theorem Peer.withOffset_state (x : Int) (e : Peer) : (e.withOffset x).state = e.state := rfl
@[simp] theorem Peer.withOffset_group (x : Int) (e : Peer) : (e.withOffset x).group = e.group := rfl
@[simp] theorem Peer.withOffset_mode (x : Int) (e : Peer) : (e.withOffset x).mode = e.mode := rfl
@[simp] theorem Peer.withOffset_previous (x : Int) (e : Peer) : (e.withOffset x).previous = e.previous := rfl
@[simp] theorem Peer.withOffset_ownLevel (x : Int) (e : Peer) : (e.withOffset x).ownLevel = e.ownLevel := rfl
@[simp] theorem Peer.withOffset_groupLevel (x : Int) (e : Peer) : (e.withOffset x).groupLevel = e.groupLevel := rfl
@[simp] theorem Peer.withOffset_flags (x : Int) (e : Peer) : (e.withOffset x).flags = e.flags := rfl
@[simp] theorem Peer.withOffset_lockCode (x : Int) (e : Peer) : (e.withOffset x).lockCode = e.lockCode := rfl
@[simp] theorem Peer.withOffset_segIndex (x : Int) (e : Peer) : (e.withOffset x).segIndex = e.segIndex := rfl
@[simp] theorem Peer.withOffset_remaining (x : Int) (e : Peer) : (e.withOffset x).remaining = e.remaining := rfl
@[simp] theorem Peer.withOffset_q (x : Int) (e : Peer) : (e.withOffset x).q = e.q := rfl
@[simp] theorem Peer.withOffset_period (x : Int) (e : Peer) : (e.withOffset x).period = e.period := rfl
@[simp] theorem Peer.withOffset_cycles (x : Int) (e : Peer) : (e.withOffset x).cycles = e.cycles := rfl
@[simp] theorem Peer.withOffset_offset (x : Int) (e : Peer) : (e.withOffset x).offset = x := rfl
@[simp] theorem Peer.withOffset_offsetValid (x : Int) (e : Peer) : (e.withOffset x).offsetValid = true := rfl
@[simp] theorem Peer.withOffset_ageUs (x : Int) (e : Peer) : (e.withOffset x).ageUs = e.ageUs := rfl

/-! ### LineUnit.open -/

@[simp] theorem LineUnit.open_line (b : Nat) (u : LineUnit) : (u.open b).line = .active := rfl
@[simp] theorem LineUnit.open_duplicate (b : Nat) (u : LineUnit) : (u.open b).duplicate = u.duplicate := rfl
@[simp] theorem LineUnit.open_bitUs (b : Nat) (u : LineUnit) : (u.open b).bitUs = b := rfl
@[simp] theorem LineUnit.open_assembler (b : Nat) (u : LineUnit) : (u.open b).assembler = .waiting := rfl
@[simp] theorem LineUnit.open_transmitter (b : Nat) (u : LineUnit) : (u.open b).transmitter = .idle := rfl
@[simp] theorem LineUnit.open_held (b : Nat) (u : LineUnit) : (u.open b).held = u.held := rfl
@[simp] theorem LineUnit.open_beatSlot (b : Nat) (u : LineUnit) : (u.open b).beatSlot = u.beatSlot := rfl
@[simp] theorem LineUnit.open_replySlot (b : Nat) (u : LineUnit) : (u.open b).replySlot = u.replySlot := rfl
@[simp] theorem LineUnit.open_lineErrors (b : Nat) (u : LineUnit) : (u.open b).lineErrors = u.lineErrors := rfl
@[simp] theorem LineUnit.open_abandons (b : Nat) (u : LineUnit) : (u.open b).abandons = u.abandons := rfl
@[simp] theorem LineUnit.open_queryOverruns (b : Nat) (u : LineUnit) : (u.open b).queryOverruns = u.queryOverruns := rfl
@[simp] theorem LineUnit.open_seenEpoch (b : Nat) (u : LineUnit) : (u.open b).seenEpoch = u.seenEpoch := rfl
@[simp] theorem LineUnit.open_outcome (b : Nat) (u : LineUnit) : (u.open b).outcome = u.outcome := rfl
@[simp] theorem LineUnit.open_intervalUs (b : Nat) (u : LineUnit) : (u.open b).intervalUs = u.intervalUs := rfl
@[simp] theorem LineUnit.open_lastQ (b : Nat) (u : LineUnit) : (u.open b).lastQ = u.lastQ := rfl
@[simp] theorem LineUnit.open_prompt (b : Nat) (u : LineUnit) : (u.open b).prompt = u.prompt := rfl

/-! ### LineUnit.takeCharacters -/

@[simp] theorem LineUnit.takeCharacters_line (l : List Byte) (u : LineUnit) : (u.takeCharacters l).line = u.line := rfl
@[simp] theorem LineUnit.takeCharacters_duplicate (l : List Byte) (u : LineUnit) :
    (u.takeCharacters l).duplicate = u.duplicate := rfl
@[simp] theorem LineUnit.takeCharacters_bitUs (l : List Byte) (u : LineUnit) : (u.takeCharacters l).bitUs = u.bitUs := rfl
@[simp] theorem LineUnit.takeCharacters_assembler (l : List Byte) (u : LineUnit) :
    (u.takeCharacters l).assembler = .taking (u.assembler.characters ++ l) := rfl
@[simp] theorem LineUnit.takeCharacters_transmitter (l : List Byte) (u : LineUnit) :
    (u.takeCharacters l).transmitter = u.transmitter := rfl
@[simp] theorem LineUnit.takeCharacters_held (l : List Byte) (u : LineUnit) : (u.takeCharacters l).held = u.held := rfl
@[simp] theorem LineUnit.takeCharacters_beatSlot (l : List Byte) (u : LineUnit) :
    (u.takeCharacters l).beatSlot = u.beatSlot := rfl
@[simp] theorem LineUnit.takeCharacters_replySlot (l : List Byte) (u : LineUnit) :
    (u.takeCharacters l).replySlot = u.replySlot := rfl
@[simp] theorem LineUnit.takeCharacters_lineErrors (l : List Byte) (u : LineUnit) :
    (u.takeCharacters l).lineErrors = u.lineErrors := rfl
@[simp] theorem LineUnit.takeCharacters_abandons (l : List Byte) (u : LineUnit) :
    (u.takeCharacters l).abandons = u.abandons := rfl
@[simp] theorem LineUnit.takeCharacters_queryOverruns (l : List Byte) (u : LineUnit) :
    (u.takeCharacters l).queryOverruns = u.queryOverruns := rfl
@[simp] theorem LineUnit.takeCharacters_seenEpoch (l : List Byte) (u : LineUnit) :
    (u.takeCharacters l).seenEpoch = u.seenEpoch := rfl
@[simp] theorem LineUnit.takeCharacters_outcome (l : List Byte) (u : LineUnit) :
    (u.takeCharacters l).outcome = u.outcome := rfl
@[simp] theorem LineUnit.takeCharacters_intervalUs (l : List Byte) (u : LineUnit) :
    (u.takeCharacters l).intervalUs = u.intervalUs := rfl
@[simp] theorem LineUnit.takeCharacters_lastQ (l : List Byte) (u : LineUnit) : (u.takeCharacters l).lastQ = u.lastQ := rfl
@[simp] theorem LineUnit.takeCharacters_prompt (l : List Byte) (u : LineUnit) : (u.takeCharacters l).prompt = u.prompt := rfl

/-! ### LineUnit.discard -/

@[simp] theorem LineUnit.discard_line (u : LineUnit) : (u.discard).line = u.line := rfl
@[simp] theorem LineUnit.discard_duplicate (u : LineUnit) : (u.discard).duplicate = u.duplicate := rfl
@[simp] theorem LineUnit.discard_bitUs (u : LineUnit) : (u.discard).bitUs = u.bitUs := rfl
@[simp] theorem LineUnit.discard_assembler (u : LineUnit) : (u.discard).assembler = .waiting := rfl
@[simp] theorem LineUnit.discard_transmitter (u : LineUnit) : (u.discard).transmitter = u.transmitter := rfl
@[simp] theorem LineUnit.discard_held (u : LineUnit) : (u.discard).held = u.held := rfl
@[simp] theorem LineUnit.discard_beatSlot (u : LineUnit) : (u.discard).beatSlot = u.beatSlot := rfl
@[simp] theorem LineUnit.discard_replySlot (u : LineUnit) : (u.discard).replySlot = u.replySlot := rfl
@[simp] theorem LineUnit.discard_lineErrors (u : LineUnit) : (u.discard).lineErrors = satAdd 255 u.lineErrors 1 := rfl
@[simp] theorem LineUnit.discard_abandons (u : LineUnit) : (u.discard).abandons = u.abandons := rfl
@[simp] theorem LineUnit.discard_queryOverruns (u : LineUnit) : (u.discard).queryOverruns = u.queryOverruns := rfl
@[simp] theorem LineUnit.discard_seenEpoch (u : LineUnit) : (u.discard).seenEpoch = u.seenEpoch := rfl
@[simp] theorem LineUnit.discard_outcome (u : LineUnit) : (u.discard).outcome = u.outcome := rfl
@[simp] theorem LineUnit.discard_intervalUs (u : LineUnit) : (u.discard).intervalUs = u.intervalUs := rfl
@[simp] theorem LineUnit.discard_lastQ (u : LineUnit) : (u.discard).lastQ = u.lastQ := rfl
@[simp] theorem LineUnit.discard_prompt (u : LineUnit) : (u.discard).prompt = u.prompt := rfl

/-! ### Scanner.mark -/

@[simp] theorem Scanner.mark_chains (z : Scanner) : (z.mark).chains = z.chains.map ChainRequest.carry := rfl
@[simp] theorem Scanner.mark_ladders (z : Scanner) : (z.mark).ladders = z.ladders := rfl
@[simp] theorem Scanner.mark_converter (z : Scanner) : (z.mark).converter = z.converter := rfl
@[simp] theorem Scanner.mark_accumulator (z : Scanner) : (z.mark).accumulator = z.accumulator := rfl
@[simp] theorem Scanner.mark_overruns (z : Scanner) : (z.mark).overruns = z.overruns := rfl
@[simp] theorem Scanner.mark_late (z : Scanner) : (z.mark).late = z.late := rfl
@[simp] theorem Scanner.mark_ladderMerges (z : Scanner) : (z.mark).ladderMerges = z.ladderMerges := rfl
@[simp] theorem Scanner.mark_input (z : Scanner) : (z.mark).input = z.input := rfl

/-! ### The converter's samples -/

@[simp] theorem Converter.sample_idle : Converter.idle.sample = 0 := rfl
@[simp] theorem Converter.sample_chain (p r n us : Nat) (carried : Bool) : (Converter.chain p r n us carried).sample = n := rfl
@[simp] theorem Converter.sample_ladder (i n us : Nat) : (Converter.ladder i n us).sample = n := rfl
@[simp] theorem Converter.complete_chain (k p r n us : Nat) (carried : Bool) :
    (Converter.chain p r n us carried).complete k = .chain p r (n + k) 0 carried := rfl
@[simp] theorem Converter.complete_ladder (k i n us : Nat) : (Converter.ladder i n us).complete k = .ladder i (n + k) 0 := rfl
@[simp] theorem Converter.advance_idle : Converter.idle.advance = .idle := rfl
@[simp] theorem Converter.advance_chain (p r n us : Nat) (carried : Bool) :
    (Converter.chain p r n us carried).advance = .chain p r n (min Config.sampleUs (us + 1)) carried := rfl
@[simp] theorem Converter.advance_ladder (i n us : Nat) :
    (Converter.ladder i n us).advance = .ladder i n (min Config.sampleUs (us + 1)) := rfl
@[simp] theorem Converter.advance_sample (v : Converter) : v.advance.sample = v.sample := by cases v <;> rfl

/-! ### Scanner.takeSamples -/

@[simp] theorem Scanner.takeSamples_chains (l : List Half) (z : Scanner) : (z.takeSamples l).chains = z.chains := rfl
@[simp] theorem Scanner.takeSamples_ladders (l : List Half) (z : Scanner) : (z.takeSamples l).ladders = z.ladders := rfl
@[simp] theorem Scanner.takeSamples_converter (l : List Half) (z : Scanner) :
    (z.takeSamples l).converter = z.converter.complete l.length := rfl
@[simp] theorem Scanner.takeSamples_accumulator (l : List Half) (z : Scanner) :
    (z.takeSamples l).accumulator = z.accumulate l := rfl
@[simp] theorem Scanner.takeSamples_overruns (l : List Half) (z : Scanner) : (z.takeSamples l).overruns = z.overruns := rfl
@[simp] theorem Scanner.takeSamples_late (l : List Half) (z : Scanner) : (z.takeSamples l).late = z.late := rfl
@[simp] theorem Scanner.takeSamples_ladderMerges (l : List Half) (z : Scanner) :
    (z.takeSamples l).ladderMerges = z.ladderMerges := rfl
@[simp] theorem Scanner.takeSamples_input (l : List Half) (z : Scanner) : (z.takeSamples l).input = z.input := rfl

/-! ### Recorder.mark -/

@[simp] theorem Recorder.mark_channels (consts : List ChannelConst) (r : Recorder) :
    (r.mark consts).channels = List.zipWith Channel.close consts r.channels := rfl
@[simp] theorem Recorder.mark_total (consts : List ChannelConst) (r : Recorder) : (r.mark consts).total = r.nextTotal := rfl
@[simp] theorem Recorder.mark_steady (consts : List ChannelConst) (r : Recorder) : (r.mark consts).steady = true := rfl

/-! ### PeerTable.setEntry -/

@[simp] theorem PeerTable.setEntry_entries (n : Nat) (e : Peer) (p : PeerTable) :
    (p.setEntry n e).entries = p.entries.set (n - 1) e := rfl
@[simp] theorem PeerTable.setEntry_groupAlarm (n : Nat) (e : Peer) (p : PeerTable) :
    (p.setEntry n e).groupAlarm = p.groupAlarm := rfl

/-! ### PeerTable.clearOffsets -/

@[simp] theorem PeerTable.clearOffsets_entries (p : PeerTable) :
    (p.clearOffsets).entries = p.entries.map fun e => { e with offsetValid := false } := rfl
@[simp] theorem PeerTable.clearOffsets_groupAlarm (p : PeerTable) : (p.clearOffsets).groupAlarm = p.groupAlarm := rfl

end Sys2Proof.Machine
end

