-- ==== Sys2Proof/Laws/Values.lean ====
section
/-! SUPPORT. The plain arithmetic of the model (R1), the bytes of fields, and the orders drawn from free values, said once in
the terms that `omega` and `simp` work in. -/

namespace Sys2Proof.Machine

/-! ## R1 -/

theorem clamp_eq_max_min {lo hi : Int} (h : lo ≤ hi) (x : Int) : clamp lo hi x = max lo (min hi x) := by
  unfold clamp; split <;> (try split) <;> omega

theorem clamp_mem {lo hi : Int} (h : lo ≤ hi) (x : Int) : lo ≤ clamp lo hi x ∧ clamp lo hi x ≤ hi := by
  rw [clamp_eq_max_min h]; omega

theorem clamp_of_mem {lo hi x : Int} (h₁ : lo ≤ x) (h₂ : x ≤ hi) : clamp lo hi x = x := by
  rw [clamp_eq_max_min (by omega)]; omega

theorem satAdd_eq_min (top n k : Nat) : satAdd top n k = min top (n + k) := by
  unfold satAdd; split <;> omega

theorem satAdd_le (top n k : Nat) : satAdd top n k ≤ top := by rw [satAdd_eq_min]; omega

theorem reduceCode_mem (raw zero gain : Int) : -32768 ≤ reduceCode raw zero gain ∧ reduceCode raw zero gain ≤ 32767 :=
  clamp_mem (by decide) _

theorem signed16_eq_toInt (c : Half) : signed16 c.toNat = c.toInt := by
  rw [BitVec.toInt_eq_toNat_cond]; unfold signed16; split <;> split <;> omega

@[simp] theorem codeValue_eq_toInt (c : Half) : codeValue c = c.toInt := signed16_eq_toInt c

theorem signed16_ofInt {x : Int} (h₁ : -32768 ≤ x) (h₂ : x ≤ 32767) : signed16 (BitVec.ofInt 16 x).toNat = x := by
  rw [signed16_eq_toInt, BitVec.toInt_ofInt]; exact Int.bmod_eq_of_le (by omega) (by omega)

/-! ## Bytes -/

@[simp] theorem bytesOf_length (k n : Nat) : (bytesOf k n).length = k := by
  induction k with
  | zero => rfl
  | succ k ih => simp [bytesOf, ih]

@[simp] theorem signedBytes_length (x : Int) : (signedBytes x).length = 2 := bytesOf_length _ _

@[simp] theorem flagByte_length (b : Bool) : (flagByte b).length = 1 := bytesOf_length _ _

/-- A field written and read back, where its value fits it. -/
theorem bigEndian_bytesOf (k n : Nat) : bigEndian ((bytesOf k n).map BitVec.toNat) = n % 256 ^ k := by
  induction k with
  | zero => simp [bytesOf, bigEndian, Nat.mod_one]
  | succ k ih =>
    have h : n / 256 ^ k % 256 * 256 ^ k + n % 256 ^ k = n % 256 ^ (k + 1) := by
      rw [Nat.pow_succ, Nat.mod_mul, Nat.mul_comm, Nat.add_comm]
    simpa [bytesOf, bigEndian, ih] using h

/-- A field whose bytes begin after `l` reads them. -/
theorem fieldAt_append (l f r : List Byte) : fieldAt (l ++ (f ++ r)) l.length f.length = bigEndian (f.map BitVec.toNat) := by
  have h : (List.range f.length).map (fun k => byteAt (l ++ (f ++ r)) (l.length + k)) = f.map BitVec.toNat := by
    apply List.ext_getElem
    · simp
    · intro i h₁ h₂
      have hi : i < f.length := by simpa using h₁
      have h₃ : (l ++ (f ++ r))[l.length + i]? = some f[i] := by
        rw [List.getElem?_append_right (by omega), Nat.add_sub_cancel_left, List.getElem?_append_left hi, List.getElem?_eq_getElem hi]
      simp [byteAt, List.getD_eq_getElem?_getD, h₃]
  simp [fieldAt, h]

/-- A field written after `l` reads back. -/
theorem fieldAt_bytesOf {k n : Nat} (h : n < 256 ^ k) (l r : List Byte) : fieldAt (l ++ (bytesOf k n ++ r)) l.length k = n := by
  have := fieldAt_append l (bytesOf k n) r
  rw [bytesOf_length, bigEndian_bytesOf, Nat.mod_eq_of_lt h] at this
  exact this

theorem byteAt_eq_fieldAt (l : List Byte) (i : Nat) : byteAt l i = fieldAt l i 1 := by
  simp [fieldAt, bigEndian]

/-! ## The bits of a character -/

@[simp] theorem dataBits_length (b : Byte) : (dataBits b).length = 8 := by simp [dataBits]

@[simp] theorem characterBits_length (b : Byte) : (characterBits b).length = 11 := by simp [characterBits]

@[simp] theorem wireBits_length (l : List Byte) : (wireBits l).length = 11 * l.length := by
  induction l with
  | nil => rfl
  | cons b l ih => simp only [wireBits, List.flatMap_cons, List.length_append, characterBits_length, List.length_cons] at *; omega

@[simp] theorem headed_length (kind source : Nat) (body : List Byte) : (headed kind source body).length = 3 + body.length := by
  simp [headed]; omega

@[simp] theorem framed_length (kind source : Nat) (body : List Byte) : (framed kind source body).length = 5 + body.length := by
  simp [framed]; omega

@[simp] theorem Beat.body_length (b : Beat) (deferral : Nat) : (b.body deferral).length = 31 := by simp [Beat.body]

/-! ## Orders -/

theorem mem_putAt {α : Type} (x y : α) : ∀ (k : Nat) (l : List α), x ∈ putAt k y l ↔ x = y ∨ x ∈ l
  | 0, l => by simp [putAt]
  | k + 1, [] => by simp [putAt]
  | k + 1, z :: l => by simp [putAt, mem_putAt x y k l]; tauto

/-- A drawn order loses nothing and adds nothing. -/
@[simp] theorem mem_shuffle {α : Type} (draw : Nat → Nat) (x : α) (l : List α) : x ∈ shuffle draw l ↔ x ∈ l := by
  induction l with
  | nil => simp [shuffle]
  | cons y l ih => simp [shuffle, mem_putAt, ih]

/-- The lowest place at which a test holds, where it holds anywhere. -/
theorem lowest_eq_some {α : Type} {test : α → Bool} {l : List α} {k : Nat} (h : lowest test l = some k) :
    ∃ x, l[k]? = some x ∧ test x = true ∧ ∀ j y, j < k → l[j]? = some y → test y = false := by
  obtain ⟨hk, hm, hl⟩ := List.find?_range_eq_some.mp h
  have hlen : k < l.length := by simpa using hm
  refine ⟨l[k], by simp [hlen], by simpa [hlen] using hk, fun j y hj hy => ?_⟩
  have := hl j hj
  rw [hy] at this
  simpa using this

theorem lowest_eq_none {α : Type} {test : α → Bool} {l : List α} (h : lowest test l = none) : ∀ x ∈ l, test x = false := by
  intro x hx
  obtain ⟨i, hi, rfl⟩ := List.getElem_of_mem hx
  have := (List.find?_eq_none.mp h) i (by simpa using hi)
  simpa [hi] using this

/-! ## The image -/

/-- R165: a read of the configuration memory gives 1986 bytes, whatever drives it. -/
@[simp] theorem imageOf_length (bytes : List Byte) : (imageOf bytes).length = 1986 := by
  rw [imageOf, List.length_take, List.length_append, List.length_replicate, Config.imageBytes]
  omega

end Sys2Proof.Machine
end

