-- ==== Sys2Proof/Laws/Ops.lean ====
section
/-! SUPPORT. What each operation shared by several blocks can do, said once: a change of the frame mode, a trip, a response, the
sequencer's requests, the group alarm level and the composition of a BEAT, each by its cases and by what it keeps. -/

namespace Sys2Proof.Machine

variable {s t u : State}

/-! ## What the mode controller, the load servo, the sequencer and the line unit may change alone -/

theorem State.RecordsKept.refl (s : State) : s.RecordsKept s := ⟨rfl, rfl, rfl, rfl, rfl, rfl, rfl, rfl, rfl⟩

theorem State.RecordsKept.trans (h : s.RecordsKept t) (k : t.RecordsKept u) : s.RecordsKept u := by
  obtain ⟨a, b, c, d, e, f, g, i, j⟩ := h
  obtain ⟨a', b', c', d', e', f', g', i', j'⟩ := k
  exact ⟨a'.trans a, b'.trans b, c'.trans c, d'.trans d, e'.trans e, f'.trans f, g'.trans g, i'.trans i, j'.trans j⟩

/-! ## Changes of the frame mode -/

theorem enterMode_keeps (m : Mode) (s : State) : s.RecordsKept (s.enterMode m) := ⟨rfl, rfl, rfl, rfl, rfl, rfl, rfl, rfl, rfl⟩

theorem enterTrip_keeps (code : TripCode) (s : State) : s.RecordsKept (s.enterTrip code) :=
  ⟨rfl, rfl, rfl, rfl, rfl, rfl, rfl, rfl, rfl⟩

/-- R24: a change of mode is its entry, or its entry and a CUTOFF trip. -/
theorem changeMode_cases (m : Mode) (s : State) :
    s.changeMode m = s.enterMode m
      ∨ (s.servo.cutoff = true ∧ m.watchesCutoff = true ∧ s.changeMode m = (s.enterMode m).enterTrip .cutoff) := by
  unfold State.changeMode
  split
  · rename_i h
    exact .inr ⟨(Bool.and_eq_true _ _ ▸ h).1, (Bool.and_eq_true _ _ ▸ h).2, rfl⟩
  · exact .inl rfl

theorem changeMode_of_open (m : Mode) (h : s.servo.cutoff = false) : s.changeMode m = s.enterMode m := by
  simp [State.changeMode, h]

theorem changeMode_keeps (m : Mode) (s : State) : s.RecordsKept (s.changeMode m) := by
  obtain h | ⟨-, -, h⟩ := changeMode_cases m s <;> rw [h]
  · exact enterMode_keeps m s
  · exact (enterMode_keeps m s).trans (enterTrip_keeps _ _)

/-- R139: a trip is taken but in START, CFG_FAULT and TRIPPED. -/
theorem trip_cases (code : TripCode) (s : State) :
    (s.control.mode.watchesCutoff = false ∧ s.trip code = s) ∨ (s.control.mode.watchesCutoff = true ∧ s.trip code = s.enterTrip code) := by
  unfold State.trip
  cases h : s.control.mode <;> simp [Mode.watchesCutoff, Mode.engaged]

theorem trip_keeps (code : TripCode) (s : State) : s.RecordsKept (s.trip code) := by
  obtain ⟨-, h⟩ | ⟨-, h⟩ := trip_cases code s <;> rw [h]
  · exact .refl s
  · exact enterTrip_keeps code s

/-! ## Requests and responses -/

theorem holdRequest_cases (s : State) :
    (s.control.mode = .run ∧ s.holdRequest = s.changeMode .hold) ∨ (s.control.mode ≠ .run ∧ s.holdRequest = s) := by
  unfold State.holdRequest
  split
  · exact .inl ⟨‹_›, rfl⟩
  · exact .inr ⟨‹_›, rfl⟩

theorem holdRequest_keeps (s : State) : s.RecordsKept s.holdRequest := by
  obtain ⟨-, h⟩ | ⟨-, h⟩ := holdRequest_cases s <;> rw [h]
  · exact changeMode_keeps _ s
  · exact .refl s

theorem withSequencer_keeps (r : Sequencer × Bool) (s : State) : s.RecordsKept (s.withSequencer r) := by
  unfold State.withSequencer
  split
  · exact State.RecordsKept.trans (s := s) (t := { s with seq := r.1 }) ⟨rfl, rfl, rfl, rfl, rfl, rfl, rfl, rfl, rfl⟩ (holdRequest_keeps _)
  · exact ⟨rfl, rfl, rfl, rfl, rfl, rfl, rfl, rfl, rfl⟩

/-- R40: only a barrier whose condition is met is left. -/
theorem examineBarrier_cases (s : State) :
    s.examineBarrier = s
      ∨ (s.seq.state = .barrier ∧ s.barrierMet = true
          ∧ s.examineBarrier = s.withSequencer (s.seq.passOn s.settings.segments false s.control.mode)) := by
  unfold State.examineBarrier Sequencer.examine
  split
  · split
    · rename_i h
      exact .inr ⟨h.1, h.2, rfl⟩
    · exact .inl rfl
  · exact .inl rfl

theorem examineBarrier_of_not_barrier (h : s.seq.state ≠ .barrier) : s.examineBarrier = s := by
  obtain h' | ⟨h', -⟩ := examineBarrier_cases s
  · exact h'
  · exact absurd h' h

theorem examineBarrier_keeps (s : State) : s.RecordsKept s.examineBarrier := by
  obtain h | ⟨-, -, h⟩ := examineBarrier_cases s <;> rw [h]
  · exact .refl s
  · exact withSequencer_keeps _ s

/-- R140: a response is a change into HOLD or DESCENT, or nothing. -/
theorem respond_cases (a : Policy) (s : State) :
    s.respond a = s
      ∨ (a = .hold ∧ (s.control.mode = .run ∨ s.control.mode = .ascent) ∧ s.respond a = s.changeMode .hold)
      ∨ (a = .descent ∧ (s.control.mode = .run ∨ s.control.mode = .ascent ∨ s.control.mode = .hold)
          ∧ s.respond a = s.changeMode .descent) := by
  unfold State.respond
  cases a <;> cases h : s.control.mode <;> simp

theorem respond_keeps (a : Policy) (s : State) : s.RecordsKept (s.respond a) := by
  obtain h | ⟨-, -, h⟩ | ⟨-, -, h⟩ := respond_cases a s <;> rw [h]
  · exact .refl s
  · exact changeMode_keeps _ s
  · exact changeMode_keeps _ s

/-- The mode a response leaves while the cutoff is not asserted. -/
theorem respond_mode (a : Policy) (h : s.servo.cutoff = false) : (s.respond a).control.mode = s.control.mode.answered a := by
  obtain h' | ⟨rfl, hm, h'⟩ | ⟨rfl, hm, h'⟩ := respond_cases a s
  · rw [h']
    unfold State.respond at h'
    cases a <;> cases hm : s.control.mode <;> simp only [Mode.answered, hm] at h' ⊢ <;>
      · rw [changeMode_of_open _ h] at h'
        have := congrArg (fun x => x.control.mode) h'
        simp [hm] at this
  · rw [h', changeMode_of_open _ h]
    obtain hm | hm := hm <;> simp [Mode.answered, hm]
  · rw [h', changeMode_of_open _ h]
    obtain hm | hm | hm := hm <;> simp [Mode.answered, hm]

theorem riseResponse_cases (g : Nat) (s : State) :
    s.riseResponse g = s ∨ (s.settings.policyFor g ≠ .note ∧ s.control.accept < g ∧ s.riseResponse g = s.respond (s.settings.policyFor g)) := by
  unfold State.riseResponse
  split
  · rename_i h
    exact .inr ⟨h.1, h.2, rfl⟩
  · exact .inl rfl

theorem riseResponse_keeps (g : Nat) (s : State) : s.RecordsKept (s.riseResponse g) := by
  obtain h | ⟨-, -, h⟩ := riseResponse_cases g s <;> rw [h]
  · exact .refl s
  · exact respond_keeps _ s

/-- R118: a forming of G leaves it, lowers it, or raises it with the response to the rise. -/
theorem formAlarm_cases (s : State) :
    (s.peers.formAlarm s.settings.group s.cracks.level = s.peers.groupAlarm ∧ s.formAlarm = s)
      ∨ (s.peers.formAlarm s.settings.group s.cracks.level < s.peers.groupAlarm
          ∧ s.formAlarm = s.putAlarm (s.peers.formAlarm s.settings.group s.cracks.level))
      ∨ (s.peers.groupAlarm < s.peers.formAlarm s.settings.group s.cracks.level
          ∧ s.formAlarm = (s.putAlarm (s.peers.formAlarm s.settings.group s.cracks.level)).riseResponse
              (s.peers.formAlarm s.settings.group s.cracks.level)) := by
  unfold State.formAlarm
  dsimp only
  split
  · exact .inl ⟨‹_›, rfl⟩
  · split
    · exact .inr (.inr ⟨‹_›, rfl⟩)
    · exact .inr (.inl ⟨by omega, rfl⟩)

/-- The blocks that no forming of G changes, with G as it comes out. -/
theorem formAlarm_keeps (s : State) :
    State.RecordsKept { s with peers := { s.peers with groupAlarm := s.peers.formAlarm s.settings.group s.cracks.level } } s.formAlarm := by
  obtain ⟨h, h'⟩ | ⟨-, h'⟩ | ⟨-, h'⟩ := formAlarm_cases s
  · rw [h, h']; exact .refl s
  · rw [h']; exact ⟨rfl, rfl, rfl, rfl, rfl, rfl, rfl, rfl, rfl⟩
  · rw [h']
    exact State.RecordsKept.trans (t := s.putAlarm (s.peers.formAlarm s.settings.group s.cracks.level))
      ⟨rfl, rfl, rfl, rfl, rfl, rfl, rfl, rfl, rfl⟩ (riseResponse_keeps _ _)

/-- The largest of a level and the own levels of a list of entries. -/
theorem foldl_max_ownLevel (l : List Peer) (g : Nat) :
    g ≤ l.foldl (fun g e => max g e.ownLevel) g ∧ (∀ e ∈ l, e.ownLevel ≤ l.foldl (fun g e => max g e.ownLevel) g)
      ∧ (l.foldl (fun g e => max g e.ownLevel) g = g ∨ ∃ e ∈ l, e.ownLevel = l.foldl (fun g e => max g e.ownLevel) g) := by
  induction l generalizing g with
  | nil => simp
  | cons e l ih =>
    obtain ⟨h₁, h₂, h₃⟩ := ih (max g e.ownLevel)
    simp only [List.foldl_cons, List.mem_cons, forall_eq_or_imp, exists_eq_or_imp]
    refine ⟨by omega, ⟨by omega, h₂⟩, ?_⟩
    obtain h₃ | h₃ := h₃
    · rw [h₃]; omega
    · exact .inr (.inr h₃)

/-- R118: what G is once formed. -/
theorem formAlarm_spec (p : PeerTable) (own level : Nat) :
    level ≤ p.formAlarm own level ∧ (∀ e ∈ p.countedPeers own, e.ownLevel ≤ p.formAlarm own level)
      ∧ (p.formAlarm own level = level ∨ ∃ e ∈ p.countedPeers own, e.ownLevel = p.formAlarm own level) :=
  foldl_max_ownLevel _ _

/-! ## Composing -/

theorem wake_cases (v : LineUnit) :
    (v.wake = v ∧ ¬ (v.line = .active ∧ v.transmitter = .idle ∧ (v.beatSlot.isSome || v.replySlot.isSome) = true))
      ∨ (v.line = .active ∧ v.transmitter = .idle ∧ (v.beatSlot.isSome || v.replySlot.isSome) = true
          ∧ v.wake = { v with transmitter := .waitGap }) := by
  unfold LineUnit.wake
  split
  · rename_i h
    exact .inr ⟨h.1, h.2.1, h.2.2, rfl⟩
  · exact .inl ⟨rfl, ‹_›⟩

/-- A composition of a BEAT changes the line unit and the clamp flag alone. -/
theorem compose_keeps (c : Cause) (s : State) :
    s.RecordsKept (s.compose c) ∧ (s.compose c).control = s.control ∧ (s.compose c).seq = s.seq ∧ s.servo.Kept (s.compose c).servo := by
  unfold State.compose Servo.Kept
  split <;> exact ⟨⟨rfl, rfl, rfl, rfl, rfl, rfl, rfl, rfl, rfl⟩, rfl, rfl, rfl⟩

/-- R157: the snapshot, in the words of the table. -/
theorem snapshot_shown (c : Cause) (s : State) : s.snapshot c = s.shown c s.servo.clampFlag := by
  simp [State.snapshot, State.shown, State.beatFlags, Recorder.damageWatch, PeerTable.peerLost, Sequencer.shownIndex,
    Sequencer.shownRemaining, State.faultTripCode, duplicateCode, State.q, Config.accUnit, Bool.and_assoc]

/-- R156, R157: what the end of an event reports, where the event has left the line unit to its composition. -/
theorem compose_reportsWith (c : Cause) (s u : State) (hk : s.line.Kept u.line) (hb : u.line.beatSlot = s.line.beatSlot)
    (hi : u.line.intervalUs = s.line.intervalUs) (hq : u.line.lastQ = s.line.lastQ)
    (ht : u.line.transmitter = s.line.transmitter) : s.ReportsWith c u.servo.clampFlag (u.compose c) := by
  obtain ⟨hl, hd, hu, ha, hh, hr, he, hn, ho⟩ := hk
  have hshown : (u.compose c).shown c u.servo.clampFlag = u.shown c u.servo.clampFlag := by
    unfold State.compose LineUnit.wake
    repeat' split
    all_goals rfl
  unfold State.ReportsWith
  rw [hshown, ← snapshot_shown]
  unfold State.compose
  cases hs : s.line.line <;> rw [hs] at hl
  all_goals simp [LineState.composes, hs, hl, LineUnit.wake, LineUnit.Kept, State.q, Config.accUnit, hd, hu, ha, hh, hr, he, hn, ho, hb, hi,
    hq, ht]
  split <;> simp_all

/-- R156: what a composition reports. -/
theorem compose_reports (c : Cause) (s : State) : s.Reports c (s.compose c) :=
  compose_reportsWith c s s ⟨rfl, rfl, rfl, rfl, rfl, rfl, rfl, rfl, rfl⟩ rfl rfl rfl rfl

/-- The end of an event composes once, or changes nothing. -/
theorem settle_cases (s : State) :
    (s.line.prompt = true ∧ s.settle = s.compose .prompt) ∨ (s.line.prompt = false ∧ s.settle = s) := by
  unfold State.settle
  cases h : s.line.prompt <;> simp

theorem settle_of_quiet (h : s.line.prompt = false) : s.settle = s := by simp [State.settle, h]

theorem settle_keeps (s : State) :
    s.RecordsKept s.settle ∧ s.settle.control = s.control ∧ s.settle.seq = s.seq ∧ s.servo.Kept s.settle.servo := by
  obtain ⟨-, h⟩ | ⟨-, h⟩ := settle_cases s <;> rw [h]
  · exact compose_keeps _ s
  · exact ⟨.refl s, rfl, rfl, rfl⟩

/-- R156: an event ends with its causes spent. -/
theorem settle_prompt (s : State) : s.settle.line.prompt = false := by
  obtain ⟨-, h⟩ | ⟨h', h⟩ := settle_cases s <;> rw [h]
  · unfold State.compose
    split
    · unfold LineUnit.wake
      split <;> rfl
    · rfl
  · exact h'

end Sys2Proof.Machine
end

