-- ==== Sys2Proof/Laws/Blocks.lean ====
section
/-! SUPPORT. What each block's own operations can do, said once: the sequencer's, the servo tick's, the scanner's, the
recorder's, the crack monitor's and the peer view table's. -/

namespace Sys2Proof.Machine

variable {s t : State}

/-! ## The frame modes -/

theorem running_eq_false : s.running = false ↔ s.control.mode = .start ∨ s.control.mode = .cfgFault := by
  unfold State.running
  cases s.control.mode <;> simp

theorem running_of_engaged (h : s.control.mode.engaged = true) : s.running = true := by
  unfold State.running
  cases hm : s.control.mode <;> simp_all [Mode.engaged]

/-! ## The sequencer -/

/-- The parts of the sequencer that a segment's end, a start and a move leave alone. -/
theorem start_keeps (tab : List Segment) (atMark : Bool) (m : Mode) (q : Sequencer) :
    (q.start tab atMark m).index = q.index ∧ (q.start tab atMark m).elapsed = q.elapsed
      ∧ (q.start tab atMark m).remaining = q.remaining ∧ (q.start tab atMark m).clean = q.clean
      ∧ (q.start tab atMark m).complete = q.complete ∧ (q.start tab atMark m).scaleBuffer = q.scaleBuffer
      ∧ (q.start tab atMark m).scaleActive = q.scaleActive ∧ (q.start tab atMark m).partialCycles = q.partialCycles := by
  unfold Sequencer.start Sequencer.cycleEnvelope
  repeat' split
  all_goals exact ⟨rfl, rfl, rfl, rfl, rfl, rfl, rfl, rfl⟩

/-- R38: what the end of a segment at the position leads to. -/
theorem passOn_cases (tab : List Segment) (atMark : Bool) (m : Mode) (q : Sequencer) :
    ((segmentAt tab q.index).link = none ∧ q.passOn tab atMark m = ({ q with state := .complete, complete := true }, true))
      ∨ (∃ k, (segmentAt tab q.index).link = some k ∧ (segmentAt tab q.index).pause = true
          ∧ q.passOn tab atMark m = (q.moveTo tab k, true))
      ∨ ∃ k, (segmentAt tab q.index).link = some k ∧ (segmentAt tab q.index).pause = false
          ∧ q.passOn tab atMark m = ((q.moveTo tab k).start tab atMark m, false) := by
  unfold Sequencer.passOn
  split
  · exact .inl ⟨‹_›, rfl⟩
  · rename_i k h
    split
    · exact .inr (.inl ⟨k, h, ‹_›, rfl⟩)
    · rename_i hp
      exact .inr (.inr ⟨k, h, Bool.eq_false_iff.mpr hp, rfl⟩)

theorem finish_cases (tab : List Segment) (atMark : Bool) (m : Mode) (met : Bool) (q : Sequencer) :
    ((segmentAt tab q.index).groupAdvance = true ∧ met = false ∧ q.finish tab atMark m met = ({ q with state := .barrier }, false))
      ∨ (((segmentAt tab q.index).groupAdvance = false ∨ met = true) ∧ q.finish tab atMark m met = q.passOn tab atMark m) := by
  unfold Sequencer.finish
  cases (segmentAt tab q.index).groupAdvance <;> cases met <;> simp

/-- R43: the envelope stays within its full value at every tick, and is 0 in STANDBY and TRIPPED. -/
theorem envelopeStep_le (rate : Nat) (m : Mode) (q : Sequencer) (h : q.envelope ≤ Config.accFull) :
    (q.envelopeStep rate m).envelope ≤ Config.accFull := by
  unfold Sequencer.envelopeStep
  repeat' split
  all_goals first | exact h | (simp only; omega)

/-- A step of the envelope changes it and the soft start alone. -/
theorem envelopeStep_keeps (rate : Nat) (m : Mode) (q : Sequencer) :
    q.envelopeStep rate m = { q with envelope := (q.envelopeStep rate m).envelope, softStep := (q.envelopeStep rate m).softStep } := by
  unfold Sequencer.envelopeStep
  repeat' split
  all_goals rfl

theorem cleanStep_le (m : Mode) (fraction : Nat) (q : Sequencer) :
    (q.cleanStep m fraction).clean = true → q.clean = true ∧ m = .run := by
  unfold Sequencer.cleanStep
  simp; intros; simp_all

/-! ## The servo tick -/

/-- R4: a number of an order stands for one of 24. -/
theorem tickOrder_mod (n : Nat) : tickOrder n = tickOrder (n % 24) := by
  have h₁ : n % 24 % 4 = n % 4 := by omega
  have h₂ : n % 24 / 4 % 3 = n / 4 % 3 := by omega
  have h₃ : n % 24 / 12 % 2 = n / 12 % 2 := by omega
  have hl : ∀ b : TickBlock, b ∈ [TickBlock.servo, .control, .sequencer, .recorder] →
      ([TickBlock.servo, .control, .sequencer, .recorder].erase b).length = 3 := by decide
  have ha : [TickBlock.servo, .control, .sequencer, .recorder].getD (n % 4) .servo ∈ [TickBlock.servo, .control, .sequencer, .recorder] := by
    have : n % 4 < 4 := Nat.mod_lt _ (by decide)
    rw [List.getD_eq_getElem _ _ (by simpa using this)]
    exact List.getElem_mem _
  unfold tickOrder
  simp only [List.length_cons, List.length_nil, Nat.zero_add, Nat.reduceAdd, h₁, hl _ ha, h₂]
  have hk : ∀ (l : List TickBlock) (b : TickBlock), b ∈ l → l.length = 3 → (l.erase b).length = 2 := by
    intro l b hb h; rw [List.length_erase_of_mem hb, h]
  have hb : ∀ l : List TickBlock, l.length = 3 → l.getD (n / 4 % 3) .servo ∈ l := by
    intro l h
    rw [List.getD_eq_getElem _ _ (by omega)]
    exact List.getElem_mem _
  rw [hk _ _ (hb _ (hl _ ha)) (hl _ ha), h₃]

/-- R4: the orders a tick may be taken in, each a listing of the four blocks. -/
theorem tickOrder_perm (n : Nat) : (tickOrder n).Perm [TickBlock.servo, .control, .sequencer, .recorder] := by
  rw [tickOrder_mod]
  have : ∀ k < 24, (tickOrder k).Perm [TickBlock.servo, .control, .sequencer, .recorder] := by decide
  exact this _ (Nat.mod_lt _ (by decide))

/-- R4: the load servo takes a tick first in the orders numbered by multiples of four. -/
theorem tickOrder_servo_first (n : Nat) (h : n % 4 = 0) : ∃ l, tickOrder n = .servo :: l := by
  unfold tickOrder
  simp [h]

/-- R3: what the load servo does at a tick. -/
theorem loadTick_cases (rawLoad rawDisp : Half) (s : State) :
    (s.running = false ∧ s.loadTick rawLoad rawDisp = s)
      ∨ ((s.control.mode = .standby ∨ s.control.mode = .tripped) ∧ s.loadTick rawLoad rawDisp = { s with servo := s.sampled rawLoad rawDisp })
      ∨ (s.control.mode.engaged = true ∧ s.loadTick rawLoad rawDisp = s.engagedTick rawLoad rawDisp) := by
  unfold State.loadTick State.running
  cases h : s.control.mode <;> simp [Mode.engaged]

/-- R27: an engaged tick drives the valve, or releases it and trips. -/
theorem engagedTick_cases (rawLoad rawDisp : Half) (s : State) (h : s.control.mode.engaged = true) :
    (∃ cause, failedCheck s.settings (s.measured rawLoad rawDisp).load (s.measured rawLoad rawDisp).disp
          (s.measured rawLoad rawDisp).tracking = some cause
        ∧ s.engagedTick rawLoad rawDisp = State.enterTrip cause { s with servo := (s.measured rawLoad rawDisp).release })
      ∨ (failedCheck s.settings (s.measured rawLoad rawDisp).load (s.measured rawLoad rawDisp).disp
            (s.measured rawLoad rawDisp).tracking = none
          ∧ s.engagedTick rawLoad rawDisp = { s with servo := (s.measured rawLoad rawDisp).drive s.settings }) := by
  unfold State.engagedTick
  dsimp only
  split
  · rename_i cause hc
    refine .inl ⟨cause, hc, ?_⟩
    unfold State.trip
    cases hm : s.control.mode <;> simp_all [Mode.engaged]
  · exact .inr ⟨‹_›, rfl⟩

theorem loadTick_keeps (rawLoad rawDisp : Half) (s : State) : s.RecordsKept (s.loadTick rawLoad rawDisp) := by
  obtain ⟨-, h⟩ | ⟨-, h⟩ | ⟨he, h⟩ := loadTick_cases rawLoad rawDisp s <;> rw [h]
  · exact .refl s
  · exact ⟨rfl, rfl, rfl, rfl, rfl, rfl, rfl, rfl, rfl⟩
  · obtain ⟨_, -, h⟩ | ⟨-, h⟩ := engagedTick_cases rawLoad rawDisp s he <;> rw [h] <;>
      exact ⟨rfl, rfl, rfl, rfl, rfl, rfl, rfl, rfl, rfl⟩

theorem fractionTick_keeps (s : State) : s.RecordsKept s.fractionTick := by
  have h : ∀ acc, s.RecordsKept (s.putQ acc) := fun _ => ⟨rfl, rfl, rfl, rfl, rfl, rfl, rfl, rfl, rfl⟩
  unfold State.fractionTick
  dsimp only
  repeat' split
  all_goals first | exact .refl s | exact h _ | exact (h _).trans (changeMode_keeps _ _)

theorem sequenceTick_keeps (s : State) : s.RecordsKept s.sequenceTick := withSequencer_keeps _ _

/-- R129: a step of DESCENT lies at or below the fraction, and not below both it and the floor. -/
theorem descentStep_spec (rate floor acc : Nat) :
    descentStep rate floor acc ≤ acc ∧ min acc floor ≤ descentStep rate floor acc ∧ acc - rate ≤ descentStep rate floor acc := by
  unfold descentStep; omega

/-- R129: a step of ASCENT lies at or above the fraction, and not above both it and the ceiling. -/
theorem ascentStep_spec (rate ceiling acc : Nat) :
    acc ≤ ascentStep rate ceiling acc ∧ ascentStep rate ceiling acc ≤ max acc ceiling ∧ ascentStep rate ceiling acc ≤ acc + rate := by
  unfold ascentStep; omega

/-- R16: the integrator keeps its limits. -/
theorem integratorAfter_mem (c : Settings) (e acc : Int) (h₁ : -(c.imax * 256 : Nat) ≤ acc) (h₂ : acc ≤ (c.imax * 256 : Nat)) :
    -(c.imax * 256 : Nat) ≤ integratorAfter c e acc ∧ integratorAfter c e acc ≤ (c.imax * 256 : Nat) := by
  unfold integratorAfter
  dsimp only
  split
  · exact ⟨h₁, h₂⟩
  · exact clamp_mem (by omega) _

/-- R17: the drive keeps its limit. -/
theorem valveDrive_mem (c : Settings) (e acc : Int) : -(c.umax : Int) ≤ valveDrive c e acc ∧ valveDrive c e acc ≤ c.umax :=
  clamp_mem (by omega) _

/-- R19: a duty stands for its drive. -/
theorem dutyOf_mem (inverted : Bool) {u : Int} {umax : Nat} (h₁ : -(umax : Int) ≤ u) (h₂ : u ≤ umax) (h₃ : umax ≤ 2047) :
    2048 ≤ dutyOf inverted u + umax ∧ dutyOf inverted u ≤ 2048 + umax := by
  unfold dutyOf; split <;> omega

/-! ## The cycle clock -/

/-- R55: the trim keeps within a 64th of the nominal period. -/
theorem trimOf_mem (nominal : Nat) (offsets : List Int) :
    -((nominal / 64 : Nat) : Int) ≤ trimOf nominal offsets ∧ trimOf nominal offsets ≤ (nominal / 64 : Nat) :=
  clamp_mem (by omega) _

/-- R59: a phase offset lies within half the applied period. -/
theorem phaseOffset_mem (phase tMsg deferral : Nat) {applied : Nat} (h : 0 < applied) :
    -(applied : Int) < 2 * phaseOffset phase applied tMsg deferral ∧ 2 * phaseOffset phase applied tMsg deferral ≤ applied
      ∧ (applied : Int) ∣ phaseOffset phase applied tMsg deferral - (phase - tMsg - deferral) := by
  have h₁ := Int.emod_nonneg ((phase : Int) - tMsg - deferral) (b := applied) (by omega)
  have h₂ := Int.emod_lt_of_pos ((phase : Int) - tMsg - deferral) (b := applied) (by omega)
  have h₃ := Int.mul_ediv_add_emod ((phase : Int) - tMsg - deferral) applied
  have hd : ∀ x k : Int, x = (phase : Int) - tMsg - deferral - applied * k → (applied : Int) ∣ x - (phase - tMsg - deferral) :=
    fun x k hx => ⟨-k, by rw [hx]; ring⟩
  unfold phaseOffset
  dsimp only
  split
  · exact ⟨by omega, by omega, hd _ (((phase : Int) - tMsg - deferral) / applied + 1) (by linarith)⟩
  · exact ⟨by omega, by omega, hd _ (((phase : Int) - tMsg - deferral) / applied) (by linarith)⟩

/-! ## The scanner -/

/-- R71: what the arbiter chooses. -/
theorem choose_cases (c : Settings) (z : Scanner) :
    (∃ k, lowest ChainRequest.waits z.chains = some k ∧ z.choose c = z.beginChain c k)
      ∨ (lowest ChainRequest.waits z.chains = none ∧ ∃ i, lowest id z.ladders = some i ∧ z.choose c = z.beginLadder c i)
      ∨ (lowest ChainRequest.waits z.chains = none ∧ lowest id z.ladders = none ∧ z.choose c = { z with converter := .idle }) := by
  unfold Scanner.choose
  split
  · exact .inl ⟨_, ‹_›, rfl⟩
  · split
    · exact .inr (.inl ⟨‹_›, _, ‹_›, rfl⟩)
    · exact .inr (.inr ⟨‹_›, ‹_›, rfl⟩)

/-- R69, R72: what a firing does. -/
theorem fire_cases (c : Settings) (k : Nat) (atMark : Bool) (z : Scanner) :
    (((z.request k).waits = true ∨ z.serves k = true) ∧ z.fire c k atMark = z.mergeFiring k)
      ∨ ((z.request k).waits = false ∧ z.serves k = false
          ∧ ((z.converter = .idle ∧ z.fire c k atMark = Scanner.beginChain c k { z with chains := z.chains.set k (.pending false atMark) })
            ∨ (z.converter ≠ .idle ∧ z.fire c k atMark = { z with chains := z.chains.set k (.pending false atMark) }))) := by
  unfold Scanner.fire
  dsimp only
  split
  · rename_i h
    exact .inl ⟨by simpa using h, rfl⟩
  · rename_i h
    refine .inr ⟨by simp_all, by simp_all, ?_⟩
    split
    · exact .inl ⟨‹_›, rfl⟩
    · exact .inr ⟨‹_›, rfl⟩

/-- R70, R72: what the posting of a ladder request does. -/
theorem post_cases (c : Settings) (z : Scanner) (i : Nat) :
    (z.ladders.getD i false = true ∧ z.post c i = { z with ladderMerges := satAdd 65535 z.ladderMerges 1 })
      ∨ (z.ladders.getD i false = false
          ∧ ((z.converter = .idle ∧ z.post c i = Scanner.beginLadder c i { z with ladders := z.ladders.set i true })
            ∨ (z.converter ≠ .idle ∧ z.post c i = { z with ladders := z.ladders.set i true }))) := by
  unfold Scanner.post
  dsimp only
  split
  · exact .inl ⟨‹_›, rfl⟩
  · rename_i h
    refine .inr ⟨by simpa using h, ?_⟩
    split
    · exact .inl ⟨‹_›, rfl⟩
    · exact .inr ⟨‹_›, rfl⟩

/-- R73, R77: the accumulator over more samples. -/
theorem accumulate_eq (codes : List Half) (z : Scanner) : z.accumulate codes = z.accumulator + (codes.map BitVec.toInt).sum := by
  unfold Scanner.accumulate
  simp only [codeValue_eq_toInt]
  generalize z.accumulator = a
  induction codes generalizing a with
  | nil => simp
  | cons c l ih => simp only [List.foldl_cons, ih, List.map_cons, List.sum_cons]; omega

/-- R68: the sum of `n` samples lies within `n` times the span of one. -/
theorem sum_samples_mem (codes : List Half) :
    -32768 * (codes.length : Int) ≤ (codes.map BitVec.toInt).sum ∧ (codes.map BitVec.toInt).sum ≤ 32767 * codes.length := by
  induction codes with
  | nil => simp
  | cons c l ih =>
    have h₁ := BitVec.le_toInt c
    have h₂ := BitVec.toInt_lt (x := c)
    simp only [List.map_cons, List.sum_cons, List.length_cons, Nat.cast_add, Nat.cast_one]
    omega

/-- Assumption 10: codes end the record or read in service, or go on with it, or do nothing. -/
theorem takeCodes_cases (n : Nat) (codes : List Half) (ended : State → State) (s : State) :
    (s.scanner.converter.sample + codes.length = n ∧ s.takeCodes n codes ended = ended s)
      ∨ (codes ≠ [] ∧ s.scanner.converter.sample + codes.length < n
          ∧ s.takeCodes n codes ended = { s with scanner := s.scanner.takeSamples codes })
      ∨ (s.scanner.converter.sample + codes.length ≠ n ∧ (codes = [] ∨ n < s.scanner.converter.sample + codes.length)
          ∧ s.takeCodes n codes ended = s) := by
  unfold State.takeCodes
  split
  · exact .inl ⟨‹_›, rfl⟩
  · split
    · rename_i h
      exact .inr (.inl ⟨h.1, h.2, rfl⟩)
    · rename_i h₁ h₂
      refine .inr (.inr ⟨h₁, ?_, rfl⟩)
      by_cases h : codes = []
      · exact .inl h
      · exact .inr (Nat.lt_of_le_of_ne (Nat.not_lt.mp fun h' => h₂ ⟨h, h'⟩) (Ne.symm h₁))

/-- R74, assumption 10: the average is that of all the samples, however their codes are divided. -/
theorem average_takeSamples (a b : List Half) (z : Scanner) (h : z.converter ≠ .idle) :
    (z.takeSamples a).average b = z.average (a ++ b) := by
  have hs : (z.converter.complete a.length).sample = z.converter.sample + a.length := by
    cases hz : z.converter with
    | idle => exact absurd hz h
    | chain p r n us carried => rfl
    | ladder i n us => rfl
  simp [Scanner.average, Scanner.takeSamples, Scanner.accumulate, List.foldl_append, hs, Nat.add_assoc]

/-- R73, R74, assumption 10: a record whose codes come in two parts ends as one whose codes come at once. -/
theorem execRecordComplete_append (a b : List Half) (k r n us : Nat) (carried : Bool) (s : State)
    (h : s.scanner.converter = .chain k r n us carried) (ha : a ≠ []) (hb : b ≠ [])
    (hn : n + a.length + b.length ≤ (recordAt s.settings r).samples) :
    ∃ t, execRecordComplete a s = .next t ∧ execRecordComplete b t = execRecordComplete (a ++ b) s := by
  have hl : 0 < b.length := List.length_pos_of_ne_nil hb
  refine ⟨{ s with scanner := s.scanner.takeSamples a }, ?_, ?_⟩
  · unfold execRecordComplete
    simp only [h, State.takeCodes, Converter.sample_chain]
    rw [if_neg (by omega), if_pos ⟨ha, by omega⟩]
  · have hv := average_takeSamples a b s.scanner (by simp [h])
    by_cases he : n + a.length + b.length = (recordAt s.settings r).samples
    · simp only [execRecordComplete, h, Scanner.takeSamples_converter, Converter.complete_chain, State.takeCodes, Converter.sample_chain,
        if_pos he, List.length_append, ← Nat.add_assoc, State.endRecord, hv, Scanner.afterRecord]
      congr 2
    · simp only [execRecordComplete, h, Scanner.takeSamples_converter, Converter.complete_chain, State.takeCodes, Converter.sample_chain,
        if_neg he, List.length_append, ← Nat.add_assoc]
      rw [if_pos ⟨hb, by omega⟩, if_pos ⟨by simp [ha], by omega⟩]
      simp [Scanner.takeSamples, Scanner.accumulate, List.foldl_append, h, Nat.add_assoc]

/-! ## The range recorder -/

@[simp] theorem close_samples (c : ChannelConst) (r : Channel) : (r.close c).samples = 0 := rfl

/-- R85, R88: the close of a channel adds one to one of its bins or to its missed count, until one is full. -/
theorem modify_satAdd_sum (l : List Nat) (k : Nat) (hk : k < l.length) (h : ∀ b ∈ l, b < 4294967295) :
    (l.modify k fun n => satAdd 4294967295 n 1).sum = l.sum + 1 := by
  induction l generalizing k with
  | nil => simp at hk
  | cons a l ih =>
    cases k with
    | zero =>
      have ha := h a (by simp)
      simp [satAdd_eq_min]
      omega
    | succ k =>
      have := ih k (by simpa using hk) fun b hb => h b (by simp [hb])
      simp [this]
      omega

theorem binOf_le (width range : Nat) : binOf width range ≤ 15 := by unfold binOf; omega

/-! ## The crack monitor -/

/-- R109: new records whose level stands are put alone; a changed level is a PROMPT cause and forms G anew. -/
theorem putCracks_cases (k : Cracks) (s : State) :
    (k.level = s.cracks.level ∧ s.putCracks k = { s with cracks := k })
      ∨ (k.level ≠ s.cracks.level ∧ s.putCracks k = State.formAlarm { s with cracks := k, line := { s.line with prompt := true } }) := by
  unfold State.putCracks
  split
  · exact .inl ⟨‹_›, rfl⟩
  · exact .inr ⟨‹_›, rfl⟩

/-- R95, R108: the judging of a CONFIRMED or CRITICAL site leaves it CONFIRMED or CRITICAL, and a CRITICAL one CRITICAL. -/
theorem judgeConfirmed_state (c : SiteConst) (cond : Reading) (r : Site) (h : r.state = .confirmed ∨ r.state = .critical) :
    ((r.judgeConfirmed c cond).1.state = .confirmed ∨ (r.judgeConfirmed c cond).1.state = .critical)
      ∧ (r.state = .critical → (r.judgeConfirmed c cond).1.state = .critical) := by
  unfold Site.judgeConfirmed Site.grow
  obtain h | h := h <;> cases cond <;> simp [h] <;> repeat' split
  all_goals simp_all

/-- R99, R100: the baseline and the capture leave a site's state alone. -/
theorem takeBaseline_state (cond : Reading) (r : Site) : (r.takeBaseline cond).state = r.state := by
  unfold Site.takeBaseline
  split <;> rfl

theorem capture_state (c : SiteConst) (sig : RangesClosed) (r : Site) : (r.capture c sig).state = r.state := by
  unfold Site.capture
  repeat' split
  all_goals first | rfl | (dsimp only; split <;> rfl)

/-- R109: the sensor fault indication is set exactly while a used site is in SENSOR_FAULT or has its flag set. -/
theorem sensorFaultOf_iff (consts : List SiteConst) (sites : List Site) :
    sensorFaultOf consts sites = true ↔ ∃ (k : Nat) (c : SiteConst) (r : Site), consts[k]? = some c ∧ sites[k]? = some r
      ∧ c.used = true ∧ (r.state = .sensorFault ∨ r.faultFlag = true) := by
  simp only [sensorFaultOf, List.any_eq_true, List.mem_iff_getElem?, List.getElem?_zipWith, id]
  constructor
  · rintro ⟨_, ⟨k, h⟩, rfl⟩
    cases hc : consts[k]? <;> cases hr : sites[k]? <;> simp_all
    exact ⟨k, _, hc, _, hr, h⟩
  · rintro ⟨k, c, r, hc, hr, h⟩
    exact ⟨true, ⟨k, by simp [hc, hr, h]⟩, rfl⟩

/-- R98: the record of a site after the evaluation of every site. -/
theorem Cracks.evaluate_getElem? (consts : List SiteConst) (sig : RangesClosed) (m : Cracks) {k : Nat} {c : SiteConst} {r : Site}
    (hc : consts[k]? = some c) (hr : m.sites[k]? = some r) :
    (m.evaluate consts sig).sites[k]? = some (Site.evaluateActive c sig r).1 := by
  simp [Cracks.evaluate, List.getElem?_zipWith, hc, hr]

/-- R94: a site that is not used is not evaluated. -/
@[simp] theorem Site.evaluateActive_unused {c : SiteConst} (h : c.used = false) (sig : RangesClosed) (r : Site) :
    r.evaluateActive c sig = (r, false) := by simp [Site.evaluateActive, h]

/-! ## The peer view table -/

/-- R58: a beat gives an offset to its entry, or changes nothing. -/
theorem captureOffset_cases (n : Nat) (v : BeatView) (s : State) :
    (s.capturesOffset (s.peers.entry n) v = false ∧ s.captureOffset n v = s)
      ∨ (s.capturesOffset (s.peers.entry n) v = true
          ∧ s.captureOffset n v = { s with peers := s.peers.setEntry n ((s.peers.entry n).withOffset
              (phaseOffset s.clock.phase s.clock.applied (beatTimeUs s.line.bitUs) v.deferral)) }) := by
  unfold State.captureOffset
  split
  · exact .inr ⟨‹_›, rfl⟩
  · rename_i h
    exact .inl ⟨by simpa using h, rfl⟩

theorem entry_setEntry_self (p : PeerTable) {n : Nat} (e : Peer) (h₁ : 1 ≤ n) (h₂ : n ≤ p.entries.length) :
    (p.setEntry n e).entry n = e := by
  simp [PeerTable.entry, PeerTable.setEntry, List.getD_eq_getElem?_getD, show n - 1 < p.entries.length by omega]

theorem entry_setEntry_other (p : PeerTable) {n k : Nat} (e : Peer) (h₁ : 1 ≤ n) (h₂ : 1 ≤ k) (h : k ≠ n) :
    (p.setEntry n e).entry k = p.entry k := by
  have : n - 1 ≠ k - 1 := by omega
  simp [PeerTable.entry, PeerTable.setEntry, List.getD_eq_getElem?_getD, this]

/-! ## Start-up -/

/-- R24, R139: the report of the cutoff at the entry to STANDBY is a trip, or nothing. -/
theorem reportCutoff_cases (s : State) :
    (s.servo.cutoff = false ∧ s.reportCutoff = s) ∨ (s.servo.cutoff = true ∧ s.reportCutoff = s.trip .cutoff) := by
  unfold State.reportCutoff
  cases s.servo.cutoff <;> simp

theorem reportCutoff_keeps (s : State) : s.RecordsKept s.reportCutoff := by
  obtain ⟨-, h⟩ | ⟨-, h⟩ := reportCutoff_cases s <;> rw [h]
  · exact .refl s
  · exact trip_keeps _ s

/-- R169: start-up reaches STANDBY. -/
theorem reachStandby_mode (m : List Byte) (first : Nat) (s : State) : (s.reachStandby m first).control.mode = .standby := by
  unfold State.reachStandby
  rw [(settle_keeps _).2.1]
  rfl

/-! ## Receiving -/

/-- R146: a message that finds the assembler ready is handed on at once. -/
theorem arrive_of_ready (message : List Byte) (handOn : State → State) (hl : s.line.line = .active ∨ s.line.line = .listenOnly)
    (ha : s.line.assembler = .ready) : s.arrive message handOn = handOn s := by
  have h : ({ s with line := { s.line with assembler := .ready } } : State) = s := by rw [← ha]
  unfold State.arrive LineUnit.receives
  rw [h, ha]
  obtain hl | hl := hl <;> simp [hl, Assembler.accepts]

/-- R146: a message that the characters of the one in progress begin ends it, and is handed on; any other does not come. -/
theorem arrive_of_taking (message l : List Byte) (handOn : State → State) (ha : s.line.assembler = .taking l) :
    s.arrive message handOn
      = if (s.line.line = .active ∨ s.line.line = .listenOnly) ∧ l <+: message then
          handOn { s with line := { s.line with assembler := .ready } } else s := by
  unfold State.arrive LineUnit.receives
  simp [ha, Assembler.accepts]

/-- A message that no block takes changes nothing where it ends no message in progress. -/
theorem arrive_id (message : List Byte) (ha : s.line.assembler.characters = [])
    (h : ∀ l, s.line.assembler = .taking l → l ≠ []) : s.arrive message id = s := by
  cases hs : s.line.assembler with
  | ready =>
    have e : ({ s with line := { s.line with assembler := .ready } } : State) = s := by rw [← hs]
    simp [State.arrive, e]
  | taking l => exact absurd (by simpa [hs, Assembler.characters] using ha) (h l hs)
  | off => simp [State.arrive, LineUnit.receives, hs, Assembler.accepts]
  | waiting => simp [State.arrive, LineUnit.receives, hs, Assembler.accepts]

/-- R146: characters that begin or go on with a message are taken, and no others. -/
theorem takeUnfinished_cases (characters : List Byte) (s : State) :
    s.takeUnfinished characters = s
      ∨ (s.line.assembles = true ∧ expectsMore (s.line.assembler.characters ++ characters) = true
          ∧ s.takeUnfinished characters = { s with line := s.line.takeCharacters characters }) := by
  unfold State.takeUnfinished
  split
  · rename_i h
    exact .inr ⟨(Bool.and_eq_true _ _ ▸ h).1, (Bool.and_eq_true _ _ ▸ h).2, rfl⟩
  · exact .inl rfl

/-- R146, R147: what it is for a message to expect more characters. -/
theorem expectsMore_iff (l : List Byte) :
    expectsMore l = true ↔ 1 ≤ l.length ∧ (3 ≤ l.length → byteAt l 2 ≤ 48 ∧ l.length < 5 + byteAt l 2) := by
  unfold expectsMore stillToCome bodyLength
  cases l with
  | nil => simp
  | cons a l =>
    by_cases h : 3 ≤ (a :: l).length
    · rw [if_pos h]
      simp only [Option.all_some, Bool.and_eq_true, decide_eq_true_eq]
      simp only [List.length_cons] at h ⊢
      constructor
      · intro ⟨_, h₁, h₂⟩; exact ⟨by omega, fun _ => ⟨h₂, by omega⟩⟩
      · intro ⟨_, h₁⟩; exact ⟨by simp, by omega, (h₁ h).1⟩
    · rw [if_neg h]
      simp only [Option.all_none, Bool.and_true, decide_eq_true_eq]
      exact ⟨fun _ => ⟨by simp, fun h' => absurd h' h⟩, fun _ => by simp⟩

/-! ## The commands' outcomes -/

/-- A directive that is obeyed ends with its record and its report. -/
theorem directive_of_adopts (code : Byte) (d : Directive) (action : State → Decision)
    (hl : s.line.line = .active ∨ s.line.line = .listenOnly) (hr : s.line.assembler = .ready) (ha : s.addressed d = true)
    {o : Half} (hs : s.line.seenEpoch = some o) (hn : newerEpoch d.epoch o = true) :
    s.directive code d action = ((s.seeEpoch d.epoch).obey action).settle := by
  unfold State.directive
  rw [arrive_of_ready _ _ hl hr]
  simp [State.judgeEpoch, ha, hs, hn]

/-- R161: a query that the node answers leaves its reply in the slot. -/
theorem query_of_asked (kind : Nat) (q : Query) (content : State → Option (List Byte)) (hl : s.line.line = .active)
    (hr : s.line.assembler = .ready) (ha : s.asked q = true) :
    s.query kind q content
      = s.countOverrun.putReply { kind := BitVec.ofNat 8 kind, index := q.index, content := content s.countOverrun } := by
  unfold State.query
  rw [arrive_of_ready _ _ (.inl hl) hr]
  simp [ha, hl, LineState.composes]

/-- R116: an expiry that does not happen changes nothing. -/
theorem peerStale_of_not_expires (n : Nat) (h : (s.peers.entry n).expires .fresh s.settings.staleMs = false) :
    exec (.peerStale n) s = .next s := by
  simp [exec, execPeerStale, h]

theorem peerLost_of_not_expires (n : Nat) (h : (s.peers.entry n).expires .stale s.settings.lostMs = false) :
    exec (.peerLost n) s = .next s := by
  simp [exec, execPeerLost, h]

/-- R39: the barrier condition, entry by entry. -/
theorem barrierMet_iff (p : PeerTable) (own index : Nat) (link : Option Nat) :
    p.barrierMet own index link = true ↔ p.Clears own index link := by
  have h : ∀ e : Peer, e.counted own = true → e.atWork = true → (e.passes index link = true
      ↔ (e.segIndex = index ∧ e.flags.barrierWait = true) ∨ link = some e.segIndex
        ∨ (link = none ∧ e.segIndex = index ∧ e.flags.complete = true)) := by
    intro e _ _
    cases link with
    | none => simp [Peer.passes]
    | some k => simp [Peer.passes, @eq_comm _ k]
  simp only [PeerTable.barrierMet, PeerTable.countedPeers, PeerTable.Clears, List.all_eq_true, List.mem_filter]
  refine ⟨fun a e he hs hg ho hm => ?_, fun a e he => ?_⟩
  · have hc : e.counted own = true := by simp [Peer.counted, hs, hg, ho]
    have hw : e.atWork = true := by obtain hm | hm | hm := hm <;> simp [Peer.atWork, hm]
    exact (h e hc hw).mp (a e ⟨⟨he, hc⟩, hw⟩)
  · obtain ⟨⟨hm, hc⟩, hw⟩ := he
    have hc' := hc
    simp only [Peer.counted, Bool.and_eq_true, Bool.or_eq_true, decide_eq_true_eq] at hc'
    refine (h e hc hw).mpr (a e hm hc'.1.1 hc'.1.2 hc'.2 ?_)
    cases hmode : e.mode <;> simp_all [Peer.atWork]

/-! ## What falls due -/

/-- What joins the queue in a microsecond, in some order. -/
theorem mem_due (s : State) (i : Instr) :
    i ∈ s.due ↔ i ∈ s.dueMark ∨ i ∈ s.duePoints ∨ i ∈ s.advance.dueExpiries ∨ i ∈ s.advance.control.due
      ∨ i ∈ s.advance.line.transmitter.due ∨ i ∈ s.advance.line.dueInterval := by
  simp only [State.due, mem_shuffle, List.mem_append, or_assoc]

end Sys2Proof.Machine
end

