-- ==== Sys2Proof/WellFormed.lean ====
section
/-! DEFINITION. Which commands can come: the ranges of their operands as the manual gives them. A command outside them has
its meaning all the same, which changes nothing that the manual does not give it (assumption 1). -/

namespace Sys2Proof

open Machine

/-- Whether a command's operands lie within the ranges the manual gives: 1986 image bytes (R165), eight scan points (R62),
twelve sites, no more samples than the most of R66 and those of R77, the body lengths of section 9.2, stations 1..16 (R113), an error of R147, a
message in progress of fewer characters than the longest one has (R146), the bits of the longest message (section 9.2), and
codes outside the named ones where the row says so (R158, R162). -/
def Instr.wellFormed : Instr → Bool
  | .imageReadComplete image firstPoint => decide (image.length = Config.imageBytes) && decide (firstPoint < 8)
  | .servoTick order _ _ => decide (order < 24)
  | .cycleMark _ firstSite => decide (firstSite < 12)
  | .scanPointFire point => decide (point < 8)
  | .recordComplete codes => decide (codes ≠ [] ∧ codes.length ≤ 8)
  | .ladderReadComplete codes => decide (codes ≠ [] ∧ codes.length ≤ Config.ladderSamples)
  | .beatArrival _ body => decide (body.length = 31)
  | .replyReceived _ body => decide (body.length ≤ 48)
  | .receiveDiscard (.unfinished characters) => decide (characters ≠ [] ∧ characters.length < 53)
  | .receiveDiscard error => receiveErrorReal error
  | .peerStale station | .peerLost station => frameStation station
  | .queryUnknownKind kind _ => !kindNamed kind.toNat
  | .collision bit => decide (bit < 53 * Config.characterBits)
  | .directiveUnknownAction action _ => !actionNamed action.toNat
  | .powerOnReset | .resetPinAssert | .resetRelease _ | .carrierPeriodStart | .cutoffAssert | .cutoffRelease
  | .receiveGapExpiry | .lockstepRelease | .intervalBeat | .run .. | .hold _ | .unload _ | .stop _ | .resetTrip _
  | .baseline _ | .scale _ | .channel _ | .histLo _ | .histHi _ | .crack _ | .segment _ | .counters _ | .peer _
  | .transmitStart | .transmitComplete | .jamEnd | .backoffEnd | .lineStuck | .lineStuckRelease
  | .receiveAssemblerReady => true

end Sys2Proof
end

