-- ==== Sys2Proof/Tests/Slice0.lean ====
section
/-! SUPPORT. Tests of one command each, with the manual's own worked values where it gives them (the rule or section is named
beside each test), and the witnesses: for every statement with hypotheses, a state and operands that meet them together. -/

namespace Sys2Proof.Tests

open Sys2Proof.Machine

/- One test after another: the tests are evaluations by the kernel, which takes them one by one in any case. -/
set_option Elab.async false

/-! ## Worked values of the manual -/

/-- R6: the two worked reductions, and the saturation. -/
theorem test_reduction : reduceCode 3000 (-200) 18100 = 14140 ∧ reduceCode (-500) (-200) 18100 = -1325
    ∧ reduceCode 32767 (-32768) 32767 = 32767 := by decide

/-- R9: the two halves that round away from zero, the crest and the start. -/
theorem test_sine : waveOf .sine 40000 480000 = 16384 ∧ waveOf .sine 440000 480000 = -16384
    ∧ waveOf .sine 120000 480000 = 32767 ∧ waveOf .sine 0 480000 = 0 ∧ waveOf .sine 360000 480000 = -32767 := by decide +kernel

/-- R10: the table for Q = 500,000. -/
theorem test_triangle : waveOf .triangle 100000 500000 = 26213 ∧ waveOf .triangle 125000 500000 = 32767
    ∧ waveOf .triangle 300000 500000 = -13106 ∧ waveOf .triangle 450000 500000 = -13107 := by decide

/-- R34: the rising and the falling RAMP of the example. -/
theorem test_ramp : rampBase 500 12000 30000 20000 = 4812 ∧ rampBase 12000 500 1 30000 = 12000
    ∧ rampBase 12000 500 60000 30000 = 6250 := by decide

/-- R44 and the worked sequence of chapter 2: the step of a soft start, and its least value. -/
theorem test_soft_start : softStartStep 3 400000 = 853 ∧ softStartStep 255 10000000 = 1 := by decide

/-- R63: the times of the example, the half dropped. -/
theorem test_scan_times : [64, 128, 192].map (fun f => ScanPoint.time 500466 { fraction := some f, head := some 0 })
    = [some 125116, some 250233, some 375349] := by decide

/-- R74: the average of the example, and one of two negative samples, truncated toward zero. -/
theorem test_averages : Scanner.reset.average [1120, 1130, 1110, 1124] = 1121
    ∧ Scanner.reset.average [0xFFF9#16, 0xFFF8#16] = -7 := by decide

/-- R83: the strains of the example, one of them saturated and counted. -/
theorem test_strains :
    let c : ChannelConst := { ChannelConst.unused with enabled := true, zero := 120, cal := 2048 }
    strainOf c 1121 = 2002 ∧ strainOf c (-105) = -450 ∧ strainOf c 16600 = 32960 ∧ strainOf { c with cal := -3 } 500 = -1
      ∧ (Channel.cleared.credit 32960).lastStrain = 32767 ∧ (Channel.cleared.credit 32960).overRange = 1 := by decide

/-- R97: the broken counts of the example. -/
theorem test_broken :
    let c : SiteConst := { SiteConst.unused with strands := 8, rIntact := 1000, step := 400, rOpen := 5000 }
    brokenOf c 1150 = 0 ∧ brokenOf c 1520 = 1 ∧ brokenOf c 1930 = 2 ∧ brokenOf c 999 = 0 ∧ brokenOf c 4999 = 8 := by decide

/-- R145: the CRC of the nine ASCII digits. -/
theorem test_crc : crc [0x31, 0x32, 0x33, 0x34, 0x35, 0x36, 0x37, 0x38, 0x39] = 0x29B1#16 := by decide +kernel

/-- R144: a character's eleven bits, least significant data bit first, with odd parity. -/
theorem test_character : characterBits 0x01 = [false, true, false, false, false, false, false, false, false, false, true]
    ∧ characterBits 0x03 = [false, true, true, false, false, false, false, false, false, true, true] := by decide

/-- R151: the sixteen stations back off for sixteen different times at every attempt. -/
theorem test_backoff : ∀ a < 16, ((List.range 16).map fun k => backoffCharacters (k + 1) a).Nodup
    ∧ ∀ k < 16, 1 ≤ backoffCharacters (k + 1) a ∧ backoffCharacters (k + 1) a ≤ 16 := by decide +kernel

/-- R1: serial order of epochs, at both ends of the newer half. -/
theorem test_epochs : newerEpoch 1 0 = true ∧ newerEpoch 32767 0 = true ∧ newerEpoch 32768 0 = false ∧ newerEpoch 0 0 = false
    ∧ newerEpoch 3 65530 = true := by decide

/-- R39: a peer at the same barrier or past it lets a group advance, and one in the segment holds it. -/
theorem test_barrier : let e : Peer := { Peer.empty with state := .fresh, group := 1, mode := .run, segIndex := 2 }
    (Peer.passes 2 (some 3) e = false) ∧ (Peer.passes 2 (some 3) { e with segIndex := 3 } = true)
      ∧ (Peer.passes 2 (some 3) { e with flags := { BeatFlags.clear with barrierWait := true } } = true)
      ∧ (Peer.passes 2 none { e with flags := { BeatFlags.clear with complete := true } } = true) := by decide

/-- R102: strain evidence at the threshold and just under it, and none from an unsteady cycle. -/
theorem test_strain_evidence :
    let c : SiteConst := { SiteConst.unused with used := true, channel := some 0, threshold := 15 }
    let r : Site := { Site.cleared with refRange := some 1000 }
    let sig : Nat → Bool → RangesClosed := fun range steady => { ranges := [some range], steady := steady, total := 9 }
    r.strainEvidence c (sig 1150 true) = some true ∧ r.strainEvidence c (sig 1149 true) = some false
      ∧ r.strainEvidence c (sig 850 true) = some true ∧ r.strainEvidence c (sig 1150 false) = none := by decide

/-- R100: the sixteenth range of a capture gives the mean as the reference. -/
theorem test_capture :
    let c : SiteConst := { SiteConst.unused with used := true, channel := some 0 }
    let r : Site := { Site.cleared with captureSum := 15000, captureCount := 15 }
    (r.capture c { ranges := [some 1015], steady := true, total := 1 }).refRange = some 1000 := by decide

/-- R4: the 24 orders of a tick are all the orders of the four blocks. -/
theorem test_orders : ((List.range 24).map tickOrder).Nodup := by decide +kernel

/-! ## A node for the tests -/

/-- Constants that pass every check, with a programme of a RAMP, a DWELL, a CYCLE and a RAMP. -/
def sample : Settings :=
  { Settings.none with
    group := 1, programme := 0x0A31, defaultPeriod := 20000, staleMs := 100, lostMs := 300, loadMin := -500, loadMax := 20000,
    tripMin := -3000, tripMax := 25000, dispMin := -30000, dispMax := 30000, gainLoad := 4096, gainDisp := 4096, kp := 512,
    ki := 16, imax := 1000, umax := 2000, errLimit := 1500, errTicks := 3, holdRate := 512, descentRate := 256, band := 64,
    lockstepTimeout := 120, lockWindow := 500, policy2 := .hold, policy3 := .descent, lossPolicy := .hold, dropPolicy := .descent
    segments :=
      [{ body := .ramp 5000 10, groupAdvance := false, pause := false, link := some 1 },
       { body := .dwell 5, groupAdvance := false, pause := true, link := some 2 },
       { body := .cycle 5000 4000 25000 .sine 3 0, groupAdvance := true, pause := false, link := some 3 },
       { body := .ramp 1000 1, groupAdvance := false, pause := false, link := none }] ++ List.replicate 60 Segment.unused
    scans := [{ channel := 0, samples := 2, link := some 1 }, { channel := 1, samples := 1, link := none }]
      ++ List.replicate 46 { channel := 0, samples := 1, link := none }
    points := [{ fraction := some 0, head := some 0 }, { fraction := some 128, head := some 1 }]
      ++ List.replicate 6 { fraction := none, head := none }
    channels := { ChannelConst.unused with enabled := true, zero := 120, cal := 2048, binWidth := 250, endurance := 400, watchAt := 1 }
      :: List.replicate 31 ChannelConst.unused
    sites := { used := true, ladder := some 0, strands := 8, rIntact := 1000, step := 400, rOpen := 5000, channel := none,
               threshold := 15, runLength := 2, critical := 4 } :: List.replicate 11 SiteConst.unused }

/-- The node of station 5, started under `sample` on a quiet line, in mode `m` at segment `k`, started or not. -/
def node (m : Mode) (k : Nat) (started : Bool) : State :=
  { State.reset with
    settings := sample
    startUp := { loader := .ended, station := 5, fault := .none, tag := some (0x0A31, 0) }
    control := { Control.reset with mode := m, qAcc := if m = .run ∨ m = .hold then 4096000 else if m = .descent ∨ m = .ascent then 2048000 else 0
                                    alarm := decide (m = .tripped) }
    seq := { Sequencer.reset with state := .active, index := k, started := started, base := 5000, rampStart := 500, remaining := 3
                                  envelope := if m.engaged then 4096000 else 0 }
    clock := Clock.started sample.points 20000
    line := { LineUnit.reset with line := .active, assembler := .ready, seenEpoch := some 7, intervalUs := some 0 } }

/-- The entry of a peer of the node's group. -/
def peer (st : PeerState) (m : Mode) (q : Nat) : Peer :=
  { Peer.empty with state := st, group := 1, mode := m, q := q }

/-- A peer's entry at the age given in milliseconds. -/
def aged (ms : Nat) (e : Peer) : Peer := { e with ageUs := ms * 1000 }

/-- The node with an entry for station 3. -/
def withPeer (e : Peer) (s : State) : State := { s with peers := s.peers.setEntry 3 e }

/-- The node with the sequencer waiting in BARRIER. -/
def waiting (s : State) : State := { s with seq := { s.seq with state := .barrier } }

/-- A directive of console 17 to group 1 with the next epoch. -/
def order (entry : Byte) : Directive :=
  { source := 17, mask := 1, epoch := 8, entry := entry, programme := 0x0A31, scale := 9000, accept := 1 }

/-- A query of console 17 to the node. -/
def ask (index : Byte) : Query := { source := 17, target := 5, index := index }

/-- The state a command leaves; no command ends otherwise. -/
def after (i : Instr) (s : State) : State :=
  match exec i s with
  | .next t => t
  | .fault f => nomatch f
  | .refused _ => s

/-- A bench for the image: its constants at the offsets of section 12.2, with every record unused but segment 0. -/
def header : List Byte :=
  bytesOf 2 1986 ++ bytesOf 2 0x0A31 ++ [1, 1] ++ bytesOf 3 20000 ++ bytesOf 2 100 ++ bytesOf 2 300 ++ bytesOf 2 0
    ++ signedBytes (-500) ++ bytesOf 2 20000 ++ signedBytes (-3000) ++ bytesOf 2 25000 ++ signedBytes (-30000) ++ bytesOf 2 30000
    ++ bytesOf 2 0 ++ bytesOf 2 4096 ++ bytesOf 2 0 ++ bytesOf 2 4096 ++ bytesOf 2 512 ++ bytesOf 2 16 ++ bytesOf 2 1000
    ++ bytesOf 2 2000 ++ bytesOf 2 1500 ++ bytesOf 2 3 ++ [1, 2] ++ bytesOf 2 512 ++ bytesOf 2 256 ++ bytesOf 2 64 ++ bytesOf 2 120
    ++ bytesOf 2 500 ++ [0, 1, 2, 1, 2]

/-- The tables of the image: a RAMP of 10 ms at segment 0, a scan point 0 whose two bytes are `point`, seven scan points disabled, and
channels of bin width 1. -/
def tables (point : Byte) : List Byte :=
  [1, 0, 255] ++ bytesOf 2 5000 ++ bytesOf 2 10 ++ List.replicate 9 0 ++ List.replicate 1008 0
    ++ (List.replicate 2 [0, 1, 255, point]).flatten ++ (List.replicate 46 [0, 1, 255, 0xBF]).flatten
    ++ (List.replicate 32 (List.replicate 6 0 ++ [1] ++ List.replicate 9 0)).flatten ++ List.replicate 192 0

/-- A header with the tables and their check sum. -/
def image (point : Byte) (head : List Byte) : List Byte := head ++ tables point ++ bytesOf 2 (imageSum (head ++ tables point))

/-- A valid image, whose scan point 0 has the fraction 0 and the head 0. -/
def goodImage : List Byte := image 0 header

/-- A valid image with every scan point disabled. -/
def pointlessImage : List Byte := image 0xBF header

/-- The image with the group field 5, at 1000 kbit/s. -/
def groupImage : List Byte := image 0 ((header.set 4 5).set 5 3)

/-- The node after its release, reading the image. -/
def reading : State := after (.resetRelease 5) State.reset

/-! ## Ill-formed commands are refused (each check of `Instr.wellFormed`) -/

theorem test_image_length : Instr.wellFormed (.imageReadComplete [] 0) = false := by decide
theorem test_first_point : Instr.wellFormed (.imageReadComplete (List.replicate 1986 0) 8) = false := by decide +kernel
theorem test_order : Instr.wellFormed (.servoTick 24 0 0) = false ∧ Instr.wellFormed (.servoTick 23 0 0) = true := by decide
theorem test_first_site : Instr.wellFormed (.cycleMark true 12) = false := by decide
theorem test_point : Instr.wellFormed (.scanPointFire 8) = false := by decide
theorem test_record_codes : Instr.wellFormed (.recordComplete []) = false
    ∧ Instr.wellFormed (.recordComplete (List.replicate 9 0)) = false
    ∧ Instr.wellFormed (.recordComplete (List.replicate 8 0)) = true := by decide
theorem test_ladder_codes : Instr.wellFormed (.ladderReadComplete []) = false
    ∧ Instr.wellFormed (.ladderReadComplete [1, 2, 3, 4, 5]) = false
    ∧ Instr.wellFormed (.ladderReadComplete [1, 2, 3, 4]) = true := by decide
theorem test_beat_length : Instr.wellFormed (.beatArrival 3 [1]) = false := by decide
theorem test_reply_length : Instr.wellFormed (.replyReceived 3 (List.replicate 49 0)) = false := by decide
theorem test_error : Instr.wellFormed (.receiveDiscard (.tooLong 48)) = false
    ∧ Instr.wellFormed (.receiveDiscard (.tooLong 49)) = true := by decide
theorem test_error_unfinished : Instr.wellFormed (.receiveDiscard (.unfinished [])) = false
    ∧ Instr.wellFormed (.receiveDiscard (.unfinished (List.replicate 53 0))) = false
    ∧ Instr.wellFormed (.receiveDiscard (.unfinished (List.replicate 52 0))) = true := by decide
theorem test_error_message : Instr.wellFormed (.receiveDiscard (.rejected (framed 3 17 [5, 1, 0]))) = false
    ∧ Instr.wellFormed (.receiveDiscard (.rejected ((framed 3 17 [5, 1, 0]).set 4 9))) = true := by decide +kernel
theorem test_stale_station : Instr.wellFormed (.peerStale 0) = false ∧ Instr.wellFormed (.peerStale 17) = false := by decide
theorem test_lost_station : Instr.wellFormed (.peerLost 0) = false ∧ Instr.wellFormed (.peerLost 16) = true := by decide
theorem test_kind : Instr.wellFormed (.queryUnknownKind 7 (ask 0)) = false
    ∧ Instr.wellFormed (.queryUnknownKind 8 (ask 0)) = true := by decide
theorem test_bit : Instr.wellFormed (.collision 583) = false ∧ Instr.wellFormed (.collision 582) = true := by decide
theorem test_action : Instr.wellFormed (.directiveUnknownAction 1 (order 1)) = false
    ∧ Instr.wellFormed (.directiveUnknownAction 0 (order 1)) = true := by decide

/-! ## The table's words -/

/-- No row of the table gives bits, and a word changes nothing (assumption 1). -/
theorem test_no_words : decodeTableWord 8 0 = none ∧ (State.reset.withFetchWord 8 0) = State.reset := ⟨rfl, rfl⟩

/-! ## Start-up -/

/-- R164: straps 0 and 17 are no frame station, 1 and 16 are. -/
theorem test_straps : ([0#5, 1, 16, 17].map fun k => (after (.resetRelease k) State.reset).startUp.loader)
    = [.badStation, .reading 0, .reading 0, .badStation] := by decide +kernel

/-- R163: a reset-pin reset keeps the total, and a power-on reset does not. -/
theorem test_resets : let s := { node .run 2 true with recorder := { Recorder.cleared with total := 77 } }
    (after .resetPinAssert s).recorder.total = 77 ∧ (after .powerOnReset s).recorder.total = 0 := by decide +kernel

/-! ## The valve -/

/-- R12 to R19: at P = 2e and no integral, the duty of an error of 100. -/
theorem test_duty : (after (.servoTick 0 4900 0) { node .run 1 true with settings := { sample with ki := 0 } }).servo.buffer
    = .drive 2248 := by decide +kernel

/-- R25: a load beyond trip_max in DESCENT. -/
theorem test_overload : (after (.servoTick 0 25001 0) (node .descent 1 true)).control.trip = .overload := by decide +kernel

/-- R130: the last tick of a DESCENT and of an ASCENT. -/
theorem test_ends : let at_ : Mode → Nat → State := fun m acc => { node m 1 true with control := { (node m 1 true).control with qAcc := acc } }
    (after (.servoTick 0 0 0) (at_ .descent 4000)).control.mode = .parked
      ∧ (after (.servoTick 0 0 0) (at_ .descent 4256)).control.mode = .descent
      ∧ (after (.servoTick 0 5000 0) (at_ .ascent 4095744)).control.mode = .run
      ∧ (after (.servoTick 0 5000 0) (at_ .ascent 4095743)).control.mode = .ascent := by decide +kernel

/-- R20, R22: a carrier period takes the duty and asserts the enable. -/
theorem test_carrier : let s := { node .run 1 true with servo := { Servo.reset false with buffer := .drive 2048 } }
    (after .carrierPeriodStart s).servo.enable = true ∧ (after .carrierPeriodStart s).servo.output = .drive 2048 := by decide +kernel

/-- R24: a CUTOFF trip from STANDBY, none from TRIPPED, and none at a release. -/
theorem test_cutoff : (after .cutoffAssert (node .standby 0 false)).control.trip = .cutoff
    ∧ (after .cutoffAssert (node .tripped 0 false)).control.trip = .none
    ∧ (after .cutoffRelease (after .cutoffAssert (node .run 0 true))).control.mode = .tripped := by decide +kernel

/-! ## Marks, ranges and sites -/

/-- R89, R37: a mark counts the cycle, and the ending one off the CYCLE. -/
theorem test_mark : let s := { node .run 2 true with seq := { (node .run 2 true).seq with clean := true } }
    (after (.cycleMark true 0) s).recorder.total = 1 ∧ (after (.cycleMark true 0) s).seq.remaining = 2
      ∧ (after (.cycleMark true 0) s).clock.nominal = 25000 := by decide +kernel

/-- R85, R86: a range of 1000 in bins of 250, at or above the endurance limit: (1000 / 8)^3. -/
theorem test_close : let r := Channel.close (sample.channels.getD 0 ChannelConst.unused) { Channel.cleared with cycleMax := 600, cycleMin := -400, samples := 9 }
    r.lastRange = 1000 ∧ r.bins.getD 4 0 = 1 ∧ r.damage = 1953125 ∧ r.watch = true := by decide

/-- R105, R107: two evaluations above the baseline confirm site 0, as CRITICAL at four broken strands. -/
theorem test_confirm :
    let c := sample.sites.getD 0 SiteConst.unused
    let r : Site := { Site.cleared with baseline := some 0, reading := some 2600, stamp := 9 }
    let sig : RangesClosed := { ranges := [], steady := false, total := 10 }
    (r.evaluate c sig).1.state = .suspect ∧ ((r.evaluate c sig).1.evaluate c sig).1.state = .critical := by decide

/-- R64, R71: a scan point's chain goes into service on an idle converter, and its record's average reaches the channel. -/
theorem test_scan : let s := after (.scanPointFire 0) (node .run 2 true)
    s.scanner.converter = .chain 0 0 0 0 false
      ∧ ((after (.recordComplete [1121, 1121]) s).recorder.channels.getD 0 Channel.cleared).lastStrain = 2002 := by decide +kernel

/-- R77, R96: a ladder read reaches its site with the total as its stamp. -/
theorem test_ladder : let s := { node .run 2 true with scanner := { Scanner.reset with converter := .ladder 0 0 25 } }
    ((after (.ladderReadComplete [1500, 1520, 1520, 1540]) s).cracks.sites.getD 0 Site.cleared).reading = some 1520 := by decide +kernel

/-- R65, R74: the record of the example, its first two samples alone and then the others; and the first sample of a ladder read. -/
theorem test_samples :
    let s := { node .run 2 true with
      settings := { sample with scans := sample.scans.set 0 { channel := 0, samples := 4, link := none } }
      scanner := { Scanner.reset with converter := .chain 0 0 0 25 false } }
    let half := after (.recordComplete [1120, 1130]) s
    half.scanner.converter = .chain 0 0 2 0 false ∧ half.scanner.accumulator = 2250 ∧ half.recorder = s.recorder
      ∧ (after (.recordComplete [1110, 1124]) half).recorder = (after (.recordComplete [1120, 1130, 1110, 1124]) s).recorder
      ∧ ((after (.recordComplete [1110, 1124]) half).recorder.channels.getD 0 Channel.cleared).lastStrain = 2002
      ∧ (let z := (after (.ladderReadComplete [0xFFFF]) { s with scanner := { Scanner.reset with converter := .ladder 0 0 25 } }).scanner
         z.converter = .ladder 0 1 0 ∧ z.accumulator = -1) := by decide +kernel

/-! ## Peers, directives and queries -/

/-- A BEAT's body: group 1, the mode, level and cause given, at the node's nominal period. -/
def beat (mode level cause : Byte) : List Byte :=
  [1, mode, level, 0, cause, 1] ++ bytesOf 3 5 ++ bytesOf 4 7 ++ bytesOf 2 1024 ++ bytesOf 3 20000 ++ List.replicate 13 0

/-- R120: a peer that goes from RUN to TRIPPED is a drop, and takes the node from RUN to DESCENT. -/
theorem test_drop : (after (.beatArrival 3 (beat 7 0 0x20)) (withPeer (peer .fresh .run 1024) (node .run 2 true))).control.mode
    = .descent := by decide +kernel

/-- R119: a lost peer in RUN takes the node from RUN to HOLD. R116: an arrival of the same instant has restarted the age, and the
expiry does not happen. -/
theorem test_loss : (after (.peerLost 3) (withPeer (aged 300 (peer .stale .run 1024)) (node .run 2 true))).control.mode = .hold
    ∧ (after (.peerStale 3) (withPeer (peer .fresh .run 1024) (node .run 2 true))).peers.entry 3 = peer .fresh .run 1024 := by
  decide +kernel

/-- R59: a beat sent 40 µs after the peer's mark and taken at phase 1700 with no deferral: 1700 less 36 × 11 × 4. -/
theorem test_offset : let s := { node .run 1 true with clock := { (node .run 1 true).clock with phase := 1700 } }
    ((after (.beatArrival 3 (beat 3 0 0x10)) s).peers.entry 3).offset = 116 := by decide +kernel

/-- R133 to R136: HOLD, UNLOAD, RUN, STOP and RESET_TRIP from the modes that take them. -/
theorem test_directives : (after (.hold (order 0)) (node .run 2 true)).control.mode = .hold
    ∧ (after (.unload (order 0)) (node .hold 2 true)).control.mode = .descent
    ∧ (after (.run (order 1) true) (node .parked 2 true)).control.mode = .ascent
    ∧ (after (.stop (order 0)) (node .parked 2 true)).control.mode = .standby
    ∧ (after (.resetTrip (order 0)) (node .tripped 2 true)).control.mode = .standby := by decide +kernel

/-- R132, R160: a refused directive is counted and its outcome held. -/
theorem test_refusal : let t := after (.stop (order 0)) (node .run 2 true)
    t.line.outcome = .refusedMode ∧ t.control.refusals = 1 ∧ t.control.mode = .run := by decide +kernel

/-- R161, R170: a query of an unknown kind echoes it with the valid flag clear. -/
theorem test_unknown_kind : (after (.queryUnknownKind 9 (ask 2)) (node .run 2 true)).line.replySlot.map Reply.body = some [9, 2, 0] := by
  decide +kernel

/-- R162: the lengths of the replies of section 12.1, with the three bytes before the content. -/
theorem test_reply_lengths :
    ([.channel (ask 0), .histLo (ask 31), .histHi (ask 0), .crack (ask 11), .segment (ask 99), .counters (ask 0), .peer (ask 16)].map
      fun i => (after i (node .run 2 true)).line.replySlot.map fun r => r.body.length)
      = [some 26, some 35, some 35, some 25, some 12, some 31, some 29] := by decide +kernel

/-! ## The line -/

/-- R150, R151: a waiting REPLY is sent, collides at a released bit, and backs off. -/
theorem test_line : let s := after .transmitStart (after (.channel (ask 0)) (node .run 2 true))
    let jam := after (.collision 10) s
    (after (.collision 0) s).line.transmitter = s.line.transmitter ∧ jam.line.transmitter = .jam 44
      ∧ (after .jamEnd jam).line.transmitter = .backoff (13 * 44) := by decide +kernel

/-- R146, R147: the characters of a message in progress stay with the assembler; the gap discards them, and with none it does
nothing; the message that they begin ends with its arrival, and one of another beginning does not come. -/
theorem test_unfinished : let s := after (.receiveDiscard (.unfinished [3, 17])) (node .run 2 true)
    s.line.assembler = .taking [3, 17] ∧ (after .receiveGapExpiry s).line.lineErrors = 1
      ∧ (after .receiveGapExpiry (node .run 2 true)).line.lineErrors = 0
      ∧ (after (.crack (ask 0)) s).line.assembler = .ready ∧ (after (.crack (ask 0)) s).line.replySlot.isSome = true
      ∧ after (.crack { ask 0 with source := 18 }) s = s := by decide +kernel

/-- Section 12.1: the message 02 11 0A, the ten bytes of a DIRECTIVE's body and their CRC, and one of a QUERY. -/
theorem test_messages : let d := headed 2 17 [0x03, 0x01, 0x02, 7, 0, 0x0A, 0x31, 0x27, 0x10, 1]
    let q := headed 3 30 [5, 4, 11]
    arrivalCommand (d ++ bytesOf 2 (crc d).toNat) true = .scale
        { source := 17, mask := 3, epoch := 0x0102, entry := 0, programme := 0x0A31, scale := 10000, accept := 1 }
      ∧ arrivalCommand (q ++ bytesOf 2 (crc q).toNat) true = .crack { source := 30, target := 5, index := 11 } := by decide +kernel

/-- R165: the clock of the image read is low, then high, in each half microsecond; the command's 03 ends the first byte. -/
theorem test_spi : let at_ : Nat → State := fun us => { reading with startUp := { reading.startUp with loader := .reading us } }
    ((List.range 4).map fun k => (at_ 0).spiClock k) = [false, true, false, true]
      ∧ ((List.range 4).flatMap fun us => [(at_ us).spiSent 0, (at_ us).spiSent 2])
          = [false, false, false, false, false, false, true, true].map some
      ∧ (at_ 15).spiSent 2 = some false ∧ (at_ 16).spiSent 0 = none ∧ (at_ 7959).spiClock 3 = true ∧ (at_ 7960).spiClock 3 = false := by
  decide +kernel

/-- R156, R157: the MARK beat shows the total after the mark and the new cycle's period; a PROMPT beat of a trip, its code and mode. -/
theorem test_beats_show : ((after (.cycleMark true 0) (node .run 2 true)).line.beatSlot.map fun b => (b.cause, b.total, b.period, b.segIndex))
      = some (.mark, 1, 25000, 2)
    ∧ ((after .cutoffAssert (node .run 2 true)).line.beatSlot.map fun b => (b.cause, b.mode, b.faultCode)) = some (.prompt, .tripped, 1) := by
  decide +kernel

/-! ## Witnesses

Each theorem below shows a state and operands that meet the hypotheses of the statement it is named after, clause by clause at
the boundary values of the clause's range. -/

/-- The node as it reads an image, with the tag, the cutoff level and the recorder given. -/
def awaiting (tag : Option (Half × Half)) (cutoff : Bool) : State :=
  { reading with startUp := { reading.startUp with tag := tag }, servo := Servo.reset cutoff }

/-- The node with the segment at its position replaced. -/
def withSegment (g : Segment) (s : State) : State :=
  { s with settings := { s.settings with segments := s.settings.segments.set s.seq.index g } }

/-- A CYCLE record of 25,000 µs with the advance, the pause and the link given. -/
def cycleSegment (advance pause : Bool) (link : Option Nat) : Segment :=
  { body := .cycle 5000 4000 25000 .sine 3 0, groupAdvance := advance, pause := pause, link := link }

/-- A RAMP record of 10 ms with the advance, the pause and the link given. -/
def rampSegment (advance pause : Bool) (link : Option Nat) : Segment :=
  { body := .ramp 5000 10, groupAdvance := advance, pause := pause, link := link }

/-- The node with the record of site 0 and the total given. -/
def withSite (r : Site) (total : Nat) (s : State) : State :=
  { s with cracks := { s.cracks with sites := s.cracks.sites.set 0 r }, recorder := { s.recorder with total := total } }

/-- A site's record with a reading of stamp 1 and a baseline of 0. -/
def read (st : SiteState) (x : Int) (evidence : Nat) : Site :=
  { Site.cleared with state := st, reading := some x, stamp := 1, baseline := some 0, evidence := evidence }

/-- The node with site 0 at its gauge too, on channel 0, whose open cycle has the range given; steady or not. -/
def gauged (r : Site) (range : Int) (steady : Bool) : State :=
  let t := withSite r 4 (node .run 2 true)
  { t with settings := { t.settings with sites := t.settings.sites.set 0 { siteConst sample 0 with channel := some 0 } }
           recorder := { t.recorder with
             steady := steady, channels := t.recorder.channels.set 0 { Channel.cleared with samples := 1, cycleMax := range } } }

theorem node_adopts (entry : Byte) (m : Mode) (k : Nat) (st : Bool) : (node m k st).Adopts (order entry) :=
  ⟨.inl rfl, rfl, (by decide : 17 ≤ (17#8).toNat), (by decide : (17#8).toNat ≤ 30), (by decide : (1#8).toNat % 16 / 2 ^ 0 % 2 = 1), 7, rfl,
    (by decide : 1 ≤ (8#16 - 7#16).toNat), (by decide : (8#16 - 7#16).toNat ≤ 32767)⟩

theorem node_answers (index : Byte) (m : Mode) (k : Nat) (st : Bool) : (node m k st).Answers (ask index) :=
  ⟨rfl, rfl, (by decide : 17 ≤ (17#8).toNat), (by decide : (17#8).toNat ≤ 30), rfl⟩

theorem node_sized (m : Mode) (k : Nat) (st : Bool) : (node m k st).Sized :=
  ⟨rfl, rfl, rfl, rfl, rfl, by simp [node, State.reset, Recorder.cleared, Channel.cleared], rfl, rfl, rfl, rfl, rfl, rfl, rfl⟩

theorem awaiting_awaits (tag : Option (Half × Half)) (cutoff : Bool) : (awaiting tag cutoff).AwaitsImage :=
  ⟨rfl, rfl, rfl, rfl, rfl, rfl, rfl, rfl, rfl, rfl, rfl, rfl, rfl⟩

theorem witness_StepRunsTheFrontCommand :
    ({ node .run 2 true with pending := [.carrierPeriodStart, .cutoffAssert] } : State).pending = .carrierPeriodStart :: [.cutoffAssert] := rfl

/-- The last microsecond but one and the last of a cycle; a scan point's; and the last of the release timer, of each timed state of
the transmitter, of the INTERVAL timer and of the two expiries. -/
theorem witness_AnEmptyQueueLetsAMicrosecondPass : let s := { node .ascent 1 true with
      control := { (node .ascent 1 true).control with release := some 1 }
      clock := { (node .ascent 1 true).clock with phase := 19999 }
      line := { (node .ascent 1 true).line with transmitter := .sending [4] 1, intervalUs := some 999999 } }
    let stale := withPeer { peer .fresh .run 1024 with ageUs := 99999 } s
    let lost := withPeer { peer .stale .run 1024 with ageUs := 299999 } s
    s.pending = [] ∧ s.running = true ∧ s.clock.applied ≤ s.clock.phase + 1 ∧ s.clock.times[0]? = some (some 0)
      ∧ s.control.release = some 1 ∧ s.line.line = .active ∧ s.line.transmitter = .sending [4] 1 ∧ s.line.intervalUs = some 999999
      ∧ ({ s.line with transmitter := .jam 1 } : LineUnit).transmitter = .jam 1
      ∧ ({ s.line with transmitter := .backoff 1 } : LineUnit).transmitter = .backoff 1
      ∧ (stale.peers.entries[2]?.map Peer.state) = some .fresh
      ∧ (stale.peers.entries[2]?.map fun e => min 65535000 (e.ageUs + 1)) = some (s.settings.staleMs * 1000)
      ∧ (lost.peers.entries[2]?.map Peer.state) = some .stale
      ∧ (lost.peers.entries[2]?.map fun e => min 65535000 (e.ageUs + 1)) = some (s.settings.lostMs * 1000)
      ∧ (node .run 1 true).pending = [] ∧ (let c := { (node .run 1 true).clock with phase := 9999 }
          c.phase + 1 < c.applied ∧ c.times[1]? = some (some (c.phase + 1))) := by decide +kernel

theorem witness_ReleaseReadsTheStrapsOnce : State.reset.startUp.loader = .inReset ∧ 1 ≤ (1#5).toNat ∧ (16#5).toNat ≤ 16
    ∧ (0#5).toNat = 0 ∧ 17 ≤ (17#5).toNat := by decide

/-- In the read, at its first and its last microsecond and at the two ends of what is sent; and outside it. -/
theorem witness_ReleaseReadsTheStrapsOnce_read :
    (∀ us ∈ [0, 15, 16, 7959], let s : State := { State.reset with startUp := { State.reset.startUp with loader := .reading us } }
      s.startUp.loader = .reading us ∧ us < 7960 ∧ 3 < 4)
    ∧ ∀ l ∈ [Loader.reading 7960, .inReset, .badStation, .ended], ∀ us < 7960, l ≠ .reading us := by
  refine ⟨by decide, fun l hl us h e => ?_⟩
  simp only [List.mem_cons, List.not_mem_nil, or_false] at hl
  obtain rfl | rfl | rfl | rfl := hl <;> cases e
  exact absurd h (by decide)

theorem witness_ATickAtRestSamplesAlone : (node .standby 0 false).control.mode = .standby ∧ (node .standby 0 false).line.prompt = false
    ∧ (node .tripped 0 false).control.mode = .tripped ∧ (node .tripped 0 false).line.prompt = false
    ∧ State.reset.control.mode = .start ∧ State.reset.line.prompt = false
    ∧ (node .cfgFault 0 false).control.mode = .cfgFault ∧ (node .cfgFault 0 false).line.prompt = false := by decide +kernel

/-- A load at the command, at trip_min and at trip_max; a started CYCLE, a DWELL and a position not started. -/
theorem witness_AnEngagedTickDrivesTheValve :
    let s := node .run 1 true
    let c := node .run 2 true
    c.seq.state = .active ∧ c.seq.started = true ∧ c.segment.body = .cycle 5000 4000 25000 .sine 3 0 ∧ s.segment.isCycle = false
      ∧ (node .run 2 false).seq.started = false ∧
    let load : Half → Int := fun raw => reduceCode raw.toInt s.settings.zeroLoad s.settings.gainLoad
    let disp : Half → Int := fun raw => reduceCode raw.toInt s.settings.zeroDisp s.settings.gainDisp
    s.control.mode.engaged = true ∧ s.servo.cutoff = false ∧ s.settings.loadMin ≤ s.settings.loadMax ∧ s.commandClamped = 5000
      ∧ s.servo.tracking + 1 < max 1 s.settings.errTicks ∧ load 5000 = 5000 ∧ load 0xF448 = s.settings.tripMin
      ∧ load 25000 = s.settings.tripMax ∧ s.settings.tripMin ≤ load 5000 ∧ load 5000 ≤ s.settings.tripMax
      ∧ s.settings.dispMin ≤ disp 0 ∧ disp 30000 = s.settings.dispMax := by
  decide +kernel

/-- One code beyond trip_max and below trip_min, one beyond disp_max, and the third tick of an error over err_limit. -/
theorem witness_AFailedCheckTripsTheFrame :
    let s := { node .run 1 true with servo := { Servo.reset false with tracking := 2 } }
    let load : Half → Int := fun raw => reduceCode raw.toInt s.settings.zeroLoad s.settings.gainLoad
    let disp : Half → Int := fun raw => reduceCode raw.toInt s.settings.zeroDisp s.settings.gainDisp
    s.control.mode.engaged = true ∧ s.settings.loadMin ≤ s.settings.loadMax ∧ s.commandClamped = 5000
      ∧ s.settings.tripMax < load 25001 ∧ load (0xF447#16) < s.settings.tripMin
      ∧ s.settings.tripMin ≤ load 0 ∧ load 0 ≤ s.settings.tripMax ∧ s.settings.dispMax < disp 30001
      ∧ s.settings.dispMin ≤ disp 0 ∧ disp 0 ≤ s.settings.dispMax
      ∧ max 1 s.settings.errTicks ≤ (if s.settings.errLimit < (5000 - load 0).natAbs then s.servo.tracking + 1 else 0) := by
  decide +kernel

theorem witness_EveryTickKeepsTheServoLaws : let s := node .run 2 true
    s.settings.loadMin ≤ s.settings.loadMax ∧ s.settings.umax ≤ 2047
      ∧ exec (.servoTick 0 5000 0) s = .next (after (.servoTick 0 5000 0) s) := ⟨by decide, by decide, rfl⟩

/-- With the lockstep set empty and not, released and not; with q 32 below the q last reported, and 31 below. -/
theorem witness_TicksMoveTheDescentFraction : (node .descent 1 true).servo.cutoff = false
    ∧ (node .descent 1 true).peers.offers 1 = [] ∧ (withPeer (peer .fresh .descent 500) (node .descent 1 true)).peers.offers 1 = [500]
    ∧ (node .ascent 1 true).control.mode = .ascent ∧ (node .hold 1 true).control.mode = .hold
    ∧ ∀ last ∈ [543, 542, 480], let s := node .descent 1 true
      let t := { s with line := { s.line with lastQ := last } }
      t.line.prompt = false ∧ t.line.line = .active ∧ (after (.servoTick 0 2500 0) t).control.qAcc / 4000 = 511 := by decide +kernel

/-- A tick that ends a DESCENT and one that ends an ASCENT, and a tick of HOLD and of RUN that keeps the mode. -/
theorem witness_TicksMoveTheDescentFraction_change :
    let at_ : Mode → Nat → State := fun m acc => { node m 1 true with control := { (node m 1 true).control with qAcc := acc } }
    (after (.servoTick 0 500 0) (at_ .descent 4000)).control.mode = .parked
      ∧ (after (.servoTick 0 4997 0) (at_ .ascent 4095900)).control.mode = .run
      ∧ (after (.servoTick 0 5000 0) (node .hold 1 true)).control.mode = .hold
      ∧ (after (.servoTick 0 5000 0) (node .run 1 true)).control.mode = .run ∧ (node .run 1 true).line.prompt = false := by decide +kernel

/-- `State.AsksForHold` as a test. -/
def asks (s : State) : Bool :=
  decide (s.seq.state = .active)
    && (match s.segment.body with | .ramp _ ms | .dwell ms => decide (s.seq.elapsed + 1 = 4 * ms) | _ => false)
    && (!s.segment.groupAdvance || s.barrierMet) && (s.segment.link.isNone || s.segment.pause)

theorem asks_iff (s : State) : s.AsksForHold ↔ asks s = true := by
  unfold State.AsksForHold asks
  cases s.segment.body <;> simp [and_assoc]

/-- The last tick but one and the last of a RAMP and of a DWELL, where its end asks for HOLD, at a pause, at END and at a barrier that
lets it through, and where it does not: in RUN, and in the ASCENT that the tick takes to RUN, which the sequencer takes after the mode
controller in the order 0 and before it in the order 2. -/
theorem witness_TicksMoveTheDescentFraction_hold :
    let at_ : Mode → Nat → State := fun m n => { node m 0 true with
      control := { (node m 0 true).control with qAcc := 4095744 }, seq := { (node m 0 true).seq with elapsed := n } }
    controlFirst 0 ∧ ¬ controlFirst 2
      ∧ (∀ g ∈ [rampSegment false true (some 1), rampSegment false false none, rampSegment true true (some 1),
          { rampSegment false false none with body := .dwell 10 }],
        ∀ m ∈ [Mode.run, .ascent], (withSegment g (at_ m 39)).AsksForHold ∧ ¬ (withSegment g (at_ m 38)).AsksForHold
          ∧ (at_ m 39).seq.started = true)
      ∧ ¬ (withSegment (rampSegment false false (some 1)) (at_ .run 39)).AsksForHold
      ∧ ¬ (withSegment (rampSegment true true (some 1)) (withPeer { peer .fresh .run 1024 with segIndex := 0 } (at_ .run 39))).AsksForHold
      ∧ (let s := withSegment (rampSegment false false none) (at_ .ascent 39)
         (after (.servoTick 0 4999 0) s).control.mode = .hold ∧ (after (.servoTick 2 4999 0) s).control.mode = .run)
      ∧ ({ (at_ .ascent 39).seq with started := false } : Sequencer).started = false := by
  unfold controlFirst
  simp only [asks_iff]
  decide +kernel

/-- A peer that holds the node's descent, and one that holds its ascent; neither tick trips. -/
theorem witness_TicksKeepTheLockstepBound : ∀ m ∈ [Mode.descent, .ascent], let e := peer .fresh m 512
    let s := withPeer e (node m 1 true)
    s.servo.cutoff = false ∧ s.control.qAcc ≤ 4096000 ∧ e ∈ s.peers.entries ∧ (e.state = .fresh ∨ e.state = .stale)
      ∧ e.group = s.settings.group ∧ s.settings.group ≠ 0 ∧ e.mode.engaged = true
      ∧ (after (.servoTick 0 2500 0) s).control.mode ≠ .tripped ∧ s.control.released = false := by decide +kernel

/-- A soft start that ends in the tick, one that goes on, and none; the other modes; and a RUN at a started CYCLE, with h full before
the tick, coming to be full in it and not. -/
theorem witness_TicksStepTheEnvelope : (node .run 1 true).servo.cutoff = false ∧ (node .hold 1 true).control.mode = .hold
    ∧ ((node .run 1 true).seq.softStep = none)
    ∧ ({ node .run 1 true with seq := { (node .run 1 true).seq with softStep := some 853, envelope := 4095147 } } : State).seq.softStep = some 853
    ∧ 4096000 ≤ 4095147 + 853
    ∧ (∀ h ∈ [4096000, 4095488, 4095487], let s := { node .run 2 true with seq := { (node .run 2 true).seq with envelope := h, clean := true } }
        s.servo.cutoff = false ∧ s.control.mode = .run ∧ 4096000 ≤ s.control.qAcc ∧ s.seq.state = .active ∧ s.seq.started = true
          ∧ s.segment.isCycle = true ∧ (after (.servoTick 0 5000 0) s).control.mode = .run
          ∧ ((after (.servoTick 0 5000 0) s).seq.clean = true ↔ 4095488 ≤ h))
    ∧ (node .run 1 true).segment.isCycle = false := by decide +kernel

/-- A soft start below full that a tick of RUN leaves going on, and one that a tick ends which pauses the programme; and one in each mode
that steps no envelope up. -/
theorem witness_TicksStepTheEnvelope_soft :
    let at_ : Segment → Nat → State := fun g n => withSegment g { node .run 0 true with
      seq := { (node .run 0 true).seq with softStep := some 853, envelope := n, elapsed := 39 } }
    (∀ n ∈ [4095146, 0], n + 853 < 4096000 ∧ (at_ (rampSegment false true (some 1)) n).seq.softStep = some 853
        ∧ (after (.servoTick 0 5000 0) (at_ (rampSegment false true (some 1)) n)).control.mode = .hold
        ∧ (after (.servoTick 0 5000 0) (at_ (rampSegment false false (some 1)) n)).control.mode = .run)
      ∧ ∀ m ∈ [Mode.hold, .descent, .parked], (node m 1 true).servo.cutoff = false ∧ (node m 1 true).control.mode = m
        ∧ (after (.servoTick 0 5000 0) (node m 1 true)).control.mode ≠ .tripped := by decide +kernel

/-- The first tick of a RAMP and a DWELL, and the last but one of each; and a tick in ASCENT that stays there. -/
theorem witness_RampsAndDwellsTakeTheirTime : let r := node .run 0 true
    let d := node .run 1 true
    r.servo.cutoff = false ∧ r.seq.state = .active ∧ r.seq.started = true ∧ r.segment.body = .ramp 5000 10 ∧ r.seq.elapsed + 1 < 4 * 10
      ∧ 38 + 1 < 4 * 10 ∧ d.segment.body = .dwell 5 ∧ d.seq.elapsed + 1 < 4 * 5 ∧ 18 + 1 < 4 * 5
      ∧ (node .hold 0 true).control.mode = .hold ∧ (node .ascent 0 true).control.mode = .ascent
      ∧ (node .ascent 0 true).seq.state = .active ∧ (after (.servoTick 0 2500 0) (node .ascent 0 true)).control.mode = .ascent := by
  decide +kernel

/-- In RUN, a position not started, a started CYCLE, and each sequencer state that is not ACTIVE; and each other mode. -/
theorem witness_RampsAndDwellsTakeTheirTime_stands :
    (∀ k ∈ [0, 1, 2], (node .run k false).control.mode = .run ∧ (node .run k false).seq.started = false)
    ∧ (node .run 2 true).segment.body = .cycle 5000 4000 25000 .sine 3 0
    ∧ (∀ q ∈ [SeqState.idle, .preCycle, .barrier, .complete], ({ (node .run 2 true).seq with state := q } : Sequencer).state ≠ .active)
    ∧ ∀ m ∈ [Mode.hold, .descent, .parked, .standby, .tripped], (node m 1 true).control.mode = m ∧ m ≠ .run ∧ m ≠ .ascent := by decide +kernel

/-- The tick that takes ASCENT to RUN, at a position of each kind, started and not, in both orders of the mode controller and the sequencer:
where the mode controller takes the tick first, a RAMP and a DWELL take a tick of their time. -/
theorem witness_RampsAndDwellsTakeTheirTime_entry : ∀ k ∈ [0, 1, 2], ∀ started ∈ [false, true], ∀ order ∈ [0, 2],
    let s := { node .ascent k started with control := { (node .ascent k started).control with qAcc := 4095744 } }
    let t := after (.servoTick order 4999 0) s
    s.servo.cutoff = false ∧ s.control.mode = .ascent ∧ t.control.mode = .run
      ∧ (s.entered.started = true ↔ k ≠ 2 ∨ started = true) ∧ (s.entered.state = .preCycle ↔ k = 2 ∧ started = false)
      ∧ (t.seq.elapsed = 1 ↔ k ≠ 2 ∧ order = 0) := by decide +kernel

/-- The last tick of a RAMP: at a barrier, at END, at a pause, and on to a RAMP, a DWELL and a CYCLE; and the last of a DWELL. -/
theorem witness_TheEndOfARampPassesOn : let s := { node .run 0 true with seq := { (node .run 0 true).seq with elapsed := 39 } }
    (∀ g ∈ [rampSegment true false (some 1), rampSegment false false none, rampSegment false true (some 1), rampSegment false false (some 3),
        rampSegment false false (some 1), rampSegment false false (some 2)],
      let t := withSegment g s
      t.servo.cutoff = false ∧ t.control.mode = .run ∧ t.seq.state = .active ∧ t.seq.started = true ∧ t.segment.body = .ramp 5000 10
        ∧ t.seq.elapsed + 1 = 4 * 10)
      ∧ (let d := { node .run 1 true with seq := { (node .run 1 true).seq with elapsed := 19 } }
         d.servo.cutoff = false ∧ d.control.mode = .run ∧ d.seq.state = .active ∧ d.seq.started = true ∧ d.segment.body = .dwell 5
          ∧ d.seq.elapsed + 1 = 4 * 5)
      ∧ (withSegment (rampSegment true false (some 1)) (withPeer { peer .fresh .run 1024 with segIndex := 0 } s)).barrierMet = false := by
  decide +kernel

/-- The tick that ends a RAMP, the load servo first: with a pause, at END, and with a load that trips; and one that passes on in RUN. -/
theorem witness_TheEndOfARampPassesOn_beat :
    let s := { node .run 0 true with seq := { (node .run 0 true).seq with elapsed := 39 } }
    let t := withSegment (rampSegment false true (some 1)) s
    (after (.servoTick 0 5000 0) t).control.mode = .hold ∧ (after (.servoTick 4 5000 0) t).control.mode = .hold
      ∧ (after (.servoTick 0 5000 0) (withSegment (rampSegment false false none) s)).control.mode = .hold
      ∧ (after (.servoTick 0 25001 0) t).control.mode = .tripped
      ∧ (after (.servoTick 0 5000 0) (withSegment (rampSegment false false (some 1)) s)).control.mode = .run
      ∧ s.line.prompt = false := by decide +kernel

/-- The last tick of a RAMP in the ASCENT that the same tick takes to RUN, the mode controller first: at END and with a link to pass on
to; and one in an ASCENT that goes on. -/
theorem witness_TheEndOfARampPassesOn_ascent :
    let at_ : Nat → Option Nat → State := fun acc link => withSegment (rampSegment false false link) { node .ascent 0 true with
      control := { (node .ascent 0 true).control with qAcc := acc }, seq := { (node .ascent 0 true).seq with elapsed := 39 } }
    controlFirst 0 ∧ (at_ 4095744 none).control.mode = .ascent ∧ (at_ 4095744 none).servo.cutoff = false
      ∧ (after (.servoTick 0 4999 0) (at_ 4095744 none)).control.mode = .hold
      ∧ (after (.servoTick 0 4999 0) (at_ 4095744 (some 1))).control.mode = .run
      ∧ (after (.servoTick 0 4999 0) (at_ 4095743 none)).control.mode = .ascent := by
  unfold controlFirst
  decide +kernel

/-- The quarters of the cycle, and the phases on both sides of the triangle's two turns. -/
theorem witness_SineFollowsTheSineFunction : (∀ k ∈ [1, 5, 7, 11], 12 * (k * 40000) = k * 480000) ∧ 1 ≤ 1 ∧ 0 < 1 ∧ 5000 < 20000 ∧ 4 * 5000 = 20000 ∧ 2 * 10000 = 20000 ∧ 4 * 15000 = 3 * 20000
    ∧ 4999 < 20000 / 4 ∧ 20000 / 4 ≤ 5000 ∧ 14999 < 3 * 20000 / 4 ∧ 3 * 20000 / 4 ≤ 15000 := by decide

/-- A duty buffered and none; and each kind of mode at an assertion. -/
theorem witness_TheValvePinsFollowTheBufferAndTheCutoff :
    let s := { node .run 1 true with servo := { Servo.reset false with buffer := .drive 2248 } }
    s.servo.cutoff = false ∧ s.servo.buffer = .drive 2248 ∧ 2247 < 2248 ∧ 2248 < 4096 ∧ s.line.prompt = false
      ∧ (node .standby 0 false).servo.buffer = .idle ∧ (node .standby 0 false).control.mode = .standby ∧ s.control.mode.engaged = true
      ∧ (node .tripped 0 false).line.prompt = false := by decide +kernel

/-- A clean cycle with two remaining, unclean ones with one and with two; and each state in which a mark counts nothing. -/
theorem witness_AMarkCountsTheEndingCycle : let s := node .run 2 true
    s.running = true ∧ s.servo.cutoff = false ∧ s.seq.state = .active ∧ s.seq.started = true
      ∧ s.segment.body = .cycle 5000 4000 25000 .sine 3 0 ∧ 2 ≤ s.seq.remaining ∧ s.seq.clean = false
      ∧ 2 ≤ ({ s.seq with remaining := 2, clean := true } : Sequencer).remaining
      ∧ 1 ≤ ({ s.seq with remaining := 1 } : Sequencer).remaining
      ∧ (waiting s).seq.state = .barrier ∧ (waiting s).running = true ∧ ({ s.seq with state := .idle } : Sequencer).state = .idle
      ∧ ({ s.seq with state := .complete } : Sequencer).state = .complete
      ∧ (node .run 1 true).segment.isCycle = false ∧ (node .run 2 false).seq.started = false := by decide +kernel

/-- A frame that a cutoff has tripped, with the cutoff asserted, at a CYCLE that runs, at its last clean cycle, and before one. -/
theorem witness_AMarkCountsTheEndingCycle_cutoff : let s := after .cutoffAssert (node .run 2 true)
    s.running = true ∧ s.servo.cutoff = true ∧ s.control.mode = .tripped ∧ s.control.mode.engaged = false ∧ s.seq.state = .active
      ∧ s.seq.started = true ∧ s.segment.body = .cycle 5000 4000 25000 .sine 3 0 ∧ 2 ≤ s.seq.remaining
      ∧ ({ s.seq with state := .preCycle } : Sequencer).state = .preCycle ∧ ({ s.seq with remaining := 1, clean := true } : Sequencer).clean = true
      ∧ (waiting s).seq.state = .barrier := by decide +kernel

/-- With no soft start and with one, in RUN and in HOLD. -/
theorem witness_AMarkStartsAWaitingCycle :
    ∀ soft ∈ [0, 3], ∀ m ∈ [Mode.run, .hold], let s := { node m 2 false with seq := { (node m 2 false).seq with state := .preCycle } }
      let t := withSegment { cycleSegment false false none with body := .cycle 5000 4000 25000 .sine 3 soft } s
      t.running = true ∧ t.servo.cutoff = false ∧ t.seq.state = .preCycle ∧ t.segment.body = .cycle 5000 4000 25000 .sine 3 soft := by
  decide +kernel

/-- The last clean cycle: at a barrier, at END, at a pause, and on to a CYCLE, a RAMP and a DWELL. -/
theorem witness_ACycleEndsAtAMark :
    let s := { node .run 2 true with seq := { (node .run 2 true).seq with clean := true, remaining := 1 } }
    (∀ g ∈ [cycleSegment true false (some 3), cycleSegment false false none, cycleSegment false true (some 3),
        cycleSegment false false (some 2), cycleSegment false false (some 3), cycleSegment false false (some 1)],
      let t := withSegment g s
      t.running = true ∧ t.servo.cutoff = false ∧ t.seq.state = .active ∧ t.seq.started = true ∧ t.seq.clean = true
        ∧ t.segment.body = .cycle 5000 4000 25000 .sine 3 0 ∧ t.seq.remaining = 1)
      ∧ (withSegment (cycleSegment true false (some 3)) (withPeer { peer .fresh .run 1024 with segIndex := 2 } s)).barrierMet = false := by
  decide +kernel

/-- The last clean cycle, on to a CYCLE with a soft start and to one without, in RUN and in HOLD. -/
theorem witness_ACycleEndsAtAMark_soft : ∀ soft ∈ [0, 3], ∀ m ∈ [Mode.run, .hold],
    let s := { node m 2 true with seq := { (node m 2 true).seq with clean := true, remaining := 1 } }
    let t := withSegment { cycleSegment false false (some 2) with body := .cycle 5000 4000 25000 .sine 3 soft } s
    t.running = true ∧ t.servo.cutoff = false ∧ t.seq.state = .active ∧ t.seq.started = true ∧ t.seq.clean = true
      ∧ t.segment.body = .cycle 5000 4000 25000 .sine 3 soft ∧ t.seq.remaining = 1 ∧ t.segment.groupAdvance = false
      ∧ t.segment.pause = false ∧ t.segment.link = some 2
      ∧ (segmentAt t.settings.segments 2).body = .cycle 5000 4000 25000 .sine 3 soft := by decide +kernel

/-- The points at 0 and at 128 of the cycle, and the last fraction. -/
theorem witness_AMarkFormsTheNewCycle : let s := node .run 2 true
    s.running = true ∧ s.settings.points[0]? = some { fraction := some 0, head := some 0 }
      ∧ s.settings.points[1]? = some { fraction := some 128, head := some 1 } ∧ 255 ≤ 255
      ∧ s.settings.points[7]? = some { fraction := none, head := none } ∧ ({ fraction := some 0, head := none } : ScanPoint).head = none
      ∧ 0 < (after (.cycleMark true 0) s).clock.applied := by decide +kernel

/-- An enabled channel with a sample and one without, and a disabled channel. -/
theorem witness_AMarkClosesTheChannels : let s := node .run 2 true
    let t := { s with recorder := { s.recorder with channels := s.recorder.channels.set 0 { Channel.cleared with samples := 1, cycleMax := 600 } } }
    s.running = true ∧ (s.settings.channels[0]?.map ChannelConst.enabled) = some true ∧ (s.settings.channels[31]?.map ChannelConst.enabled) = some false
      ∧ s.recorder.channels[0]? = some Channel.cleared ∧ s.recorder.channels[31]? = some Channel.cleared
      ∧ (t.recorder.channels[0]?.map Channel.samples) = some 1 := by decide +kernel

theorem cleared_cycleLaw (s : State) (h : s.recorder = Recorder.cleared) : s.CycleLaw := by
  intro k c r _ hr _ _ _ _
  rw [h] at hr
  obtain rfl := List.eq_of_mem_replicate (List.mem_of_getElem? hr)
  simp [h, Recorder.cleared, Channel.cleared]

/-- A mark in RUN, and the end of a start-up under another tag. -/
theorem witness_EveryStepKeepsTheCycleLaw : let s := { node .run 2 true with pending := [.cycleMark true 0] }
    s.PeriodLaw ∧ s.Sized ∧ s.CycleLaw ∧ step s = .next (after (.cycleMark true 0) (node .run 2 true))
      ∧ ∀ image p rest, s.pending = .imageReadComplete image p :: rest → s.startUp.tag ≠ some (tagOf (imageOf image)) :=
  ⟨by unfold State.PeriodLaw; decide +kernel, node_sized .run 2 true, cleared_cycleLaw _ rfl, rfl, fun _ _ _ h => by simp at h⟩

/-- An open reading, at r_open and of age 4, in each of the five states; the reading just below it of a confirmed site and of one in
SENSOR_FAULT, with a recovery to end and not; a reading of age 5; a baseline awaited; and a capture, at its sixteenth range and
not. -/
theorem witness_OpenReadingsAndGrowthAreRecorded :
    (∀ st ∈ [SiteState.intact, .suspect, .sensorFault, .confirmed, .critical], let s := withSite (read st 5000 0) 4 (node .run 2 true)
      s.running = true ∧ s.settings.sites[0]? = some (siteConst sample 0) ∧ s.cracks.sites[0]? = some (read st 5000 0)
        ∧ (siteConst sample 0).used = true ∧ (siteConst sample 0).ladder.isSome = true ∧ (read st 5000 0).reading = some 5000
        ∧ min 4294967295 (s.recorder.total + 1) - (read st 5000 0).stamp ≤ 4 ∧ (siteConst sample 0).rOpen ≤ 5000)
    ∧ (∀ st ∈ [SiteState.confirmed, .critical], (read st 4999 0).reading = some 4999 ∧ (4999 : Int) < (siteConst sample 0).rOpen
        ∧ (read st 4999 0).baseline.isSome = true)
    ∧ (∀ n ∈ [0, 1], let r := { read .sensorFault 4999 0 with clears := n }
        r.state = .sensorFault ∧ r.reading = some 4999 ∧ ((siteConst sample 0).runLength ≤ min 65535 (r.clears + 1) ↔ n = 1))
    ∧ 4 < min 4294967295 ((withSite (read .sensorFault 1200 0) 5 (node .run 2 true)).recorder.total + 1) - 1
    ∧ ({ read .intact 1200 0 with baseline := none } : Site).baseline = none
    ∧ ∀ n ∈ [0, 15], let r := { read .intact 1200 0 with captureCount := n }
      let s := gauged r 1150 true
      let c := siteConst s.settings 0
      s.running = true ∧ s.settings.sites[0]? = some c ∧ s.cracks.sites[0]? = some r ∧ c.used = true ∧ c.channel = some 0
        ∧ (s.settings.channels[0]?.map ChannelConst.enabled) = some true ∧ (s.recorder.channels[0]?.map Channel.samples) = some 1
        ∧ r.refRange = none ∧ r.state = .intact ∧ s.recorder.steady = true ∧ (siteConst sample 0).channel = none := by decide +kernel

/-- A CONFIRMED and a CRITICAL site that await their baseline, with a reading of a count at the critical one and of one below it;
and with no reading, with an old one, and with no ladder. -/
theorem witness_OpenReadingsAndGrowthAreRecorded_confirmed :
    ∀ st ∈ [SiteState.confirmed, .critical], ∀ x ∈ [some 2600, some 1400, none], let r := { read st 0 0 with reading := x, baseline := none }
      let s := withSite r 4 (node .run 2 true)
      s.running = true ∧ s.cracks.sites[0]? = some r ∧ r.state = st ∧ r.baseline = none
        ∧ (∀ y ∈ r.reading, y < (siteConst sample 0).rOpen ∧ ((siteConst sample 0).critical ≤ brokenOf (siteConst sample 0) y ↔ y = 2600))
        ∧ min 4294967295 (s.recorder.total + 1) - r.stamp ≤ 4
        ∧ 4 < min 4294967295 ((withSite r 5 s).recorder.total + 1) - r.stamp
        ∧ ({ siteConst sample 0 with ladder := none } : SiteConst).ladder.isSome = false := by decide +kernel

/-- A site that is not used; a site in SENSOR_FAULT and a CONFIRMED one with its flag set; and a node in CFG_FAULT. -/
theorem witness_OpenReadingsAndGrowthAreRecorded_unused : let s := withSite (read .sensorFault 5000 0) 4 (node .run 2 true)
    s.running = true ∧ s.settings.sites[11]? = some SiteConst.unused ∧ SiteConst.unused.used = false
      ∧ s.cracks.sites[11]? = some Site.cleared ∧ (after (.cycleMark true 0) s).cracks.sensorFault = true
      ∧ (after (.cycleMark true 0) (withSite (read .confirmed 5000 0) 4 s)).cracks.sensorFault = true
      ∧ (after (.cycleMark true 0) (withSite (read .confirmed 1200 0) 4 s)).cracks.sensorFault = false
      ∧ (node .cfgFault 0 false).running = false := by decide +kernel

/-- On the ladder alone: a first evaluation above the baseline, the second, which confirms, and two at the baseline, the second of
which clears. With a gauge: a change of 15 percent, one just less, and an unsteady cycle; and the eighth evaluation on the gauge
alone, the ladder's reading being old. -/
theorem witness_LadderEvidenceConfirmsASite :
    (∀ r ∈ [read .intact 1200 0, read .suspect 1200 1, read .suspect 2600 1, read .suspect 1000 1, { read .suspect 1000 1 with clears := 1 }],
      let s := withSite r 4 (node .run 2 true)
      let c := siteConst sample 0
      s.running = true ∧ s.settings.sites[0]? = some c ∧ s.cracks.sites[0]? = some r ∧ c.used = true ∧ c.ladder.isSome = true
        ∧ c.channel = none ∧ min 4294967295 (s.recorder.total + 1) - r.stamp ≤ 4 ∧ r.baseline = some 0
        ∧ ∀ x ∈ r.reading, x < c.rOpen ∧ (0 < brokenOf c x ↔ x ≠ 1000))
    ∧ ∀ range ∈ [1150, 1149], ∀ steady ∈ [true, false], ∀ r ∈ [read .suspect 1200 1, { read .suspect 1200 7 with reading := none }],
      let s := gauged { r with refRange := some 1000 } range steady
      let c := siteConst s.settings 0
      s.running = true ∧ s.settings.sites[0]? = some c ∧ s.cracks.sites[0]? = some { r with refRange := some 1000 } ∧ c.used = true
        ∧ c.channel = some 0 ∧ (s.settings.channels[0]?.map ChannelConst.enabled) = some true
        ∧ (s.recorder.channels[0]?.map fun h => (h.cycleMax - h.cycleMin).toNat) = some range.toNat
        ∧ (s.recorder.channels[0]?.map Channel.samples) = some 1 ∧ s.recorder.steady = steady
        ∧ ((1000 : Int) * c.threshold ≤ (range - 1000).natAbs * 100 ↔ range = 1150)
        ∧ (4 * c.runLength ≤ min 65535 (r.evidence + 1) ↔ r.reading = none) := by decide +kernel

/-- With a baseline awaited; and with a reference absent, in a capture that this range completes and in one that it does not. -/
theorem witness_LadderEvidenceConfirmsASite_reference : ∀ n ∈ [3, 15],
    let r := { read .intact 1200 0 with captureCount := n, baseline := none }
    let s := gauged r 1150 true
    s.running = true ∧ s.cracks.sites[0]? = some r ∧ r.baseline = none ∧ r.refRange = none ∧ (r.captureCount + 1 = 16 ↔ n = 15)
      ∧ (siteConst s.settings 0).channel = some 0 ∧ s.recorder.steady = true := by decide +kernel

theorem witness_ConfirmedSitesStayConfirmed :
    let s := { withSite (read .confirmed 1200 2) 4 (node .run 2 true) with pending := [.cycleMark true 0] }
    s.Sized ∧ s.cracks.sites[0]? = some (read .confirmed 1200 2) ∧ (read .critical 1200 2).state = .critical
      ∧ step s = .next (after (.cycleMark true 0) { s with pending := [] })
      ∧ (∀ rest, s.pending ≠ .powerOnReset :: rest)
      ∧ ∀ image p rest, s.pending = .imageReadComplete image p :: rest → s.startUp.tag = some (tagOf (imageOf image)) :=
  ⟨⟨rfl, rfl, rfl, rfl, rfl, by simp [withSite, node, State.reset, Recorder.cleared, Channel.cleared], rfl, rfl, rfl, rfl, rfl, rfl, rfl⟩,
    by decide +kernel, rfl, rfl, fun _ h => by simp at h, fun _ _ _ h => by simp at h⟩

/-- An idle converter, a busy one, one that serves the point, and a request of the point that waits; and a mark that finds the
converter idle, with nothing waiting, and busy, with a request of its instant and another waiting, and a site with a ladder. -/
theorem witness_AFiringAsksForItsChain : let s := node .run 2 true
    let busy := { s with scanner := { s.scanner with
      converter := .chain 3 1 0 0 false, chains := (s.scanner.chains.set 0 (.pending false true)).set 1 (.pending false false)
      ladders := s.scanner.ladders.set 0 true } }
    s.running = true ∧ 0 < s.scanner.chains.length ∧ s.settings.points[0]? = some { fraction := some 0, head := some 0 }
      ∧ s.scanner.converter = .idle ∧ s.scanner.serves 0 = false ∧ (s.scanner.request 0).waits = false
      ∧ ({ s.scanner with converter := .chain 0 0 0 0 false } : Scanner).serves 0 = true
      ∧ ({ s.scanner with converter := .chain 1 1 0 0 true } : Scanner).serves 0 = false
      ∧ (({ s.scanner with chains := s.scanner.chains.set 0 (.pending true false) } : Scanner).request 0).waits = true
      ∧ s.scanner.ladderMerges ≤ 65535 ∧ (∀ w ∈ s.scanner.ladders, w = false) ∧ s.settings.sites[0]? = some (siteConst sample 0)
      ∧ (siteConst sample 0).used = true ∧ (siteConst sample 0).ladder.isSome = true ∧ s.settings.sites[1]? = some SiteConst.unused
      ∧ busy.running = true ∧ busy.scanner.converter ≠ .idle ∧ busy.scanner.ladders[0]? = some true
      ∧ busy.scanner.chains[0]? = some (.pending false true) ∧ busy.scanner.chains[1]? = some (.pending false false) := by decide +kernel

theorem witness_AFiringAsksForItsChain_sized : (node .run 2 true).Sized := node_sized .run 2 true

/-- An enabled channel's record with a link, whole and with one sample to come, a disabled channel's, and a ladder read, whole and with
one sample to come; and codes that are too many, too few and none. -/
theorem witness_ResultsReachTheirChannelAndSite :
    let s := { node .run 2 true with scanner := { Scanner.reset with converter := .chain 0 0 0 25 true } }
    let z := (after (.recordComplete [1121]) s).scanner
    s.scanner.converter = .chain 0 0 0 25 true ∧ s.settings.scans[0]? = some { channel := 0, samples := 2, link := some 1 }
      ∧ 0 + [1121#16, 1121#16].length = 2 ∧ (s.settings.channels[0]?).isSome = true
      ∧ z.converter = .chain 0 0 1 0 true ∧ z.accumulator = 1121 ∧ 1 + [1121#16].length = 2
      ∧ (s.recorder.channels[0]?).isSome = true ∧ s.settings.scans[1]? = some { channel := 1, samples := 1, link := none }
      ∧ (s.settings.channels[1]?.map ChannelConst.enabled) = some false ∧ (s.recorder.channels[1]?).isSome = true
      ∧ (∀ k ∈ [0, 3], ({ s.scanner with converter := .ladder 0 k 0 } : Scanner).converter = .ladder 0 k 0
          ∧ k + ([1#16, 2, 3, 4].take (4 - k)).length = 4)
      ∧ [1121#16] ≠ [] ∧ 0 + [1121#16].length < 2 ∧ 2 < 0 + [1#16, 2, 3].length ∧ ([] : List Half) = [] ∧ 1 < 2
      ∧ 3 + [1#16].length = 4 ∧ 2 + [1#16].length < 4 ∧ 4 < 3 + [1#16, 2].length := by decide +kernel

/-- A chain that waits, a ladder that waits, and nothing; and a ladder read at its last sample. -/
theorem witness_TheArbiterChoosesTheNextWork : let z := { Scanner.reset with converter := .chain 1 1 0 0 false }
    let s := { node .run 2 true with scanner := z }
    (∃ codes k n taken us kept record, Instr.recordComplete [5] = .recordComplete codes ∧ s.scanner.converter = .chain k n taken us kept
        ∧ s.settings.scans[n]? = some record ∧ record.link = none ∧ taken + codes.length = record.samples)
      ∧ (∃ codes site taken us, Instr.ladderReadComplete [5] = .ladderReadComplete codes
        ∧ ({ s with scanner := { z with converter := .ladder 0 3 25 } } : State).scanner.converter = .ladder site taken us
        ∧ taken + codes.length = 4)
      ∧ (z.chains.set 0 (.pending true false))[0]? = some (.pending true false) ∧ (pointAt s.settings 0).head = some 0
      ∧ (∀ x ∈ z.chains, x.waits = false) ∧ (z.ladders.set 0 true)[0]? = some true ∧ (siteConst s.settings 0).ladder = some 0
      ∧ ∀ x ∈ z.ladders, x = false :=
  ⟨⟨[5], 1, 1, 0, 0, false, _, rfl, rfl, rfl, rfl, rfl⟩, ⟨[5], 0, 3, 25, rfl, rfl, rfl⟩, by decide +kernel⟩

theorem reset_scannerLaw (s : State) (h : s.scanner = Scanner.reset) : s.ScannerLaw := by
  refine ⟨fun k hk => ?_, fun _ => ?_, ?_⟩
  · simp [h, Scanner.serves, Scanner.reset] at hk
  · simp [h, Scanner.reset, ChainRequest.waits]
  · simp [h, Scanner.reset]

theorem witness_EveryStepKeepsTheScannerLaw : let s := { node .run 2 true with pending := [.scanPointFire 0] }
    s.Sized ∧ s.ScannerLaw ∧ step s = .next (after (.scanPointFire 0) (node .run 2 true)) :=
  ⟨node_sized .run 2 true, reset_scannerLaw _ rfl, rfl⟩

/-- Two samples of a record in service, at the end of their range; and a third that is added. -/
theorem witness_EveryStepKeepsTheScannerLaw_samples : ∀ sum ∈ [-65536, 65534], let s := { node .run 2 true with
      scanner := { Scanner.reset with converter := .chain 0 0 2 25 false, accumulator := sum }, pending := [.recordComplete [0x8000]] }
    s.ScannerLaw := by
  intro sum h
  refine ⟨fun k hk => ?_, fun e => (by cases e), ?_⟩
  · obtain rfl : 0 = k := of_decide_eq_true hk
    rfl
  · simp only [List.mem_cons, List.not_mem_nil, or_false] at h
    obtain rfl | rfl := h <;> decide

/-- Stations 1 and 16, modes 1 and 8, groups 0 and 4. -/
theorem witness_AnArrivalUpdatesItsEntry : let s := node .run 2 true
    s.line.line = .active ∧ s.line.assembler = .ready ∧ 1 ≤ (1#8).toNat ∧ (16#8).toNat ≤ 16 ∧ (16#8).toNat ≠ s.startUp.station
      ∧ 1 ≤ byteAt (beat 1 0 0x20) 1 ∧ byteAt (beat 8 0 0x20) 1 ≤ 8 ∧ byteAt ((beat 8 0 0x20).set 0 4) 0 ≤ 4
      ∧ s.peers.entries.length = 16 ∧ s.seq.state ≠ .barrier ∧ s.servo.cutoff = false := by decide +kernel

/-- Just outside each range: the sources 0 and 17, the mode codes 0 and 9, and the group 5; and an arrival that changes the mode. -/
theorem witness_AnArrivalUpdatesItsEntry_refused : let s := node .run 2 true
    s.line.line = .active ∧ s.line.assembler = .ready ∧ s.line.prompt = false
      ∧ (∀ source ∈ [0#8, 17, 3], source.toNat ≠ s.startUp.station) ∧ (0#8).toNat = 0 ∧ 17 ≤ (17#8).toNat
      ∧ byteAt (beat 0 0 0x20) 1 = 0 ∧ 9 ≤ byteAt (beat 9 0 0x20) 1 ∧ 5 ≤ byteAt ((beat 3 0 0x20).set 0 5) 0
      ∧ (after (.beatArrival 3 (beat 7 0 0x20)) (withPeer (peer .fresh .run 1024) s)).control.mode ≠ s.control.mode
      ∧ (after (.beatArrival 3 (beat 3 0 0x20)) s).control.mode = s.control.mode := by decide +kernel

/-- A MARK beat that qualifies, and an INTERVAL beat that does not. -/
theorem witness_AMarkBeatGivesAPhaseOffset : let s := node .run 1 true
    let b := beat 3 0 0x10
    s.line.line = .active ∧ s.line.assembler = .ready ∧ (3#8).toNat ≠ s.startUp.station ∧ byteAt b 1 = 3 ∧ byteAt b 0 = s.settings.group
      ∧ s.peers.entries.length = 16 ∧ 0 < s.clock.applied ∧ s.running = true ∧ byteAt b 4 / 16 = 1 ∧ s.settings.group ≠ 0
      ∧ fieldAt b 15 3 = s.clock.nominal ∧ fieldAt b 18 2 < 65535 ∧ byteAt (beat 3 0 0x20) 4 / 16 ≠ 1 := by decide +kernel

/-- An age at the expiry and just below it, in both states; and a release timer that has run out, one with a microsecond to run, and
none. -/
theorem witness_ExpiriesChangeTheirOwnStateAlone : let s := withPeer (aged 100 (peer .fresh .run 1024)) (node .run 2 true)
    1 ≤ 3 ∧ 3 ≤ 16 ∧ (s.peers.entry 3).state = .fresh ∧ s.settings.staleMs * 1000 ≤ (s.peers.entry 3).ageUs
      ∧ s.peers.entries.length = 16 ∧ s.GroupLaw ∧ s.seq.state ≠ .barrier ∧ s.line.prompt = false
      ∧ ((withPeer { peer .fresh .run 1024 with ageUs := 99999 } s).peers.entry 3).ageUs < s.settings.staleMs * 1000
      ∧ ((withPeer { peer .stale .run 1024 with ageUs := 299999 } s).peers.entry 3).ageUs < s.settings.lostMs * 1000
      ∧ ∀ m ∈ [Mode.descent, .ascent], (node m 2 true).control.mode = m
          ∧ ({ (node m 2 true).control with release := some 0 } : Control).release = some 0
          ∧ ({ (node m 2 true).control with release := some 1 } : Control).release ≠ some 0 ∧ (node .run 2 true).control.mode ≠ m := by
  unfold State.GroupLaw
  decide +kernel

/-- A loss, an expiry that is none, and a drop told by the beat's group and by the entry's; a rise of G brought by a peer's beat of
level 3 and of level 2, above the accept level and at it, with a drop and without; and one at a mark, of a node that waits in BARRIER
with a site that the mark confirms, beside one without a change. -/
theorem witness_PeerLossAndPeerDropAreAnswered : let s := withPeer (aged 300 (peer .stale .run 1024)) (node .run 2 true)
    let w := withPeer (aged 300 (peer .stale .standby 0)) (node .run 2 true)
    let risen := waiting (withSite (read .suspect 1200 1) 4 (node .run 2 true))
    (s.peers.entry 3).state = .stale ∧ s.peers.entries.length = 16 ∧ s.GroupLaw ∧ s.seq.state ≠ .barrier ∧ s.servo.cutoff = false
      ∧ (s.peers.entry 3).group = s.settings.group ∧ s.settings.group ≠ 0 ∧ (s.peers.entry 3).mode.engaged = true
      ∧ (w.peers.entry 3).state = .stale ∧ (w.peers.entry 3).mode.engaged = false ∧ w.GroupLaw
      ∧ s.line.line = .active ∧ s.line.assembler = .ready ∧ (3#8).toNat ≠ s.startUp.station ∧ byteAt (beat 7 0 0x20) 1 = 7
      ∧ byteAt (beat 7 0 0x20) 2 / 16 % 4 ≤ s.peers.groupAlarm ∧ byteAt (beat 7 0 0x20) 0 = s.settings.group
      ∧ byteAt ((beat 8 0 0x20).set 0 0) 0 = 0 ∧ (s.peers.entry 3).state ≠ .empty
      ∧ s.settings.lostMs * 1000 ≤ (s.peers.entry 3).ageUs ∧ w.settings.lostMs * 1000 ≤ (w.peers.entry 3).ageUs
      ∧ (∀ level ∈ [0x20, 0x30], byteAt (beat 4 level 0x20) 1 = 4 ∧ byteAt (beat 7 level 0x20) 1 = 7
          ∧ byteAt (beat 4 level 0x20) 0 = s.settings.group ∧ s.peers.groupAlarm < byteAt (beat 4 level 0x20) 2 / 16 % 4)
      ∧ ({ s.control with accept := 2 } : Control).accept = 2 ∧ s.settings.policyFor 2 = .hold ∧ s.control.accept = 0
      ∧ risen.running = true ∧ risen.GroupLaw ∧ risen.seq.state ≠ .active ∧ risen.servo.cutoff = false
      ∧ risen.peers.groupAlarm < (after (.cycleMark true 0) risen).cracks.level
      ∧ (after (.cycleMark true 0) (waiting s)).peers.groupAlarm ≤ (waiting s).peers.groupAlarm ∧ (waiting s).GroupLaw := by
  unfold State.GroupLaw
  decide +kernel

/-- A rise of G at a mark of a CYCLE that goes on, with a clean cycle and with an unclean last one. -/
theorem witness_PeerLossAndPeerDropAreAnswered_cycle : let going := withSite (read .suspect 1200 1) 4 (node .run 2 true)
    going.running = true ∧ going.GroupLaw ∧ going.seq.state = .active ∧ 2 ≤ going.seq.remaining ∧ going.servo.cutoff = false
      ∧ going.seq.clean = false ∧ 1 ≤ ({ going.seq with remaining := 1 } : Sequencer).remaining
      ∧ going.peers.groupAlarm < (after (.cycleMark true 0) going).cracks.level := by
  unfold State.GroupLaw
  decide +kernel

/-- A frame that a cutoff has tripped, with the cutoff asserted: a peer to lose, a drop, a rise of G and a mark. -/
theorem witness_PeerLossAndPeerDropAreAnswered_cutoff :
    let s := after .cutoffAssert (withPeer (aged 300 (peer .stale .run 1024)) (node .run 2 true))
    s.servo.cutoff = true ∧ s.control.mode.engaged = false ∧ s.running = true ∧ (s.peers.entry 3).state = .stale ∧ s.GroupLaw
      ∧ s.settings.lostMs * 1000 ≤ (s.peers.entry 3).ageUs ∧ s.peers.entries.length = 16 ∧ s.seq.state = .active ∧ 2 ≤ s.seq.remaining
      ∧ s.line.line = .active ∧ s.line.assembler = .ready ∧ s.peers.groupAlarm = 0 ∧ s.line.prompt = false
      ∧ byteAt (beat 7 0x30 0x20) 2 / 16 % 4 = 3 := by
  unfold State.GroupLaw
  decide +kernel

theorem witness_ADuplicateStationSilencesTheNode : let s := node .run 2 true
    s.line.assembler = .ready ∧ (5#8).toNat = s.startUp.station ∧ s.line.prompt = false ∧ s.servo.cutoff = false
      ∧ s.line.line = .active ∧ ({ s.line with line := .listenOnly } : LineUnit).assembler = .ready
      ∧ (let c := after .cutoffAssert s
         c.servo.cutoff = true ∧ c.control.mode.engaged = false ∧ c.line.assembler = .ready ∧ c.line.line = .active) := by decide +kernel

/-- From STANDBY, PARKED and HOLD, from HOLD with q full and not, at a position started and not. -/
theorem witness_ARunResumesTheProgramme :
    (∀ m ∈ [Mode.standby, .parked, .hold], (node m 1 false).Adopts (order 1))
    ∧ (∀ m ∈ [Mode.standby, .parked, .hold], let s := node m 1 false
      (order 1).entry.toNat = 1 ∧ (order 1).programme = s.settings.programme ∧ s.servo.cutoff = false
        ∧ s.settings.policyFor s.peers.groupAlarm = .note ∧ s.seq.state ≠ .barrier ∧ s.seq.state ≠ .idle ∧ s.seq.complete = false)
    ∧ 4096000 ≤ (node .hold 1 false).control.qAcc ∧ (node .hold 1 false).seq.started = false
    ∧ ({ (node .hold 1 false).control with qAcc := 4095999 } : Control).qAcc < 4096000 :=
  ⟨fun m _ => node_adopts 1 m 1 false, by decide +kernel⟩

theorem witness_ARunRestartsTheProgramme :
    (∀ m ∈ [Mode.standby, .hold], (node m 1 false).Adopts (order 2))
    ∧ ∀ m ∈ [Mode.standby, .hold], let s := node m 1 false
      (order 2).entry.toNat = 2 ∧ (order 2).programme = s.settings.programme ∧ s.servo.cutoff = false
        ∧ s.settings.policyFor s.peers.groupAlarm = .note ∧ (segmentAt s.settings.segments 0).body = .ramp 5000 10 :=
  ⟨fun m _ => node_adopts 2 m 1 false, by decide +kernel⟩

/-- Each refusal with the checks before it passed; and CFG_FAULT. -/
theorem witness_RefusalsComeInOrderAndChangeNothing :
    (∀ m k st e, (node m k st).Adopts (order e))
    ∧ (let s := node .run 2 true
       (order 1).entry.toNat = 1 ∧ s.control.mode ≠ .cfgFault ∧ ({ order 1 with programme := 1 } : Directive).programme ≠ s.settings.programme
         ∧ (order 1).programme = s.settings.programme ∧ (after .cutoffAssert s).servo.cutoff = true ∧ s.servo.cutoff = false
         ∧ ({ s.peers with groupAlarm := 2 } : PeerTable).groupAlarm = 2 ∧ s.settings.policyFor 2 ≠ .note ∧ min (order 1).accept.toNat 3 < 2
         ∧ s.settings.policyFor s.peers.groupAlarm = .note)
    ∧ (node .standby 0 false).control.mode = .standby ∧ ({ (node .standby 0 false).seq with complete := true } : Sequencer).complete = true
    ∧ (node .parked 1 true).control.mode = .parked ∧ (order 2).entry.toNat = 2
    ∧ (node .cfgFault 0 false).control.mode = .cfgFault ∧ Instr.hold (order 0) ∈ [Instr.hold (order 0), .unload (order 0)] :=
  ⟨fun m k st e => node_adopts e m k st, by decide +kernel⟩

theorem witness_HoldAndUnloadAreDecidedByTheMode : (∀ m, (node m 2 true).Adopts (order 0)) ∧ ∀ m ∈ [Mode.run, .ascent, .hold, .parked],
    (node m 2 true).control.mode = m ∧ (node m 2 true).servo.cutoff = false :=
  ⟨fun m => node_adopts 0 m 2 true, by decide +kernel⟩

theorem witness_StopAndResetTripAreDecidedByTheMode : (∀ m, (node m 2 true).Adopts (order 0)) ∧ ∀ m ∈ [Mode.parked, .tripped, .run],
    (node m 2 true).control.mode = m ∧ (node m 2 true).servo.cutoff = false :=
  ⟨fun m => node_adopts 0 m 2 true, by decide +kernel⟩

theorem witness_ScaleAndBaselineAreAdopted : let s := node .standby 2 true
    s.Adopts (order 0) ∧ s.running = true ∧ s.settings.sites[0]? = some (siteConst sample 0) ∧ s.cracks.sites[0]? = some Site.cleared
      ∧ (siteConst sample 0).used = true :=
  ⟨node_adopts 0 .standby 2 true, by decide +kernel⟩

/-- A frame station's directive, another group's, an epoch seen, the oldest of the older half, and the first epoch heard. -/
theorem witness_OnlyNewerEpochsAreObeyed : let s := node .run 2 true
    let d := order 1
    s.line.prompt = false ∧ Instr.hold d ∈ [Instr.run d true, .hold d] ∧ ¬ 17 ≤ ({ d with source := 16 } : Directive).source.toNat
      ∧ ({ d with mask := 2 } : Directive).mask.toNat % 16 / 2 ^ (s.settings.group - 1) % 2 ≠ 1
      ∧ ({ d with entry := 3 } : Directive).entry.toNat ≠ 1 ∧ s.line.seenEpoch = some 7 ∧ 32768 ≤ (32775#16 - 7#16).toNat
      ∧ ({ s.line with seenEpoch := none } : LineUnit).seenEpoch = none ∧ s.line.assembler = .ready ∧ (∀ l, s.line.assembler ≠ .taking l)
      ∧ step { s with pending := [.hold d] } = .next (after (.hold d) s) :=
  ⟨rfl, by simp, by decide, by decide, by decide, rfl, by decide, rfl, rfl, fun _ h => (by cases h), rfl⟩

/-- The last channel, the first index beyond it, and a query of a frame station. -/
theorem witness_ChannelQueriesAreAnswered : let s := node .run 2 true
    s.recorder.channels.length = 32 ∧ s.Answers (ask 31) ∧ s.recorder.channels[(31#8).toNat]? = some Channel.cleared
      ∧ Channel.cleared.bins.length = 16 ∧ 32 ≤ (32#8).toNat ∧ ({ ask 0 with source := 16 } : Query).source.toNat < 17
      ∧ ({ ask 0 with target := 4 } : Query).target.toNat ≠ s.startUp.station
      ∧ ({ s.line with line := .listenOnly } : LineUnit).line = .listenOnly ∧ ∀ l, s.line.assembler ≠ .taking l :=
  ⟨rfl, node_answers 31 .run 2 true, by decide, by decide, by decide, by decide, by decide, rfl, fun _ h => (by cases h)⟩

/-- The last site and the first index beyond it; a reading, none, one of a site whose ladder is NONE, and one in CFG_FAULT; the first and the last station and the indices beyond them. -/
theorem witness_RecordQueriesAreAnswered : let s := withSite (read .intact 1200 0) 4 (node .run 2 true)
    s.Answers (ask 0) ∧ s.cracks.sites.length = 12 ∧ s.settings.sites.length = 12 ∧ 12 ≤ (12#8).toNat ∧ s.control.mode ≠ .cfgFault
      ∧ s.settings.sites[(0#8).toNat]? = some (siteConst sample 0) ∧ s.cracks.sites[(0#8).toNat]? = some (read .intact 1200 0)
      ∧ (read .intact 1200 0).reading = some 1200 ∧ (siteConst sample 0).ladder.isSome = true ∧ s.cracks.sites[(11#8).toNat]? = some Site.cleared
      ∧ Site.cleared.reading = none ∧ ({ siteConst sample 0 with ladder := none } : SiteConst).ladder = none
      ∧ (let f := withSite (read .intact 1200 0) 4 (node .cfgFault 0 false)
         f.control.mode = .cfgFault ∧ (f.cracks.sites[0]?.map Site.reading) = some (some 1200) ∧ f.line.line = .active)
      ∧ (0#8).toNat = 0 ∧ 17 ≤ (17#8).toNat ∧ s.peers.entries[(16#8).toNat - 1]? = some Peer.empty :=
  ⟨⟨rfl, rfl, by decide, by decide, rfl⟩, by decide +kernel⟩

/-- A REPLY and a BEAT in their slots, and each of them held. -/
theorem witness_TheTransmitterStartsFromItsGap : let r : Reply := { kind := 9, index := 0, content := none }
    let b := (node .run 2 true).snapshot .prompt
    let u := { (node .run 2 true).line with transmitter := .waitGap }
    u.line = .active ∧ u.transmitter = .waitGap ∧ ({ u with replySlot := some r } : LineUnit).held = none
      ∧ ({ u with replySlot := some r } : LineUnit).beatSlot = none ∧ ({ u with beatSlot := some b } : LineUnit).beatSlot = some b
      ∧ ({ u with held := some ⟨.reply r, 1⟩ } : LineUnit).held = some ⟨.reply r, 1⟩
      ∧ ({ u with held := some ⟨.beat b, 15⟩ } : LineUnit).held = some ⟨.beat b, 15⟩ := by decide +kernel

/-- A released bit and a driven one, the sixteenth collision and the fifteenth, and a backoff. -/
theorem witness_CollisionsJamAndBackOff : let h : Held := { message := .reply { kind := 9, index := 0, content := none }, collisions := 16 }
    let u := (node .run 2 true).line
    (wireBits (framed 4 5 [9, 0, 0]))[10]? = some true ∧ (wireBits (framed 4 5 [9, 0, 0]))[0]? = some false
      ∧ ({ u with transmitter := .sending [4] 44, held := some h } : LineUnit).transmitter = .sending [4] 44
      ∧ ({ u with transmitter := .jam 44, held := some h } : LineUnit).held = some h ∧ h.collisions = 16
      ∧ ({ h with collisions := 15 } : Held).collisions < 16
      ∧ ({ u with transmitter := .backoff 44 } : LineUnit).transmitter = .backoff 44 := by decide +kernel

/-- The line states and the receive errors of each clause, with no message in progress and with one of two characters; the
characters of a message but for its last; and the message that they begin, and another. -/
theorem witness_TheReceiverAndTheStuckLine : let u := (node .run 2 true).line
    let m := framed 3 17 [5, 1, 0]
    u.line = .active ∧ u.assembler = .ready ∧ ({ u with line := .stuck } : LineUnit).line = .stuck ∧ u.transmitter = .idle
      ∧ 48 < (49#8).toNat ∧ [3#8, 17].length ≤ 2 ∧ ({ u with assembler := .taking [3, 17] } : LineUnit).assembler = .taking [3, 17]
      ∧ (let bad := m.set 4 9
         [3#8, 17] <+: bad ∧ bad.length = 5 + byteAt bad 2 ∧ byteAt bad 2 ≤ 48 ∧ arrivalValid bad = false)
      ∧ m.length = 8 ∧ (m.take 7).length < 5 + byteAt (m.take 7) 2 ∧ byteAt (m.take 7) 2 ≤ 48
      ∧ byteAt m 2 ≤ 48 ∧ arrivalValid m = true ∧ [3#8, 17] <+: m ∧ ¬ [3#8, 18] <+: m
      ∧ ({ u with assembler := .waiting } : LineUnit).assembler = .waiting ∧ u.assembler ≠ .waiting
      ∧ ({ u with transmitter := .backoff 44 } : LineUnit).transmitter = .backoff 44
      ∧ ({ u with transmitter := .sending [4] 44 } : LineUnit).transmitter = .sending [4] 44 := by decide +kernel

theorem witness_TheReceiverAndTheStuckLine_ready : ∀ l, (node .run 2 true).line.assembler ≠ .taking l := fun _ h => by cases h

/-- The timer at 1000 ms, and a microsecond before; each line state. -/
theorem witness_AnIntervalBeatIsASnapshot : ∀ l ∈ [LineState.active, .stuck, .off, .listenOnly], ∀ n ∈ [1000000, 999999],
    let u := { (node .run 2 true).line with line := l, intervalUs := some n }
    u.line = l ∧ u.prompt = false ∧ u.intervalUs = some n ∧ (1000000 ≤ n ↔ n ≠ 999999) := by decide +kernel

/-- A BEAT with its fields at the ends of their ranges. -/
theorem witness_ABeatReadsBackFromItsBody :
    let b := { (node .run 2 true).snapshot .mark with
      group := 4, ownLevel := 3, groupLevel := 3, segIndex := 255, remaining := 2 ^ 24 - 1, total := 2 ^ 32 - 1, q := 1024
      period := 10000000, load := -32768, command := 32767, disp := -32768, lineErrors := 255, faultCode := 32 }
    b.group ≤ 4 ∧ b.ownLevel ≤ 3 ∧ b.groupLevel ≤ 3 ∧ b.segIndex ≤ 255 ∧ b.remaining < 2 ^ 24 ∧ b.total < 2 ^ 32 ∧ b.q ≤ 1024
      ∧ b.period < 2 ^ 24 ∧ 65535 ≤ 65535 ∧ -32768 ≤ b.load ∧ b.load ≤ 32767 ∧ -32768 ≤ b.command ∧ b.command ≤ 32767
      ∧ -32768 ≤ b.disp ∧ b.disp ≤ 32767 ∧ b.lineErrors ≤ 255 ∧ b.faultCode ≤ 255 := by decide +kernel

/-- The three bytes of a header, the first byte of a body and the last of a CRC; the longest body; and each kind. -/
theorem witness_AFramedMessageIsValidAndGuarded :
    (∀ k ∈ [(1, 31), (2, 10), (3, 3), (4, 48)], 1 ≤ k.1 ∧ k.1 ≤ 4 ∧ k.2 ≤ 48 ∧ 31 ≤ 31 ∧ (k.1 = 1 → (List.replicate k.2 0#8).length = 31)
      ∧ (k.1 = 2 → (List.replicate k.2 0#8).length = 10) ∧ (k.1 = 3 → (List.replicate k.2 0#8).length = 3))
    ∧ 7 < 5 + [5#8, 1, 0].length ∧ (framed 3 17 [5, 1, 0])[0]? ≠ some 4 ∧ (framed 3 17 [5, 1, 0])[1]? ≠ some 18
    ∧ (framed 3 17 [5, 1, 0])[2]? ≠ some 2 ∧ (framed 3 17 [5, 1, 0])[3]? ≠ some 4 ∧ (framed 3 17 [5, 1, 0])[7]? ≠ (framed 3 17 [5, 1, 1])[7]?
    ∧ byteAt ((framed 3 17 [5, 1, 0]).set 4 9) 2 ≤ 48 ∧ arrivalValid ((framed 3 17 [5, 1, 0]).set 4 9) = false
    ∧ (0#8).toNat = 0 ∧ 7 < (8#8).toNat := by
  decide +kernel

/-- At the barrier of the CYCLE at position 2, whose link is 3: an arrival of a peer that is at the barrier too, and of one still in
the segment. -/
theorem witness_ABarrierReleasesWhenItsConditionHolds : let s := waiting (node .run 2 true)
    let there := ((beat 4 0 0x20).set 5 2).set 3 8
    let behind := (beat 4 0 0x20).set 5 2
    s.seq.state = .barrier ∧ s.seq.index = 2 ∧ s.segment.link = some 3 ∧ s.running = true ∧ s.servo.cutoff = false
      ∧ s.peers.entries.length = 16 ∧ s.line.line = .active ∧ s.line.assembler = .ready ∧ (3#8).toNat ≠ s.startUp.station
      ∧ (∀ b ∈ [there, behind], 1 ≤ byteAt b 1 ∧ byteAt b 1 ≤ 8 ∧ byteAt b 0 ≤ 4) ∧ s.settings.group = 1
      ∧ (after (.beatArrival 3 there) s).peers.Clears 1 2 (some 3)
      ∧ ¬ (after (.beatArrival 3 behind) s).peers.Clears 1 2 (some 3) := by
  simp only [← barrierMet_iff]
  decide +kernel

/-- The expiries of a peer that holds the barrier: STALE it holds it still, and LOST no more. -/
theorem witness_ABarrierReleasesWhenItsConditionHolds_expiry : let s := waiting (node .run 2 true)
    let stale := withPeer (aged 100 { peer .fresh .run 1024 with segIndex := 2 }) s
    let lost := withPeer (aged 300 { peer .stale .run 1024 with segIndex := 2 }) s
    (stale.peers.entry 3).state = .fresh ∧ stale.settings.staleMs * 1000 ≤ (stale.peers.entry 3).ageUs
      ∧ (lost.peers.entry 3).state = .stale ∧ lost.settings.lostMs * 1000 ≤ (lost.peers.entry 3).ageUs
      ∧ (after (.peerLost 3) lost).peers.Clears 1 2 (some 3) ∧ ¬ (after (.peerStale 3) stale).peers.Clears 1 2 (some 3) := by
  simp only [← barrierMet_iff]
  decide +kernel

/-- A TRIPPED frame that waits in BARRIER with the cutoff asserted. -/
theorem witness_ABarrierReleasesWhenItsConditionHolds_cutoff : let s := after .cutoffAssert (waiting (node .run 2 true))
    s.seq.state = .barrier ∧ s.running = true ∧ s.servo.cutoff = true ∧ s.control.mode = .tripped ∧ s.control.mode.engaged = false
      ∧ s.peers.entries.length = 16 := by decide +kernel

/-- A RUN from each mode that resumes, at a barrier that releases. -/
theorem witness_ABarrierReleasesWhenItsConditionHolds_run :
    (∀ m, (waiting (node m 2 true)).Adopts (order 1))
    ∧ ∀ m ∈ [Mode.standby, .parked, .hold], let r := waiting (node m 2 true)
      r.control.mode = m ∧ r.servo.cutoff = false ∧ r.seq.complete = false ∧ r.seq.state = .barrier
        ∧ (order 1).programme = r.settings.programme ∧ r.settings.policyFor r.peers.groupAlarm = .note
        ∧ r.peers.Clears r.settings.group r.seq.index r.segment.link := by
  refine ⟨fun m => node_adopts 1 m 2 true, ?_⟩
  simp only [← barrierMet_iff]
  decide +kernel

/-! ### The laws, in a node at work -/

/-- The node in RUN at a CYCLE with a mark waiting. -/
def working : State := { node .run 2 true with pending := [.cycleMark true 0] }

theorem working_steps : step working = .next (after (.cycleMark true 0) (node .run 2 true)) := rfl

theorem working_start : working.StartLaw ∧ working.StartQuiet ∧ working.NothingTaken := by
  refine ⟨?_, fun h => ?_, fun h => ?_⟩
  · unfold State.StartLaw; decide +kernel
  · exact absurd h (by decide)
  · exact absurd h (by decide)

theorem sample_good : sample.HeaderGood ∧ sample.TablesGood := by
  refine ⟨by unfold Settings.HeaderGood Settings.Ordered; decide +kernel, by decide, ?_, ?_, ?_, ?_⟩
  · intro g hg
    simp only [sample, List.mem_append, List.mem_cons, List.not_mem_nil, or_false, List.mem_replicate] at hg
    obtain (rfl | rfl | rfl | rfl) | ⟨-, rfl⟩ := hg
    all_goals
      refine ⟨fun _ hk => ?_, fun _ _ h => ?_, fun _ h => ?_, fun _ _ _ _ _ _ h => ?_⟩
      all_goals first
        | (intro h; cases h; done)
        | (intro h; cases h; exact ⟨by decide, by decide +kernel⟩)
        | (cases h; done)
        | (cases h; decide)
  · intro q hq
    simp only [sample, List.mem_append, List.mem_cons, List.not_mem_nil, or_false, List.mem_replicate] at hq
    obtain (rfl | rfl) | ⟨-, rfl⟩ := hq
    · exact ⟨fun _ h => by cases h; decide, fun _ h => by
        cases h
        refine ⟨_, rfl, by decide, by decide, fun _ h => ?_⟩
        cases h
        exact ⟨_, rfl, by decide, by decide, fun _ h => by cases h⟩⟩
    · exact ⟨fun _ h => by cases h; decide, fun _ h => by
        cases h
        exact ⟨_, rfl, by decide, by decide, fun _ h => by cases h⟩⟩
    · exact ⟨fun _ h => (by cases h), fun _ h => (by cases h)⟩
  · decide +kernel
  · intro r hr
    simp only [sample, List.mem_cons, List.mem_replicate] at hr
    obtain rfl | ⟨-, rfl⟩ := hr
    · simp
    · simp [SiteConst.unused]

theorem witness_EveryStepKeepsTheTablesAndStartUp : working.Sized ∧ working.StartLaw ∧ working.StartQuiet ∧ working.NothingTaken
    ∧ working.SettingsLaw ∧ working.PromptSpent ∧ step working = .next (after (.cycleMark true 0) (node .run 2 true)) :=
  ⟨node_sized .run 2 true, working_start.1, working_start.2.1, working_start.2.2, fun _ => sample_good, rfl, rfl⟩

theorem witness_EveryStepKeepsTheValveLaw : working.StartLaw ∧ working.ValveAtRest
    ∧ step working = .next (after (.cycleMark true 0) (node .run 2 true)) :=
  ⟨working_start.1, fun h => absurd h (by decide), rfl⟩

theorem witness_EveryStepKeepsTheDescentLaw : working.StartLaw ∧ working.DescentLaw ∧ working.EnvelopeLaw ∧ working.ValveAtRest
    ∧ working.IntegratorLaw ∧ step working = .next (after (.cycleMark true 0) (node .run 2 true)) :=
  ⟨working_start.1, by unfold State.DescentLaw; decide +kernel, by unfold State.EnvelopeLaw; decide +kernel,
    fun h => absurd h (by decide), by unfold State.IntegratorLaw; decide +kernel, rfl⟩

/-- In RUN; and in DESCENT and ASCENT with the timer at its start, at its end and run out. -/
theorem witness_EveryStepKeepsTheDescentLaw_timer : working.StartLaw ∧ working.TimerLaw ∧ sample.lockstepTimeout * 1000000 = 120000000
    ∧ ∀ m ∈ [Mode.descent, .ascent], ∀ r ∈ [(some 120000000, false), (some 0, false), (none, true)],
      ({ working with control := { (node m 2 true).control with release := r.1, released := r.2 } } : State).TimerLaw := by
  refine ⟨working_start.1, ?_⟩
  unfold State.TimerLaw
  decide +kernel

theorem witness_EveryStepKeepsTheAlarmLevels : working.StartLaw ∧ working.StartQuiet ∧ working.NothingTaken ∧ working.LevelLaw
    ∧ working.GroupLaw ∧ step working = .next (after (.cycleMark true 0) (node .run 2 true)) :=
  ⟨working_start.1, working_start.2.1, working_start.2.2, by unfold State.LevelLaw; decide +kernel,
    by unfold State.GroupLaw; decide +kernel, rfl⟩

theorem witness_EveryStepKeepsTheAcceptLaw : working.StartLaw ∧ working.settings.Ordered ∧ working.AlarmPinLaw ∧ working.AcceptLaw
    ∧ step working = .next (after (.cycleMark true 0) (node .run 2 true)) :=
  ⟨working_start.1, by unfold Settings.Ordered; decide +kernel, by unfold State.AlarmPinLaw; decide +kernel,
    by unfold State.AcceptLaw; decide +kernel, rfl⟩

theorem witness_EveryStepKeepsTheLineLaw : working.StartLaw ∧ working.StartQuiet ∧ working.LineLaw
    ∧ step working = .next (after (.cycleMark true 0) (node .run 2 true)) :=
  ⟨working_start.1, working_start.2.1, ⟨by decide, by decide, fun _ h => (by cases h), by decide, by decide, by decide, trivial⟩, rfl⟩

/-- A node in SENDING and one in JAM, which takes nothing. -/
theorem witness_EveryStepKeepsTheLineLaw_drives :
    let h : Held := { message := .reply { kind := 9, index := 0, content := none }, collisions := 1 }
    ∀ tr ∈ [Transmitter.sending [4] 44, .jam 44],
      ({ working with line := { working.line with transmitter := tr, held := some h, assembler := .waiting } } : State).LineLaw := by
  intro h tr ht
  simp only [List.mem_cons, List.not_mem_nil, or_false] at ht
  obtain rfl | rfl := ht
  · exact ⟨by decide, by decide, fun _ h => (by cases h), by decide, by decide, by decide, rfl, h, rfl, by decide⟩
  · exact ⟨by decide, by decide, fun _ h => (by cases h), by decide, by decide, by decide, rfl, h, rfl, by decide, by decide⟩

/-- A node with a used site in SENSOR_FAULT, and its indication set. -/
theorem witness_EveryStepKeepsTheAlarmLevels_fault :
    let s := after (.cycleMark true 0) (withSite (read .sensorFault 5000 0) 4 (node .run 2 true))
    s.LevelLaw ∧ s.GroupLaw ∧ s.cracks.sensorFault = true := by
  unfold State.LevelLaw State.GroupLaw
  decide +kernel

/-! ### The image, last, since the kernel reads every table of it -/

/-- R165, R166: an absent memory reads FF throughout and is NO_IMAGE. -/
theorem test_no_image : imageFault (imageOf []) = some .noImage := by decide +kernel

/-- R166: the first check that fails names the fault: LIMITS before SERVO. -/
theorem test_first_fault :
    let h := (header.set 17 0x80).set 41 0 |>.set 42 0
    imageFault (imageOf (image 0 h)) = some .limits := by decide +kernel

/-- R167: a node that reads no image ends in CFG_FAULT with its line ACTIVE. -/
theorem test_cfg_fault : (after (.imageReadComplete [] 0) reading).control.mode = .cfgFault
    ∧ (after (.imageReadComplete [] 0) reading).line.line = .active := by decide +kernel

/-- R166: an image that passes every check, and one with its group outside 1..4. -/
theorem test_images : imageFault (imageOf goodImage) = none ∧ imageFault (imageOf groupImage) = some .group := by decide +kernel

/-- R144: the bit time of an image that fails a check after CHECKSUM is that of its bit rate code. -/
theorem test_bit_rate : lineBitUs (imageOf groupImage) = 1 ∧ lineBitUs (imageOf []) = 4 := by decide +kernel

/-- R169: a node that reads a good image ends in STANDBY. -/
theorem test_standby : (after (.imageReadComplete goodImage 0) reading).control.mode = .standby := by
  have h : (after (.imageReadComplete goodImage 0) reading) = (reading.endStartUp (imageOf goodImage) 0).settle := by
    have hl : reading.startUp.loader.isReading = true := rfl
    simp only [after, exec, execImageReadComplete, hl, if_true, test_images.1]
  rw [h, (settle_keeps _).2.1]
  decide +kernel

/-- Section 12.2 and R171: the fields that no check bounds, each with a value of its own, and the two bytes of a scan point, with bit 6 of
the second ignored. -/
theorem test_places :
    let head := (header.set 24 1).set 26 2 |>.set 28 3 |>.set 30 4 |>.set 32 5 |>.set 34 6 |>.set 44 7 |>.set 46 8 |>.set 47 2 |>.set 48 2
    let m := (image 0 head).set 65 3 |>.set 1091 0x80 |>.set 1095 0x6A |>.set 1099 7 |>.set 1103 0xC9 |>.set 1107 9 |>.set 1111 0x7F
      |>.set 1281 0xFF |>.set 1284 10 |>.set 1289 11 |>.set 1292 12
    let c := readSettings m
    [c.dispMin, c.dispMax, c.zeroLoad, c.gainLoad, c.zeroDisp, c.gainDisp] = [0x8A01 - 65536, 0x7502, 3, 0x1004, 5, 0x1006]
      ∧ c.errLimit = 0x0507 ∧ c.errTicks = 8 ∧ c.inverted = true ∧ c.idleHigh = true
      ∧ c.segments[0]? = some { body := .ramp 5000 10, groupAdvance := true, pause := true, link := none }
      ∧ c.points.take 3 = [{ fraction := some 128, head := some 42 }, { fraction := none, head := some 9 }, { fraction := some 9, head := none }]
      ∧ (c.channels[0]?.map fun r => (r.zero, r.cal, r.watchAt)) = some (-256, 10, 11 * 16777216 + 12) := by decide +kernel

theorem witness_AFailedImageEndsInCfgFault : (awaiting none false).AwaitsImage
    ∧ imageFault (imageOf []) = some .noImage ∧ imageFault (imageOf groupImage) = some .group :=
  ⟨awaiting_awaits _ _, test_no_image, test_images.2⟩

/-- With the cutoff asserted or not, and with the image's own tag or another; with a scan point of fraction 0, and with none. -/
theorem witness_AGoodImageEndsInStandby : (∀ tag cutoff, (awaiting tag cutoff).AwaitsImage) ∧ imageFault (imageOf goodImage) = none
    ∧ (readSettings (imageOf goodImage)).points[0]? = some { fraction := some 0, head := some 0 }
    ∧ imageFault (imageOf pointlessImage) = none
    ∧ (readSettings (imageOf pointlessImage)).points = List.replicate 8 { fraction := none, head := none } :=
  ⟨awaiting_awaits, test_images.1, by decide +kernel, by decide +kernel, by decide +kernel⟩

/-- An image that passes; one whose group is just outside its range; and one that fails LIMITS and then SERVO, the second of which is
no earlier check than the first. -/
theorem witness_PassedChecksBoundTheConstants : imageFault (imageOf goodImage) = none ∧ (imageOf goodImage).length = 1986
    ∧ imageFault (imageOf groupImage) = some .group ∧ ImageFails (imageOf groupImage) .group
    ∧ ImageFails (imageOf (image 0 ((header.set 17 0x80).set 41 0 |>.set 42 0))) .limits
    ∧ ImageFails (imageOf (image 0 ((header.set 17 0x80).set 41 0 |>.set 42 0))) .servo :=
  ⟨test_images.1, imageOf_length _, test_images.2, by unfold ImageFails; decide +kernel, by unfold ImageFails; decide +kernel,
    by unfold ImageFails; decide +kernel⟩

/-- R66: a walk of one record to END, and one back to the record it began at. -/
theorem witness_PassedChecksBoundTheConstants_walk : failsChain (imageOf goodImage) = false
    ∧ WalkFails (imageOf ((goodImage.set 1090 0))) 0 := by
  refine ⟨by decide +kernel, 1, ?_, .inr (.inr (.inr ⟨0, by decide, ?_⟩))⟩
  · intro j hj
    obtain rfl : j = 0 := by omega
    decide +kernel
  · decide +kernel

end Sys2Proof.Tests
end

section
/-! The new cycle that a mark forms (R54 to R56, R63): what the cycle clock forms, and how the frame mode and the line unit's PROMPT
cause may change on the way. Both are relations of two states that the operations of a mark keep, whichever blocks take it first. -/

namespace Sys2Proof.Machine

variable {s t u : State}

theorem State.RecordsKept.clock (h : s.RecordsKept t) : t.clock = s.clock := by
  obtain ⟨hclock, -⟩ := h
  exact hclock

theorem State.RecordsKept.peers (h : s.RecordsKept t) : t.peers = s.peers := by
  obtain ⟨-, -, -, -, hpeers, -⟩ := h
  exact hpeers

/-! ## The frame mode on the way of a mark -/

/-- How far down the way of requests and responses a mode lies (R138 to R140): HOLD, DESCENT, TRIPPED. -/
def Mode.withdrawal : Mode → Nat
  | .hold => 1
  | .descent => 2
  | .tripped => 3
  | _ => 0

/-- The frame mode stands with its release timer and its released flag, or has gone further down the way with them as its entry
leaves them (R131); of the line unit a PROMPT cause alone may have come, and the clamp flag stands. -/
structure State.Withdraws (s t : State) : Prop where
  settings : t.settings = s.settings
  line : t.line = { s.line with prompt := t.line.prompt }
  clamp : t.servo.clampFlag = s.servo.clampFlag
  control : (t.control.mode = s.control.mode ∧ t.control.release = s.control.release ∧ t.control.released = s.control.released)
    ∨ (s.control.mode.withdrawal < t.control.mode.withdrawal ∧ t.control.released = false
        ∧ t.control.release = releaseAtEntry s.settings.lockstepTimeout t.control.mode)

/-- As `Withdraws`, away from the clock: it stands with the timebase and the peer entries, all that a new cycle is formed from beside
the constants and the period offered. -/
structure State.WithdrawsOffClock (s t : State) : Prop extends s.Withdraws t where
  clock : t.clock = s.clock
  now : t.now = s.now
  entries : t.peers.entries = s.peers.entries

theorem State.Withdraws.trans (h : s.Withdraws t) (k : t.Withdraws u) : s.Withdraws u := by
  refine ⟨k.settings.trans h.settings, by rw [k.line, h.line], k.clamp.trans h.clamp, ?_⟩
  obtain ⟨hm, hr, hd⟩ | ⟨hm, hd, hr⟩ := k.control
  · rw [hm, hr, hd]
    exact h.control
  · have hlt : s.control.mode.withdrawal < u.control.mode.withdrawal := by
      obtain ⟨hm', -⟩ | ⟨hm', -⟩ := h.control
      · rwa [← hm']
      · omega
    exact .inr ⟨hlt, hd, by rw [hr, h.settings]⟩

theorem State.WithdrawsOffClock.trans (h : s.WithdrawsOffClock t) (k : t.WithdrawsOffClock u) : s.WithdrawsOffClock u :=
  ⟨h.toWithdraws.trans k.toWithdraws, k.clock.trans h.clock, k.now.trans h.now, k.entries.trans h.entries⟩

/-- A state in which nothing of these parts has changed, but for a PROMPT cause. -/
theorem State.WithdrawsOffClock.of_eq (hset : t.settings = s.settings) (hline : t.line = { s.line with prompt := t.line.prompt })
    (hservo : t.servo = s.servo) (hcontrol : t.control = s.control) (hclock : t.clock = s.clock) (hnow : t.now = s.now)
    (hentries : t.peers.entries = s.peers.entries) : s.WithdrawsOffClock t :=
  ⟨⟨hset, hline, by rw [hservo], .inl (by rw [hcontrol]; exact ⟨rfl, rfl, rfl⟩)⟩, hclock, hnow, hentries⟩

theorem State.WithdrawsOffClock.refl (s : State) : s.WithdrawsOffClock s := .of_eq rfl rfl rfl rfl rfl rfl rfl

/-- R131: the timer and the flag follow a mode that only goes further. -/
theorem State.Withdraws.timerFollows (h : s.Withdraws t) : s.TimerFollows t := by
  unfold State.TimerFollows
  obtain ⟨hm, hr, hd⟩ | ⟨hm, hd, hr⟩ := h.control
  · rw [if_pos hm]
    exact ⟨hr, hd⟩
  · have hne : t.control.mode ≠ s.control.mode := fun e => by rw [e] at hm; omega
    rw [if_neg hne, hr]
    exact ⟨hd, by cases t.control.mode <;> rfl⟩

/-! ### Changes of mode, requests and responses -/

theorem Servo.enter_clampFlag (m : Mode) (v : Servo) : (v.enter m).clampFlag = v.clampFlag := by cases m <;> rfl

theorem Mode.withdrawal_lt_of_watchesCutoff {m : Mode} (h : m.watchesCutoff = true) : m.withdrawal < 3 := by
  revert h
  cases m <;> decide

theorem enterMode_withdraws {m : Mode} (h : s.control.mode.withdrawal < m.withdrawal) : s.WithdrawsOffClock (s.enterMode m) :=
  ⟨⟨rfl, rfl, Servo.enter_clampFlag m s.servo, .inr ⟨h, rfl, rfl⟩⟩, rfl, rfl, rfl⟩

theorem enterTrip_withdraws (code : TripCode) (h : s.control.mode.withdrawal < 3) : s.WithdrawsOffClock (s.enterTrip code) :=
  ⟨⟨rfl, rfl, Servo.enter_clampFlag .tripped s.servo, .inr ⟨h, rfl, rfl⟩⟩, rfl, rfl, rfl⟩

theorem changeMode_withdraws {m : Mode} (h : s.control.mode.withdrawal < m.withdrawal) : s.WithdrawsOffClock (s.changeMode m) := by
  have henter := enterMode_withdraws h
  obtain h' | ⟨-, hm, h'⟩ := changeMode_cases m s <;> rw [h']
  · exact henter
  · exact henter.trans (enterTrip_withdraws _ (Mode.withdrawal_lt_of_watchesCutoff hm))

theorem holdRequest_withdraws (s : State) : s.WithdrawsOffClock s.holdRequest := by
  obtain ⟨hm, h⟩ | ⟨-, h⟩ := holdRequest_cases s <;> rw [h]
  · exact changeMode_withdraws (by rw [hm]; decide)
  · exact .refl s

theorem withSequencer_withdraws (r : Sequencer × Bool) (s : State) : s.WithdrawsOffClock (s.withSequencer r) := by
  have hseq : s.WithdrawsOffClock { s with seq := r.1 } := .of_eq rfl rfl rfl rfl rfl rfl rfl
  unfold State.withSequencer
  split
  · exact hseq.trans (holdRequest_withdraws _)
  · exact hseq

theorem respond_withdraws (a : Policy) (s : State) : s.WithdrawsOffClock (s.respond a) := by
  obtain h | ⟨-, hm, h⟩ | ⟨-, hm, h⟩ := respond_cases a s <;> rw [h]
  · exact .refl s
  · exact changeMode_withdraws (by obtain hm | hm := hm <;> rw [hm] <;> decide)
  · exact changeMode_withdraws (by obtain hm | hm | hm := hm <;> rw [hm] <;> decide)

theorem riseResponse_withdraws (g : Nat) (s : State) : s.WithdrawsOffClock (s.riseResponse g) := by
  obtain h | ⟨-, -, h⟩ := riseResponse_cases g s <;> rw [h]
  · exact .refl s
  · exact respond_withdraws _ s

theorem putAlarm_withdraws (g : Nat) (s : State) : s.WithdrawsOffClock (s.putAlarm g) :=
  ⟨⟨rfl, rfl, rfl, .inl ⟨rfl, rfl, rfl⟩⟩, rfl, rfl, rfl⟩

theorem formAlarm_withdraws (s : State) : s.WithdrawsOffClock s.formAlarm := by
  obtain ⟨-, h⟩ | ⟨-, h⟩ | ⟨-, h⟩ := formAlarm_cases s <;> rw [h]
  · exact .refl s
  · exact putAlarm_withdraws _ s
  · exact (putAlarm_withdraws _ s).trans (riseResponse_withdraws _ _)

/-! ### The blocks that take the mark -/

theorem putCracks_withdraws (k : Cracks) (s : State) : s.WithdrawsOffClock (s.putCracks k) := by
  obtain ⟨-, h⟩ | ⟨-, h⟩ := putCracks_cases k s <;> rw [h]
  · exact .of_eq rfl rfl rfl rfl rfl rfl rfl
  · exact State.WithdrawsOffClock.trans (t := { s with cracks := k, line := { s.line with prompt := true } })
      (.of_eq rfl rfl rfl rfl rfl rfl rfl) (formAlarm_withdraws _)

/-- R98: an evaluation of the sites puts their records, and growth at one is a PROMPT cause beside. -/
theorem evaluateSites_withdraws (sig : RangesClosed) (s : State) : s.WithdrawsOffClock (s.evaluateSites sig) := by
  have hput := putCracks_withdraws (s.cracks.evaluate s.settings.sites sig) s
  unfold State.evaluateSites
  dsimp only
  split
  · exact hput.trans (.of_eq rfl rfl rfl rfl rfl rfl rfl)
  · exact hput

theorem recordsMark_withdraws (site : Nat) (s : State) : s.WithdrawsOffClock (s.recordsMark site) := by
  have hclosed : s.WithdrawsOffClock { s with recorder := s.recorder.mark s.settings.channels } := .of_eq rfl rfl rfl rfl rfl rfl rfl
  have hjudged := hclosed.trans (evaluateSites_withdraws (s.recorder.signal s.settings.channels) _)
  exact hjudged.trans (.of_eq rfl rfl rfl rfl rfl rfl rfl)

theorem scannerMark_withdraws (s : State) : s.WithdrawsOffClock s.scannerMark := .of_eq rfl rfl rfl rfl rfl rfl rfl

theorem programmeMark_withdraws (s : State) : s.Withdraws s.programmeMark :=
  (withSequencer_withdraws _ s).toWithdraws.trans ⟨rfl, rfl, rfl, .inl ⟨rfl, rfl, rfl⟩⟩

theorem handleMark_withdraws (first : Bool) (site : Nat) (s : State) : s.Withdraws (s.handleMark first site) := by
  have hscanner := (scannerMark_withdraws s).toWithdraws
  cases first with
  | true => exact (hscanner.trans (programmeMark_withdraws _)).trans (recordsMark_withdraws site _).toWithdraws
  | false => exact (hscanner.trans (recordsMark_withdraws site _).toWithdraws).trans (programmeMark_withdraws _)

/-! ## The new cycle -/

/-- R54: `t` holds the new cycle that the clock of `s` forms at a period offered, from the offsets that the entries of `s` hold, whose
flags are cleared. -/
def State.FormsCycle (s t : State) : Prop :=
  ∃ period, t.clock = s.clock.newCycle s.settings.points s.settings.lockWindow s.now period s.peers.validOffsets
    ∧ t.peers.entries = s.peers.clearOffsets.entries

theorem State.WithdrawsOffClock.formsCycle (h : s.WithdrawsOffClock t) (k : t.FormsCycle u) : s.FormsCycle u := by
  obtain ⟨period, hclock, hentries⟩ := k
  have hoffsets : t.peers.validOffsets = s.peers.validOffsets := by simp only [PeerTable.validOffsets, h.entries]
  refine ⟨period, ?_, ?_⟩
  · rw [hclock, h.clock, h.settings, h.now, hoffsets]
  · rw [hentries, PeerTable.clearOffsets_entries, PeerTable.clearOffsets_entries, h.entries]

theorem State.FormsCycle.offClock (h : s.FormsCycle t) (k : t.WithdrawsOffClock u) : s.FormsCycle u := by
  obtain ⟨period, hclock, hentries⟩ := h
  exact ⟨period, k.clock.trans hclock, k.entries.trans hentries⟩

theorem clockMark_formsCycle (s : State) : s.FormsCycle s.clockMark := ⟨_, rfl, rfl⟩

theorem programmeMark_formsCycle (s : State) : s.FormsCycle s.programmeMark :=
  (withSequencer_withdraws _ s).formsCycle (clockMark_formsCycle _)

/-- R52, R54: in either order of the blocks the clock forms its cycle from what it held before the mark. -/
theorem handleMark_formsCycle (first : Bool) (site : Nat) (s : State) : s.FormsCycle (s.handleMark first site) := by
  have hscanner := scannerMark_withdraws s
  cases first with
  | true => exact hscanner.formsCycle ((programmeMark_formsCycle _).offClock (recordsMark_withdraws site _))
  | false => exact (hscanner.trans (recordsMark_withdraws site _)).formsCycle (programmeMark_formsCycle _)

/-! ### The values of the new cycle -/

/-- R55: the mean is 0 where no offset is held. -/
theorem meanOffset_eq (l : List Int) : meanOffset l = if l.length = 0 then 0 else Int.tdiv l.sum l.length := by
  cases l <;> simp [meanOffset, divZ]

theorem trimOf_eq (nominal : Nat) (l : List Int) :
    trimOf nominal l = max (-(nominal / 64 : Nat) : Int) (min (nominal / 64 : Nat) (Int.tdiv (meanOffset l) 2)) :=
  clamp_eq_max_min (by omega) _

theorem lockOf_eq (window : Nat) (l : List Int) :
    lockOf window l = if l.length = 0 then .alone else if (meanOffset l).natAbs ≤ window then .locked else .seeking := by
  simp only [lockOf, List.length_eq_zero_iff]

/-- R55: the trim never takes the applied period below 0. -/
theorem newCycle_applied_eq (c : Clock) (points : List ScanPoint) (window now period : Nat) (l : List Int) :
    ((c.newCycle points window now period l).applied : Int) = period + trimOf period l := by
  have := trimOf_mem period l
  rw [Clock.newCycle_applied]
  omega

theorem scanTimes_getElem? {points : List ScanPoint} {k : Nat} {p : ScanPoint} (applied : Nat) (h : points[k]? = some p) :
    (scanTimes points applied)[k]? = some (p.time applied) := by
  simp [scanTimes, h]

theorem time_of_fires {p : ScanPoint} {f head : Nat} (applied : Nat) (hf : p.fraction = some f) (hh : p.head = some head) :
    p.time applied = some (f * applied / 256) := by
  simp [ScanPoint.time, hf, hh]

/-- R62: a point that is disabled or has no head gets no time. -/
theorem time_of_not_fires {p : ScanPoint} (applied : Nat) (h : p.fraction = none ∨ p.head = none) : p.time applied = none := by
  unfold ScanPoint.time
  split
  · simp_all
  · rfl

/-- R63: a fraction of 255 at most falls within the cycle. -/
theorem scanTime_lt {f applied : Nat} (hf : f ≤ 255) (ha : 0 < applied) : f * applied / 256 < applied := by
  apply Nat.div_lt_of_lt_mul
  exact Nat.mul_lt_mul_of_pos_right (by omega) ha

/-! ## The end of the mark -/

/-- R156: a BEAT composed after nothing but PROMPT causes reports its event from the line unit as it was before it. -/
theorem State.Withdraws.compose_reports (c : Cause) (h : s.Withdraws t) : s.Reports c (t.compose c) := by
  have hline := h.line
  unfold State.Reports
  rw [← h.clamp]
  refine compose_reportsWith c s t ?_ ?_ ?_ ?_ ?_ <;> rw [hline]
  exact ⟨rfl, rfl, rfl, rfl, rfl, rfl, rfl, rfl, rfl⟩

theorem compose_timerFollows (c : Cause) (h : s.TimerFollows t) : s.TimerFollows (t.compose c) := by
  obtain ⟨-, hcontrol, -⟩ := compose_keeps c t
  simpa only [State.TimerFollows, hcontrol] using h

theorem execCycleMark_of_running (first : Bool) (site : Nat) (h : s.running = true) :
    exec (.cycleMark first site) s = .next ((s.handleMark first site).compose .mark) := by
  show execCycleMark first site s = _
  rw [execCycleMark, if_pos h]

/-- Settles O23: the clock's part is `handleMark_formsCycle`, the report and the timer are `handleMark_withdraws`. -/
theorem aMarkFormsTheNewCycle : Obligations.AMarkFormsTheNewCycle := by
  intro first site s hrun
  refine ⟨_, execCycleMark_of_running first site hrun, ?_⟩
  have hw := handleMark_withdraws first site s
  obtain ⟨period, hclock, hentries⟩ := handleMark_formsCycle first site s
  obtain ⟨hkept, -⟩ := compose_keeps .mark (s.handleMark first site)
  rw [← hkept.clock] at hclock
  rw [← hkept.peers] at hentries
  have hreports := hw.compose_reports .mark
  have htimer := compose_timerFollows .mark hw.timerFollows
  generalize (s.handleMark first site).compose .mark = t at *
  have happlied : (t.clock.applied : Int) = period + trimOf period s.peers.validOffsets := by rw [hclock, newCycle_applied_eq]
  have htrim := trimOf_mem period s.peers.validOffsets
  have hnominal : t.clock.nominal = period := by rw [hclock, Clock.newCycle_nominal]
  have htimes : t.clock.times = scanTimes s.settings.points t.clock.applied := by rw [hclock]; rfl
  intro offsets m limit
  have hmean : meanOffset s.peers.validOffsets = m := meanOffset_eq _
  refine ⟨?_, ?_, by omega, by omega, ?_, ?_, ?_, ?_, ?_, ?_, hentries, hreports, htimer⟩
  · rw [hclock, Clock.newCycle_trim, trimOf_eq, hmean, ← hnominal]
  · rw [happlied, hclock, Clock.newCycle_nominal, Clock.newCycle_trim]
  · rw [hclock, Clock.newCycle_lock, lockOf_eq, hmean]; rfl
  · rw [hclock, Clock.newCycle_phase]
  · rw [hclock, Clock.newCycle_lastMark]
  · rw [hclock, Clock.newCycle_buffer, Clock.newCycle_nominal]
  · intro k p f head hp hf hh hle hpos
    rw [htimes, scanTimes_getElem? _ hp, time_of_fires _ hf hh]
    exact ⟨rfl, scanTime_lt hle hpos⟩
  · intro k p hp hnone
    rw [htimes, scanTimes_getElem? _ hp, time_of_not_fires _ hnone]

end Sys2Proof.Machine
end

section
/-! The phase offset of an arriving MARK beat (R58 to R60): what an arrival leaves in its own entry, and which beats qualify. -/

namespace Sys2Proof.Machine

variable {s : State}

/-! ## Reading a BEAT's codes -/

/-- R114: the codes 1..8 are those of a frame mode. -/
theorem Mode.ofCode_isSome {n : Nat} (h₁ : 1 ≤ n) (h₂ : n ≤ 8) : ∃ m, Mode.ofCode n = some m := by
  interval_cases n <;> exact ⟨_, rfl⟩

theorem Cause.ofCode_eq_mark (n : Nat) : Cause.ofCode n = some .mark ↔ n = 1 := by
  unfold Cause.ofCode
  split <;> simp_all

/-! ## What an arrival leaves in the peer view table -/

/-- R115, R118, R120: of the table, what follows the capture at an arrival changes G alone. -/
theorem arrival_entries (n : Nat) (m : Mode) (v : BeatView) (s : State) :
    (s.arrival n m v).peers.entries = ((s.takeBeat n m v).captureOffset n v).peers.entries := by
  have hresponse (b : Bool) (a : Policy) (u : State) : (if b then u.respond a else u).peers = u.peers := by
    cases b with
    | true => exact (respond_keeps a u).peers
    | false => rfl
  unfold State.arrival
  rw [(examineBarrier_keeps _).peers, hresponse]
  exact (formAlarm_withdraws _).entries

theorem takeBeat_entry {n : Nat} (m : Mode) (v : BeatView) (h₁ : 1 ≤ n) (h₂ : n ≤ s.peers.entries.length) :
    (s.takeBeat n m v).peers.entry n = (s.peers.entry n).arrive m v :=
  entry_setEntry_self _ _ h₁ h₂

/-- R117: an entry just heard is counted by its group alone. -/
theorem counted_arrive_iff (own : Nat) (m : Mode) (v : BeatView) (e : Peer) :
    (e.arrive m v).counted own = true ↔ v.group = own ∧ own ≠ 0 := by
  simp only [Peer.counted, Bool.and_eq_true, Bool.or_eq_true, decide_eq_true_eq]
  simp

/-- R58: when a beat just taken into its entry gives a phase offset. -/
theorem capturesOffset_takeBeat_iff (e : Peer) (n : Nat) (m : Mode) (v : BeatView) :
    (s.takeBeat n m v).capturesOffset (e.arrive m v) v = true
      ↔ s.running = true ∧ v.cause = some .mark ∧ v.group = s.settings.group ∧ s.settings.group ≠ 0
          ∧ v.period = s.clock.nominal ∧ v.deferral < 65535 := by
  have hkept : (s.takeBeat n m v).capturesOffset (e.arrive m v) v = s.capturesOffset (e.arrive m v) v := rfl
  rw [hkept]
  simp only [State.capturesOffset, Bool.and_eq_true, counted_arrive_iff, Peer.arrive_state, decide_eq_true_eq, and_true, and_assoc]

/-- R58 to R60: the entry of the beat's station after its arrival, with the offset where the beat gives one. -/
theorem arrival_entry {n : Nat} (m : Mode) (v : BeatView) (h₁ : 1 ≤ n) (h₂ : n ≤ s.peers.entries.length) :
    (s.arrival n m v).peers.entry n =
      if (s.takeBeat n m v).capturesOffset ((s.peers.entry n).arrive m v) v then
        ((s.peers.entry n).arrive m v).withOffset (phaseOffset s.clock.phase s.clock.applied (beatTimeUs s.line.bitUs) v.deferral)
      else (s.peers.entry n).arrive m v := by
  have hentry : (s.arrival n m v).peers.entry n = ((s.takeBeat n m v).captureOffset n v).peers.entry n := by
    rw [PeerTable.entry, arrival_entries, PeerTable.entry]
  have htaken := takeBeat_entry m v h₁ h₂
  rw [hentry]
  obtain ⟨hc, h⟩ | ⟨hc, h⟩ := captureOffset_cases n v (s.takeBeat n m v) <;> rw [h] <;> rw [htaken] at hc
  · rw [htaken, hc]; rfl
  · have hlen : n ≤ (s.takeBeat n m v).peers.entries.length := by simpa [State.takeBeat] using h₂
    rw [if_pos hc, htaken]
    exact entry_setEntry_self _ _ h₁ hlen

/-- R114, R146: a BEAT of another frame station whose group and mode code are in their ranges is an arrival of its mode. -/
theorem execBeatArrival_arrival {source : Byte} {body : List Byte} (hl : s.line.line = .active ∨ s.line.line = .listenOnly)
    (hr : s.line.assembler = .ready) (h₁ : 1 ≤ source.toNat) (h₂ : source.toNat ≤ 16) (hs : source.toNat ≠ s.startUp.station)
    (hc₁ : 1 ≤ byteAt body 1) (hc₂ : byteAt body 1 ≤ 8) (hg : byteAt body 0 ≤ 4) :
    ∃ m, exec (.beatArrival source body) s = .next (s.arrival source.toNat m (readBeat body)).settle := by
  obtain ⟨m, hm⟩ := Mode.ofCode_isSome hc₁ hc₂
  have hcode : Mode.ofCode (readBeat body).modeCode = some m := hm
  have hgroup : (readBeat body).group ≤ 4 := hg
  refine ⟨m, ?_⟩
  have hreceive : s.receiveBeat source.toNat body = s.arrival source.toNat m (readBeat body) := by
    simp [State.receiveBeat, hs, hcode, hgroup, frameStation, h₁, h₂]
  show execBeatArrival source body s = _
  rw [execBeatArrival, arrive_of_ready _ _ hl hr, hreceive]

/-- Settles O34: the entry after the arrival is `arrival_entry`, and its offset is bounded by `phaseOffset_mem`. -/
theorem aMarkBeatGivesAPhaseOffset : Obligations.AMarkBeatGivesAPhaseOffset := by
  intro source body s hl hr h₁ h₂ hs hc₁ hc₂ hg hlen happlied old qualifies
  obtain ⟨m, hexec⟩ := execBeatArrival_arrival hl hr h₁ h₂ hs hc₁ hc₂ hg
  have hentry := arrival_entry (s := s) m (readBeat body) h₁ (hlen ▸ h₂)
  have hq : (s.takeBeat source.toNat m (readBeat body)).capturesOffset (old.arrive m (readBeat body)) (readBeat body) = true
      ↔ qualifies := by
    rw [capturesOffset_takeBeat_iff]
    exact and_congr_right' (and_congr_left' (Cause.ofCode_eq_mark _))
  obtain ⟨hkept, -⟩ := settle_keeps (s.arrival source.toNat m (readBeat body))
  refine ⟨_, hexec, ?_⟩
  rw [hkept.peers, hentry]
  refine ⟨fun h => ?_, fun h => ?_⟩
  · rw [if_pos (hq.mpr h)]
    exact ⟨rfl, phaseOffset_mem _ _ _ happlied⟩
  · rw [if_neg (mt hq.mp h)]
    exact ⟨rfl, rfl⟩

end Sys2Proof.Machine
end

section
/-! The arbiter's choice at the end of a chain or of a ladder read (R71): what each of its three outcomes leaves in the scanner, by
the requests that wait, and that both completions hand the scanner to it with the accumulator cleared. -/

namespace Sys2Proof.Machine

variable {s : State}

/-! ## The lowest place at which a test holds -/

theorem lowest_eq_some_of_least {α : Type} {test : α → Bool} {l : List α} {k : Nat} {x : α} (hx : l[k]? = some x)
    (htest : test x = true) (hbelow : ∀ j y, j < k → l[j]? = some y → test y = false) : lowest test l = some k := by
  obtain ⟨hk, -⟩ := List.getElem?_eq_some_iff.mp hx
  refine List.find?_range_eq_some.mpr ⟨by simpa [hx] using htest, List.mem_range.mpr hk, fun j hj => ?_⟩
  have hy : l[j]? = some l[j] := List.getElem?_eq_getElem (hj.trans hk)
  simpa [hy] using hbelow j _ hj hy

theorem lowest_eq_none_of_forall {α : Type} {test : α → Bool} {l : List α} (h : ∀ x ∈ l, test x = false) :
    lowest test l = none := by
  cases hl : lowest test l with
  | none => rfl
  | some k =>
    obtain ⟨x, hx, htest, -⟩ := lowest_eq_some hl
    rw [h x (List.mem_of_getElem? hx)] at htest
    contradiction

/-! ## The requests put in service -/

/-- R73, R76: a chain that waits goes into service at its head, and its request keeps its flag. -/
theorem beginChain_of_pending (c : Settings) (z : Scanner) {k head : Nat} {carried atMark : Bool}
    (hpending : z.chains[k]? = some (.pending carried atMark)) (hhead : (pointAt c k).head = some head) :
    z.beginChain c k = { z with chains := z.chains.set k .none, converter := .chain k head 0 0 carried
                                late := if carried then min 65535 (z.late + 1) else z.late
                                input := (recordAt c head).channel } := by
  have hflag : (z.request k).isCarried = carried := by
    simp [Scanner.request, List.getD_eq_getElem?_getD, hpending, ChainRequest.isCarried]
  simp only [Scanner.beginChain, hflag, hhead, Option.getD_some, satAdd_eq_min]

/-- R77: a ladder read goes into service at its site's ladder. -/
theorem beginLadder_of_ladder (c : Settings) (z : Scanner) {i ladder : Nat} (h : (siteConst c i).ladder = some ladder) :
    z.beginLadder c i = { z with ladders := z.ladders.set i false, converter := .ladder i 0 0, input := 32 + ladder } := by
  rw [Scanner.beginLadder, h, Option.getD_some]

/-! ## The arbiter's outcomes (R71) -/

/-- R71: the lowest-numbered chain that waits is chosen. -/
theorem choose_of_pending_chain (c : Settings) (z : Scanner) {k : Nat} {carried atMark : Bool}
    (hpending : z.chains[k]? = some (.pending carried atMark))
    (hbelow : ∀ j x, j < k → z.chains[j]? = some x → x.waits = false) : z.choose c = z.beginChain c k := by
  rw [Scanner.choose, lowest_eq_some_of_least hpending rfl hbelow]

/-- R71: where no chain waits, the lowest-numbered ladder that waits is chosen. -/
theorem choose_of_posted_ladder (c : Settings) (z : Scanner) {i : Nat} (hchains : ∀ x ∈ z.chains, x.waits = false)
    (hposted : z.ladders[i]? = some true) (hbelow : ∀ j < i, z.ladders[j]? = some false) : z.choose c = z.beginLadder c i := by
  have hlowest : lowest id z.ladders = some i := by
    refine lowest_eq_some_of_least hposted rfl fun j y hj hy => ?_
    rw [hbelow j hj] at hy
    exact (Option.some.inj hy).symm
  rw [Scanner.choose, lowest_eq_none_of_forall hchains, hlowest]

/-- R71: where nothing waits, the converter becomes idle. -/
theorem choose_of_no_request (c : Settings) (z : Scanner) (hchains : ∀ x ∈ z.chains, x.waits = false)
    (hladders : ∀ x ∈ z.ladders, x = false) : z.choose c = { z with converter := .idle } := by
  rw [Scanner.choose, lowest_eq_none_of_forall hchains, lowest_eq_none_of_forall (test := id) hladders]

/-- R71: no choice touches the accumulator or the counts of merged requests. -/
theorem choose_keeps (c : Settings) (z : Scanner) :
    (z.choose c).accumulator = z.accumulator ∧ (z.choose c).overruns = z.overruns ∧ (z.choose c).ladderMerges = z.ladderMerges := by
  obtain ⟨_, -, h⟩ | ⟨-, _, -, h⟩ | ⟨-, -, h⟩ := choose_cases c z <;> rw [h] <;> exact ⟨rfl, rfl, rfl⟩

/-- R71, R76: where no chain waits, the choice leaves the chain requests and the count of late service. -/
theorem choose_keeps_chains (c : Settings) (z : Scanner) (h : ∀ x ∈ z.chains, x.waits = false) :
    (z.choose c).chains = z.chains ∧ (z.choose c).late = z.late := by
  obtain ⟨_, hk, -⟩ | ⟨-, _, -, hc⟩ | ⟨-, -, hc⟩ := choose_cases c z
  · rw [lowest_eq_none_of_forall h] at hk
    contradiction
  all_goals
    rw [hc]
    exact ⟨rfl, rfl⟩

/-! ## The completions -/

/-- R74, R77: the scanner with its accumulator cleared, as a completion hands it to the arbiter. -/
def Scanner.clearSum (z : Scanner) : Scanner := { z with accumulator := 0 }

/-- R73: the last record of a chain ends the chain. -/
theorem execRecordComplete_last {codes : List Half} {k n sample us : Nat} {kept : Bool} {record : ScanRecord}
    (hserves : s.scanner.converter = .chain k n sample us kept) (hrecord : s.settings.scans[n]? = some record)
    (hlink : record.link = none) (hsamples : sample + codes.length = record.samples) :
    ∃ t, exec (.recordComplete codes) s = .next t ∧ t.scanner = s.scanner.clearSum.choose s.settings := by
  have hat : recordAt s.settings n = record := by simp [recordAt, List.getD_eq_getElem?_getD, hrecord]
  have hended : s.takeCodes (recordAt s.settings n).samples codes (State.endRecord k n kept codes) = s.endRecord k n kept codes := by
    rw [State.takeCodes, if_pos (by rw [hserves, Converter.sample_chain, hsamples, hat])]
  refine ⟨s.endRecord k n kept codes, ?_, ?_⟩
  · show execRecordComplete codes s = _
    simp only [execRecordComplete, hserves, hended]
  · show s.scanner.afterRecord s.settings k n kept = _
    simp only [Scanner.afterRecord, hat, hlink, Scanner.clearSum]

/-- R77: the fourth sample of a ladder read ends it. -/
theorem execLadderReadComplete_last {codes : List Half} {site sample us : Nat}
    (hserves : s.scanner.converter = .ladder site sample us) (hsamples : sample + codes.length = Config.ladderSamples) :
    ∃ t, exec (.ladderReadComplete codes) s = .next t ∧ t.scanner = s.scanner.clearSum.choose s.settings := by
  have hended : s.takeCodes Config.ladderSamples codes (State.endLadder site codes) = s.endLadder site codes := by
    rw [State.takeCodes, if_pos (by rw [hserves, Converter.sample_ladder, hsamples])]
  refine ⟨s.endLadder site codes, ?_, rfl⟩
  show execLadderReadComplete codes s = _
  simp only [execLadderReadComplete, hserves, hended]

/-- Settles O31: both completions hand the scanner to the arbiter, and the requests that wait decide its outcome. -/
theorem theArbiterChoosesTheNextWork : Obligations.TheArbiterChoosesTheNextWork := by
  intro i s hcompletes
  have hchosen : ∃ t, exec i s = .next t ∧ t.scanner = s.scanner.clearSum.choose s.settings := by
    obtain ⟨codes, k, n, sample, us, kept, record, rfl, hserves, hrecord, hlink, hsamples⟩
      | ⟨codes, site, sample, us, rfl, hserves, hsamples⟩ := hcompletes
    · exact execRecordComplete_last hserves hrecord hlink hsamples
    · exact execLadderReadComplete_last hserves hsamples
  obtain ⟨t, hexec, ht⟩ := hchosen
  obtain ⟨hsum, hoverruns, hmerges⟩ := choose_keeps s.settings s.scanner.clearSum
  refine ⟨t, hexec, ?_⟩
  rw [ht]
  refine ⟨hsum, hoverruns, hmerges, ?chain, fun hnone => ?noChain⟩
  case chain =>
    intro j head carried atMark hpending hbelow hhead
    rw [choose_of_pending_chain s.settings s.scanner.clearSum hpending hbelow,
      beginChain_of_pending s.settings s.scanner.clearSum hpending hhead]
    exact ⟨rfl, rfl, rfl, rfl, rfl⟩
  case noChain =>
    obtain ⟨hchains, hlate⟩ := choose_keeps_chains s.settings s.scanner.clearSum hnone
    refine ⟨hchains, hlate, fun j ladder hposted hbelow hladder => ?_, fun hidle => ?_⟩
    · rw [choose_of_posted_ladder s.settings s.scanner.clearSum hnone hposted hbelow,
        beginLadder_of_ladder s.settings s.scanner.clearSum hladder]
      exact ⟨rfl, rfl, rfl⟩
    · rw [choose_of_no_request s.settings s.scanner.clearSum hnone hidle]
      exact ⟨rfl, rfl, rfl⟩

end Sys2Proof.Machine
end

section
/-! The close of the cycle at the channels (R85 to R90): the recorder that a mark leaves in either order of the blocks, and the
three ways in which a channel is closed. -/

namespace Sys2Proof.Machine

/-! ## The recorder across a mark -/

theorem putCracks_recorder (k : Cracks) (s : State) : (s.putCracks k).recorder = s.recorder := by
  obtain ⟨-, h⟩ | ⟨-, h⟩ := putCracks_cases k s <;> rw [h]
  obtain ⟨-, -, hrecorder, -⟩ := formAlarm_keeps { s with cracks := k, line := { s.line with prompt := true } }
  exact hrecorder

/-- R98: the crack monitor takes the signal of the recorder, and leaves its records alone. -/
theorem evaluateSites_recorder (sig : RangesClosed) (s : State) : (s.evaluateSites sig).recorder = s.recorder := by
  have hput := putCracks_recorder (s.cracks.evaluate s.settings.sites sig) s
  unfold State.evaluateSites
  dsimp only
  split <;> exact hput

theorem recordsMark_recorder (site : Nat) (s : State) :
    (s.recordsMark site).recorder = s.recorder.mark s.settings.channels :=
  evaluateSites_recorder _ { s with recorder := s.recorder.mark s.settings.channels }

theorem programmeMark_recorder (s : State) : s.programmeMark.recorder = s.recorder := by
  obtain ⟨-, -, hrecorder, -⟩ := withSequencer_keeps (s.seq.mark s.settings.segments s.control.mode s.barrierMet) s
  exact hrecorder

/-- R52: in either order of the blocks the recorder closes the records and constants it held before the mark. -/
theorem handleMark_recorder (first : Bool) (site : Nat) (s : State) :
    (s.handleMark first site).recorder = s.recorder.mark s.settings.channels := by
  cases first with
  | true =>
    show (s.scannerMark.programmeMark.recordsMark site).recorder = _
    rw [recordsMark_recorder, programmeMark_recorder, (programmeMark_withdraws s.scannerMark).settings]
    rfl
  | false =>
    show (s.scannerMark.recordsMark site).programmeMark.recorder = _
    rw [programmeMark_recorder, recordsMark_recorder]
    rfl

theorem mark_channels_getElem? {consts : List ChannelConst} {m : Recorder} {k : Nat} {c : ChannelConst} {r : Channel}
    (hc : consts[k]? = some c) (hr : m.channels[k]? = some r) : (m.mark consts).channels[k]? = some (r.close c) := by
  simp [Recorder.mark, List.getElem?_zipWith, hc, hr]

theorem nextTotal_eq_min (m : Recorder) : m.nextTotal = min 4294967295 (m.total + 1) := satAdd_eq_min _ _ _

/-! ## The three ways in which a channel is closed -/

theorem damageAfter_eq (endurance range damage : Nat) :
    damageAfter endurance range damage
      = if endurance ≤ range then min (2 ^ 48 - 1) (damage + (range / 8) ^ 3) else damage := by
  rw [damageAfter, satAdd_eq_min]
  norm_num

/-- R85: the bin at place `k` counts one more, and every other one stands. -/
theorem getElem?_modify_satAdd (top k : Nat) {l : List Nat} {i n : Nat} (h : l[i]? = some n) :
    (l.modify k fun m => satAdd top m 1)[i]? = some (if i = k then min top (n + 1) else n) := by
  rw [List.getElem?_modify, h, ← satAdd_eq_min]
  by_cases hi : i = k
  · simp [hi]
  · simp [hi, Ne.symm hi]

theorem close_of_sampled {c : ChannelConst} {r : Channel} (he : c.enabled = true) (hs : 1 ≤ r.samples) :
    r.close c = { r.closeRange c with samples := 0 } := by
  rw [Channel.close, if_pos he, if_neg (Nat.one_le_iff_ne_zero.mp hs)]

/-- R85 to R87: of a channel with samples, the close changes the last range, the bins, the damage and the watch flag. -/
theorem close_record_of_sampled {c : ChannelConst} {r : Channel} (he : c.enabled = true) (hs : 1 ≤ r.samples) :
    r.close c = { r with
      samples := 0, lastRange := r.range, bins := (r.close c).bins
      damage := if c.endurance ≤ r.range then min (2 ^ 48 - 1) (r.damage + (r.range / 8) ^ 3) else r.damage
      watch := watchAfter c.watchAt (r.close c).damage r.watch } := by
  rw [← damageAfter_eq, close_of_sampled he hs]
  rfl

theorem close_bins_of_sampled {c : ChannelConst} {r : Channel} (he : c.enabled = true) (hs : 1 ≤ r.samples) :
    (r.close c).bins = r.bins.modify (binOf c.binWidth r.range) fun n => satAdd 4294967295 n 1 := by
  rw [close_of_sampled he hs]
  rfl

theorem close_of_missed {c : ChannelConst} {r : Channel} (he : c.enabled = true) (hs : ¬ 1 ≤ r.samples) :
    r.close c = { r with samples := 0, missed := min 4294967295 (r.missed + 1) } := by
  rw [Channel.close, if_pos he, if_pos (by omega), satAdd_eq_min]

theorem close_of_disabled {c : ChannelConst} {r : Channel} (he : ¬ c.enabled = true) :
    r.close c = { r with samples := 0 } := by
  rw [Channel.close, if_neg he]

/-- Settles O24: both orders of the blocks leave `Recorder.mark`, and the channel's close has its three cases. -/
theorem aMarkClosesTheChannels : Obligations.AMarkClosesTheChannels := by
  intro first site s k c r hrun hc hr
  obtain ⟨⟨-, -, hkept, -⟩, -⟩ := compose_keeps .mark (s.handleMark first site)
  have hrecorder : ((s.handleMark first site).compose .mark).recorder = s.recorder.mark s.settings.channels :=
    hkept.trans (handleMark_recorder first site s)
  refine ⟨_, r.close c, execCycleMark_of_running first site hrun, ?_⟩
  rw [hrecorder]
  refine ⟨mark_channels_getElem? hc hr, nextTotal_eq_min _, rfl, ?_⟩
  by_cases he : c.enabled = true
  · by_cases hs : 1 ≤ r.samples
    · have hbins := close_bins_of_sampled he hs
      rw [if_pos ⟨he, hs⟩]
      refine ⟨close_record_of_sampled he hs, ?_, fun i n hn => ?_⟩ <;> rw [hbins]
      · exact List.length_modify _ _ _
      · exact getElem?_modify_satAdd _ _ hn
    · rw [if_neg (fun h => hs h.2), if_pos he]
      exact close_of_missed he hs
  · rw [if_neg (fun h => he h.1), if_neg he]
    exact close_of_disabled he

end Sys2Proof.Machine
end

section
/-! What the mode controller's decision on a directive leaves (R132, R159, R160), and the two directives that end in STANDBY: STOP and
RESET_TRIP (R136). -/

namespace Sys2Proof.Machine

variable {s u : State} {d : Directive}

/-! ## The end of a directive -/

/-- A composition of a BEAT leaves the seen epoch and the recorded outcome. -/
theorem compose_seenEpoch_outcome (c : Cause) (s : State) :
    (s.compose c).line.seenEpoch = s.line.seenEpoch ∧ (s.compose c).line.outcome = s.line.outcome := by
  unfold State.compose LineUnit.wake
  repeat' split
  all_goals exact ⟨rfl, rfl⟩

/-- R158, R159: a directive that reaches the mode controller is obeyed, with its epoch recorded. -/
theorem State.Adopts.directive (h : s.Adopts d) (code : Byte) (action : State → Decision) :
    s.directive code d action = ((s.seeEpoch d.epoch).obey action).settle := by
  obtain ⟨hline, hready, hsource, hsource', hmask, o, hseen, hnewer⟩ := h
  have hnames : maskNames d.mask.toNat s.settings.group = true := by
    unfold maskNames bitOf
    split <;> simp_all
  have haddressed : s.addressed d = true := by
    simp [State.addressed, consoleStation, hsource, hsource', hnames]
  exact directive_of_adopts code d action hline hready haddressed hseen (decide_eq_true hnewer)

/-- R132: outside CFG_FAULT the action decides. -/
theorem State.Adopts.directive_of_decided (h : s.Adopts d) (code : Byte) {action : State → Decision} {o : DirectiveOutcome}
    (hmode : s.control.mode ≠ .cfgFault) (haction : action (s.seeEpoch d.epoch) = (o, u)) :
    s.directive code d action = (u.record o).settle := by
  have hmode' : (s.seeEpoch d.epoch).control.mode ≠ .cfgFault := hmode
  rw [h.directive, State.obey, State.judge, if_neg hmode', haction]

theorem record_settle (o : DirectiveOutcome) (s : State) : (s.record o).settle = (s.record o).compose .prompt := rfl

/-- R132, R160: the record of an outcome and its BEAT, where the decision has set a PROMPT cause at most in the line unit. -/
theorem record_settle_reports (o : DirectiveOutcome) (hline : u.line = { s.line with seenEpoch := some d.epoch, prompt := u.line.prompt })
    (hclamp : u.servo.clampFlag = s.servo.clampFlag) (hrefusals : u.control.refusals = s.control.refusals) :
    s.Records d o (u.record o).settle ∧ s.Reports .prompt (u.record o).settle := by
  obtain ⟨-, hcontrol, -⟩ := compose_keeps .prompt (u.record o)
  obtain ⟨hseen, houtcome⟩ := compose_seenEpoch_outcome .prompt (u.record o)
  rw [record_settle]
  refine ⟨⟨?_, ?_, ?_⟩, ?_⟩
  · rw [hseen, State.record_line, hline]
  · rw [houtcome, State.record_line]
  · rw [hcontrol, State.record_control, hrefusals, satAdd_eq_min]
  · unfold State.Reports
    rw [← hclamp]
    refine compose_reportsWith .prompt s (u.record o) ?_ ?_ ?_ ?_ ?_ <;> rw [State.record_line, hline]
    exact ⟨rfl, rfl, rfl, rfl, rfl, rfl, rfl, rfl, rfl⟩

/-- R132: a refusal leaves all but the seen epoch, the outcome and the refusal count. -/
theorem seeEpoch_record_refused {o : DirectiveOutcome} (ho : o ≠ .adopted) :
    s.Refused d o ((s.seeEpoch d.epoch).record o).settle := by
  obtain ⟨hkept, hcontrol, hseq, hservo⟩ := settle_keeps ((s.seeEpoch d.epoch).record o)
  obtain ⟨hrecords, hreports⟩ := record_settle_reports (s := s) (u := s.seeEpoch d.epoch) (d := d) o rfl rfl rfl
  refine ⟨hrecords, hreports, hkept, hservo, hseq, ?_⟩
  rw [hcontrol, State.record_control, if_neg ho, satAdd_eq_min, State.seeEpoch_control]

/-- A directive whose action refuses it as it finds the node is refused. -/
theorem State.Adopts.refused {o : DirectiveOutcome} {action : State → Decision} (h : s.Adopts d) (code : Byte)
    (hmode : s.control.mode ≠ .cfgFault) (haction : action (s.seeEpoch d.epoch) = State.refuse o (s.seeEpoch d.epoch))
    (ho : o ≠ .adopted) : s.Refused d o (s.directive code d action) := by
  rw [h.directive_of_decided code hmode haction]
  exact seeEpoch_record_refused ho

/-- R132: in CFG_FAULT every directive is refused with REFUSED_MODE. -/
theorem State.Adopts.refused_of_cfgFault (h : s.Adopts d) (code : Byte) (action : State → Decision)
    (hmode : s.control.mode = .cfgFault) : s.Refused d .refusedMode (s.directive code d action) := by
  have hmode' : (s.seeEpoch d.epoch).control.mode = .cfgFault := hmode
  rw [h.directive, State.obey, State.judge, if_pos hmode']
  exact seeEpoch_record_refused (by decide)

/-! ## STANDBY -/

/-- `t` stands in STANDBY by an adopted directive (R18, R21, R26, R28, R45): the outcome is recorded and reported, the valve is
released, the integrator, the tracking counter and the envelope are 0, and nothing else but the mode controller has changed. -/
def State.RestsAdopted (d : Directive) (s t : State) : Prop :=
  s.Records d .adopted t ∧ s.Reports .prompt t ∧ s.RecordsKept t
    ∧ t.servo = { s.servo with enable := false, buffer := .idle, output := .idle, integ := 0, tracking := 0,
                               clampFlag := t.servo.clampFlag }
    ∧ t.seq = { s.seq with envelope := 0, softStep := none }

/-- R127, R131, R142: the adopted entry to STANDBY, from a mode controller `c` that the decision leaves. -/
theorem standby_restsAdopted {c : Control} (hopen : s.servo.cutoff = false) (hrefusals : c.refusals = s.control.refusals) :
    let t := ((State.changeMode .standby { s.seeEpoch d.epoch with control := c }).record .adopted).settle
    s.RestsAdopted d t
      ∧ t.control = { c with mode := .standby, qAcc := 0, release := none, released := false
                             alarm := decide (2 ≤ s.peers.groupAlarm) } := by
  intro t
  have hentry : t = ((State.enterMode .standby { s.seeEpoch d.epoch with control := c }).record .adopted).settle :=
    congrArg (fun v => (State.record .adopted v).settle) (changeMode_of_open .standby hopen)
  rw [hentry]
  generalize hu : State.enterMode .standby { s.seeEpoch d.epoch with control := c } = u
  obtain ⟨hkept, hcontrol, hseq, hservo⟩ := settle_keeps (u.record .adopted)
  obtain ⟨hrecords, hreports⟩ :=
    record_settle_reports (s := s) (u := u) (d := d) .adopted (by rw [← hu]; rfl) (by rw [← hu]; rfl) (by rw [← hu]; exact hrefusals)
  refine ⟨⟨hrecords, hreports, ?_, ?_, ?_⟩, ?_⟩
  · subst hu
    exact hkept
  · rw [hservo, State.record_servo, ← hu]
    rfl
  · rw [hseq, State.record_seq, ← hu]
    rfl
  · rw [hcontrol, State.record_control, ← hu]
    simp [Control.enter, qAtEntry, releaseAtEntry, alarmPin]

/-! ## STOP and RESET_TRIP (R136) -/

theorem decideStop_of_parked (h : s.control.mode = .parked) : s.decideStop = (s.changeMode .standby).adopt := by
  simp [State.decideStop, h]

theorem decideStop_of_not_parked (h : s.control.mode ≠ .parked) : s.decideStop = s.refuse .refusedMode := by
  cases hm : s.control.mode <;> simp_all [State.decideStop]

/-- R136: a STOP enters STANDBY from PARKED. -/
theorem stop_of_parked (h : s.Adopts d) (hmode : s.control.mode = .parked) (hopen : s.servo.cutoff = false) :
    s.RestsAdopted d (s.directive 4#8 d State.decideStop)
      ∧ (s.directive 4#8 d State.decideStop).control = { s.control with
          mode := .standby, qAcc := 0, release := none, released := false, alarm := decide (2 ≤ s.peers.groupAlarm) } := by
  rw [h.directive_of_decided 4#8 (by simp [hmode]) (decideStop_of_parked (s := s.seeEpoch d.epoch) hmode)]
  exact standby_restsAdopted (c := s.control) hopen rfl

/-- R132, R136: a STOP in any other mode is refused. -/
theorem stop_refused (h : s.Adopts d) (hmode : s.control.mode ≠ .parked) :
    s.Refused d .refusedMode (s.directive 4#8 d State.decideStop) := by
  by_cases hcfg : s.control.mode = .cfgFault
  · exact h.refused_of_cfgFault _ _ hcfg
  · exact h.refused _ hcfg (decideStop_of_not_parked hmode) (by decide)

/-- R28, R136: a RESET_TRIP enters STANDBY from TRIPPED, with the trip code cleared. -/
theorem resetTrip_of_open (h : s.Adopts d) (hmode : s.control.mode = .tripped) (hopen : s.servo.cutoff = false) :
    s.RestsAdopted d (s.directive 5#8 d State.decideResetTrip)
      ∧ (s.directive 5#8 d State.decideResetTrip).control = { s.control with
          mode := .standby, trip := .none, qAcc := 0, release := none, released := false
          alarm := decide (2 ≤ s.peers.groupAlarm) } := by
  have hdecided : (s.seeEpoch d.epoch).decideResetTrip
      = (State.changeMode .standby { s.seeEpoch d.epoch with control := { s.control with trip := .none } }).adopt := by
    simp [State.decideResetTrip, hmode, hopen]
  rw [h.directive_of_decided 5#8 (by simp [hmode]) hdecided]
  exact standby_restsAdopted (c := { s.control with trip := .none }) hopen rfl

/-- R132, R136: a RESET_TRIP in any other mode is refused. -/
theorem resetTrip_refused (h : s.Adopts d) (hmode : s.control.mode ≠ .tripped) :
    s.Refused d .refusedMode (s.directive 5#8 d State.decideResetTrip) := by
  by_cases hcfg : s.control.mode = .cfgFault
  · exact h.refused_of_cfgFault _ _ hcfg
  · exact h.refused _ hcfg (if_pos hmode) (by decide)

/-- R136: a RESET_TRIP is refused while the cutoff is asserted. -/
theorem resetTrip_refused_of_cutoff (h : s.Adopts d) (hmode : s.control.mode = .tripped) (hcutoff : s.servo.cutoff = true) :
    s.Refused d .refusedCutoff (s.directive 5#8 d State.decideResetTrip) :=
  h.refused _ (by simp [hmode]) (by simp [State.decideResetTrip, hmode, hcutoff]) (by decide)

/-- Settles O42: each directive by the frame mode, and RESET_TRIP in TRIPPED by the cutoff. -/
theorem stopAndResetTripAreDecidedByTheMode : Obligations.StopAndResetTripAreDecidedByTheMode := by
  intro d s h atRest
  refine ⟨⟨_, rfl, ?stop⟩, _, rfl, ?resetTrip⟩
  case stop =>
    split
    next hparked => exact fun hopen => stop_of_parked h hparked hopen
    next hother => exact stop_refused h hother
  case resetTrip =>
    split
    next hother => exact resetTrip_refused h hother
    next htripped =>
      have hmode : s.control.mode = .tripped := not_not.mp htripped
      split
      next hcutoff => exact resetTrip_refused_of_cutoff h hmode hcutoff
      next hopen => exact resetTrip_of_open h hmode (Bool.eq_false_iff.mpr hopen)

end Sys2Proof.Machine
end

section
/-! A servo tick at the mode controller (R128 to R131, R138, R156). The load servo and the recorder take part in the frame mode by a trip
alone, so that a tick without one leaves the mode controller as the mode controller and the sequencer do, in the order the tick takes
them; and whatever the blocks do, the mode goes one way, which decides the timer and the report. -/

namespace Sys2Proof.Machine

variable {s t u : State}

/-! ## What a tick leaves of the timer and the line unit -/

/-- How far a mode lies on the way on which a servo tick can take the frame (R130, R138, R139). -/
def Mode.tickStage : Mode → Nat
  | .run | .parked => 1
  | .hold => 2
  | .tripped => 3
  | _ => 0

/-- What the blocks' work at a tick does to the constants, the line unit, the clamp flag and the mode: the mode stands with its
release timer and its released flag, or has gone further on its way with them as its entry leaves them (R131) and a PROMPT cause
(R156). -/
structure State.TickMoves (s t : State) : Prop where
  settings : t.settings = s.settings
  line : t.line = { s.line with prompt := t.line.prompt }
  clamp : s.servo.clampFlag = true → t.servo.clampFlag = true
  control : (t.control.mode = s.control.mode ∧ t.control.release = s.control.release ∧ t.control.released = s.control.released
      ∧ t.line.prompt = s.line.prompt)
    ∨ (s.control.mode.tickStage < t.control.mode.tickStage ∧ t.control.released = false
        ∧ t.control.release = releaseAtEntry s.settings.lockstepTimeout t.control.mode ∧ t.line.prompt = true)

theorem State.TickMoves.refl (s : State) : s.TickMoves s := ⟨rfl, rfl, id, .inl ⟨rfl, rfl, rfl, rfl⟩⟩

theorem State.TickMoves.trans (h : s.TickMoves t) (k : t.TickMoves u) : s.TickMoves u := by
  refine ⟨k.settings.trans h.settings, by rw [k.line, h.line], k.clamp ∘ h.clamp, ?_⟩
  obtain ⟨hm, hr, hd, hp⟩ | ⟨hm, hd, hr, hp⟩ := k.control
  · rw [hm, hr, hd, hp]
    exact h.control
  · have hstage : s.control.mode.tickStage < u.control.mode.tickStage := by
      obtain ⟨hm', -⟩ | ⟨hm', -⟩ := h.control
      · rwa [← hm']
      · exact hm'.trans hm
    exact .inr ⟨hstage, hd, by rw [hr, h.settings], hp⟩

/-- R139: no tick leaves TRIPPED. -/
theorem State.TickMoves.tripped (h : s.TickMoves t) (hs : s.control.mode = .tripped) : t.control.mode = .tripped := by
  obtain ⟨hm, -⟩ | ⟨hm, -⟩ := h.control
  · rw [hm, hs]
  · have hlast : t.control.mode.tickStage ≤ 3 := by cases t.control.mode <;> decide
    rw [hs] at hm
    exact absurd hm (Nat.not_lt.mpr hlast)

/-- R131: the timer and the flag follow a mode that never comes back. -/
theorem State.TickMoves.timerFollows (h : s.TickMoves t) : s.TimerFollows t := by
  unfold State.TimerFollows
  obtain ⟨hm, hr, hd, -⟩ | ⟨hm, hd, hr, -⟩ := h.control
  · rw [if_pos hm]
    exact ⟨hr, hd⟩
  · have hne : t.control.mode ≠ s.control.mode := fun e => by rw [e] at hm; omega
    rw [if_neg hne, hr]
    exact ⟨hd, by cases t.control.mode <;> rfl⟩

theorem State.TickMoves.prompt_of_changed (h : s.TickMoves t) (hne : t.control.mode ≠ s.control.mode) : t.line.prompt = true := by
  obtain ⟨hm, -⟩ | ⟨-, -, -, hp⟩ := h.control
  · exact absurd hm hne
  · exact hp

theorem State.TickMoves.line_of_unchanged (h : s.TickMoves t) (hm : t.control.mode = s.control.mode) : t.line = s.line := by
  obtain ⟨-, -, -, hp⟩ | ⟨hlt, -⟩ := h.control
  · rw [h.line, hp]
  · rw [hm] at hlt
    exact absurd hlt (lt_irrefl _)

/-! ### Changes of mode -/

theorem enterMode_tickMoves {m : Mode} (h : s.control.mode.tickStage < m.tickStage) : s.TickMoves (s.enterMode m) :=
  ⟨rfl, rfl, (Servo.enter_clampFlag m s.servo).trans, .inr ⟨h, rfl, rfl, rfl⟩⟩

theorem enterTrip_tickMoves (code : TripCode) (h : s.control.mode.tickStage < 3) : s.TickMoves (s.enterTrip code) :=
  ⟨rfl, rfl, (Servo.enter_clampFlag .tripped s.servo).trans, .inr ⟨h, rfl, rfl, rfl⟩⟩

theorem Mode.tickStage_lt_of_watchesCutoff {m : Mode} (h : m.watchesCutoff = true) : m.tickStage < 3 := by
  revert h
  cases m <;> decide

theorem changeMode_tickMoves {m : Mode} (h : s.control.mode.tickStage < m.tickStage) : s.TickMoves (s.changeMode m) := by
  have henter := enterMode_tickMoves h
  obtain h' | ⟨-, hm, h'⟩ := changeMode_cases m s <;> rw [h']
  · exact henter
  · exact henter.trans (enterTrip_tickMoves _ (Mode.tickStage_lt_of_watchesCutoff hm))

theorem putQ_tickMoves (acc : Nat) (s : State) : s.TickMoves (s.putQ acc) := ⟨rfl, rfl, id, .inl ⟨rfl, rfl, rfl, rfl⟩⟩

/-! ### The blocks that take the tick -/

/-- R14: the measurement sets the clamp flag, and never clears it. -/
theorem measured_clampFlag (rawL rawD : Half) (h : s.servo.clampFlag = true) : (s.measured rawL rawD).clampFlag = true := by
  have hset : (s.measured rawL rawD).clampFlag = (s.servo.clampFlag || decide (s.commandClamped ≠ s.commandRaw)) := rfl
  rw [hset, h, Bool.true_or]

theorem servo_tickMoves {v : Servo} (h : s.servo.clampFlag = true → v.clampFlag = true) : s.TickMoves { s with servo := v } :=
  ⟨rfl, rfl, h, .inl ⟨rfl, rfl, rfl, rfl⟩⟩

theorem loadTick_tickMoves (rawL rawD : Half) (s : State) : s.TickMoves (s.loadTick rawL rawD) := by
  obtain ⟨-, h⟩ | ⟨-, h⟩ | ⟨he, h⟩ := loadTick_cases rawL rawD s <;> rw [h]
  · exact .refl s
  · exact servo_tickMoves id
  · obtain ⟨cause, -, h⟩ | ⟨-, h⟩ := engagedTick_cases rawL rawD s he <;> rw [h]
    · have hstage : s.control.mode.tickStage < 3 :=
        Mode.tickStage_lt_of_watchesCutoff (by rw [Mode.watchesCutoff, he, Bool.or_true])
      have hreleased : s.TickMoves { s with servo := (s.measured rawL rawD).release } :=
        servo_tickMoves (measured_clampFlag rawL rawD)
      exact hreleased.trans (enterTrip_tickMoves cause hstage)
    · exact servo_tickMoves (measured_clampFlag rawL rawD)

/-- R128, R129: q_acc after a tick in DESCENT. -/
def State.descended (s : State) : Nat :=
  descentStep s.settings.descentRate
    (lockstepFloor s.control.released s.settings.band (s.peers.largestOffer s.settings.group)) s.control.qAcc

/-- R128, R129: q_acc after a tick in ASCENT. -/
def State.ascended (s : State) : Nat :=
  ascentStep s.settings.descentRate
    (lockstepCeiling s.control.released s.settings.band (s.peers.smallestOffer s.settings.group)) s.control.qAcc

/-- R130: a DESCENT that comes to 0 ends in PARKED. -/
theorem fractionTick_of_descent (hm : s.control.mode = .descent) :
    s.fractionTick = if s.descended < Config.accUnit then (s.putQ s.descended).changeMode .parked else s.putQ s.descended := by
  simp only [State.fractionTick, hm]
  rfl

/-- R130: an ASCENT that comes to the full value ends in RUN. -/
theorem fractionTick_of_ascent (hm : s.control.mode = .ascent) :
    s.fractionTick = if Config.accFull ≤ s.ascended then (s.putQ s.ascended).changeMode .run else s.putQ s.ascended := by
  simp only [State.fractionTick, hm]
  rfl

/-- R129: in any other mode the mode controller takes no tick. -/
theorem fractionTick_of_other (hd : s.control.mode ≠ .descent) (ha : s.control.mode ≠ .ascent) : s.fractionTick = s := by
  cases hm : s.control.mode <;> simp_all [State.fractionTick]

theorem fractionTick_tickMoves (s : State) : s.TickMoves s.fractionTick := by
  by_cases hd : s.control.mode = .descent
  · rw [fractionTick_of_descent hd]
    split
    · exact (putQ_tickMoves _ s).trans (changeMode_tickMoves (by rw [State.putQ_control, hd]; decide))
    · exact putQ_tickMoves _ s
  by_cases ha : s.control.mode = .ascent
  · rw [fractionTick_of_ascent ha]
    split
    · exact (putQ_tickMoves _ s).trans (changeMode_tickMoves (by rw [State.putQ_control, ha]; decide))
    · exact putQ_tickMoves _ s
  rw [fractionTick_of_other hd ha]
  exact .refl s

theorem holdRequest_tickMoves (s : State) : s.TickMoves s.holdRequest := by
  obtain ⟨hm, h⟩ | ⟨-, h⟩ := holdRequest_cases s <;> rw [h]
  · exact changeMode_tickMoves (by rw [hm]; decide)
  · exact .refl s

theorem withSequencer_tickMoves (r : Sequencer × Bool) (s : State) : s.TickMoves (s.withSequencer r) := by
  have hseq : s.TickMoves { s with seq := r.1 } := ⟨rfl, rfl, id, .inl ⟨rfl, rfl, rfl, rfl⟩⟩
  unfold State.withSequencer
  split
  · exact hseq.trans (holdRequest_tickMoves _)
  · exact hseq

theorem blockTick_tickMoves (rawL rawD : Half) (s : State) (b : TickBlock) : s.TickMoves (s.blockTick rawL rawD b) := by
  cases b with
  | servo => exact loadTick_tickMoves rawL rawD s
  | control => exact fractionTick_tickMoves s
  | sequencer => exact withSequencer_tickMoves _ s
  | recorder => exact ⟨rfl, rfl, id, .inl ⟨rfl, rfl, rfl, rfl⟩⟩

theorem allBlocks_cons (b : TickBlock) (l : List TickBlock) (rawL rawD : Half) (s : State) :
    s.allBlocks (b :: l) rawL rawD = (s.blockTick rawL rawD b).allBlocks l rawL rawD := rfl

theorem allBlocks_tickMoves (l : List TickBlock) (rawL rawD : Half) (s : State) : s.TickMoves (s.allBlocks l rawL rawD) := by
  induction l generalizing s with
  | nil => exact .refl s
  | cons b l ih => exact (blockTick_tickMoves rawL rawD s b).trans (ih _)

/-! ## The blocks that move the frame -/

/-- The parts that the mode controller and the sequencer read and write at a tick are the same in both states. -/
structure State.SameFrame (s t : State) : Prop where
  control : t.control = s.control
  seq : t.seq = s.seq
  settings : t.settings = s.settings
  peers : t.peers = s.peers
  cutoff : t.servo.cutoff = s.servo.cutoff

theorem State.SameFrame.refl (s : State) : s.SameFrame s := ⟨rfl, rfl, rfl, rfl, rfl⟩

theorem State.SameFrame.trans (h : s.SameFrame t) (k : t.SameFrame u) : s.SameFrame u :=
  ⟨k.control.trans h.control, k.seq.trans h.seq, k.settings.trans h.settings, k.peers.trans h.peers, k.cutoff.trans h.cutoff⟩

theorem Servo.enter_cutoff (m : Mode) (v : Servo) : (v.enter m).cutoff = v.cutoff := by cases m <;> rfl

theorem State.SameFrame.enterMode (h : s.SameFrame t) (m : Mode) : (s.enterMode m).SameFrame (t.enterMode m) := by
  refine ⟨?_, ?_, h.settings, h.peers, ?_⟩
  · simp only [State.enterMode_control, h.control, h.settings, h.peers]
  · simp only [State.enterMode_seq, h.seq, h.settings]
  · simp only [State.enterMode_servo, Servo.enter_cutoff, h.cutoff]

theorem State.SameFrame.enterTrip (h : s.SameFrame t) (code : TripCode) : (s.enterTrip code).SameFrame (t.enterTrip code) := by
  obtain ⟨hcontrol, hseq, hsettings, hpeers, hcutoff⟩ := h.enterMode .tripped
  exact ⟨congrArg (fun c => { c with trip := code }) hcontrol, hseq, hsettings, hpeers, hcutoff⟩

theorem State.SameFrame.changeMode (h : s.SameFrame t) (m : Mode) : (s.changeMode m).SameFrame (t.changeMode m) := by
  unfold State.changeMode
  rw [h.cutoff]
  split
  · exact (h.enterMode m).enterTrip _
  · exact h.enterMode m

theorem State.SameFrame.putQ (h : s.SameFrame t) (acc : Nat) : (s.putQ acc).SameFrame (t.putQ acc) :=
  ⟨by simp only [State.putQ_control, h.control], h.seq, h.settings, h.peers, h.cutoff⟩

theorem State.SameFrame.fractionTick (h : s.SameFrame t) : s.fractionTick.SameFrame t.fractionTick := by
  unfold State.fractionTick
  rw [h.control, h.settings, h.peers]
  dsimp only
  repeat' split
  · exact (h.putQ _).changeMode _
  · exact h.putQ _
  · exact (h.putQ _).changeMode _
  · exact h.putQ _
  · exact h

theorem State.SameFrame.holdRequest (h : s.SameFrame t) : s.holdRequest.SameFrame t.holdRequest := by
  unfold State.holdRequest
  rw [h.control]
  split
  · exact h.changeMode _
  · exact h

theorem State.SameFrame.withSequencer (h : s.SameFrame t) (r : Sequencer × Bool) :
    (s.withSequencer r).SameFrame (t.withSequencer r) := by
  have hseq : State.SameFrame { s with seq := r.1 } { t with seq := r.1 } := ⟨h.control, rfl, h.settings, h.peers, h.cutoff⟩
  unfold State.withSequencer
  split
  · exact hseq.holdRequest
  · exact hseq

theorem State.SameFrame.sequenceTick (h : s.SameFrame t) : s.sequenceTick.SameFrame t.sequenceTick := by
  have hmet : t.barrierMet = s.barrierMet := by simp only [State.barrierMet, State.segment, h.peers, h.settings, h.seq]
  have hq : t.q = s.q := by simp only [State.q, h.control]
  unfold State.sequenceTick
  rw [hmet, hq, h.control, h.settings, h.seq]
  exact h.withSequencer _

/-- R3, R27: the load servo trips, or leaves the frame. -/
theorem loadTick_tripped_or_sameFrame (rawL rawD : Half) (s : State) :
    (s.loadTick rawL rawD).control.mode = .tripped ∨ s.SameFrame (s.loadTick rawL rawD) := by
  obtain ⟨-, h⟩ | ⟨-, h⟩ | ⟨he, h⟩ := loadTick_cases rawL rawD s <;> rw [h]
  · exact .inr (.refl s)
  · exact .inr ⟨rfl, rfl, rfl, rfl, rfl⟩
  · obtain ⟨cause, -, h⟩ | ⟨-, h⟩ := engagedTick_cases rawL rawD s he <;> rw [h]
    · exact .inl rfl
    · exact .inr ⟨rfl, rfl, rfl, rfl, rfl⟩

/-- The blocks that take part in the frame mode by more than a trip. -/
def TickBlock.movesFrame : TickBlock → Bool
  | .control | .sequencer => true
  | .servo | .recorder => false

/-- Without a trip, the frame comes out as the mode controller and the sequencer alone leave it. -/
theorem allBlocks_tripped_or_sameFrame (l : List TickBlock) (rawL rawD : Half) (h : s.SameFrame t) :
    (t.allBlocks l rawL rawD).control.mode = .tripped
      ∨ (s.allBlocks (l.filter TickBlock.movesFrame) rawL rawD).SameFrame (t.allBlocks l rawL rawD) := by
  induction l generalizing s t with
  | nil => exact .inr h
  | cons b l ih =>
    cases b with
    | servo =>
      obtain htrip | hsame := loadTick_tripped_or_sameFrame rawL rawD t
      · exact .inl ((allBlocks_tickMoves l rawL rawD (t.loadTick rawL rawD)).tripped htrip)
      · exact ih (h.trans hsame)
    | control => exact ih h.fractionTick
    | sequencer => exact ih h.sequenceTick
    | recorder => exact ih (h.trans ⟨rfl, rfl, rfl, rfl, rfl⟩)

/-- R4: the two orders of the blocks that move the frame. -/
theorem tickOrder_filter_movesFrame (n : Nat) :
    (controlFirst n ∧ (tickOrder n).filter TickBlock.movesFrame = [.control, .sequencer])
      ∨ (¬ controlFirst n ∧ (tickOrder n).filter TickBlock.movesFrame = [.sequencer, .control]) := by
  have hall : ∀ k < 24,
      ((tickOrder k).idxOf .control < (tickOrder k).idxOf .sequencer
          ∧ (tickOrder k).filter TickBlock.movesFrame = [.control, .sequencer])
        ∨ (¬ (tickOrder k).idxOf .control < (tickOrder k).idxOf .sequencer
          ∧ (tickOrder k).filter TickBlock.movesFrame = [.sequencer, .control]) := by decide
  unfold controlFirst
  rw [tickOrder_mod]
  exact hall _ (Nat.mod_lt _ (by decide))

/-- R4, R139: a tick trips, or leaves the mode controller as its two blocks do, in their order. -/
theorem allBlocks_control_cases (order : Nat) (rawL rawD : Half) (s : State) :
    (s.allBlocks (tickOrder order) rawL rawD).control.mode = .tripped
      ∨ (controlFirst order ∧ (s.allBlocks (tickOrder order) rawL rawD).control = s.fractionTick.sequenceTick.control)
      ∨ (¬ controlFirst order ∧ (s.allBlocks (tickOrder order) rawL rawD).control = s.sequenceTick.fractionTick.control) := by
  obtain htrip | hsame := allBlocks_tripped_or_sameFrame (tickOrder order) rawL rawD (.refl s)
  · exact .inl htrip
  · obtain ⟨hfirst, hblocks⟩ | ⟨hfirst, hblocks⟩ := tickOrder_filter_movesFrame order <;> rw [hblocks] at hsame
    · exact .inr (.inl ⟨hfirst, hsame.control⟩)
    · exact .inr (.inr ⟨hfirst, hsame.control⟩)

/-! ## The sequencer's request for HOLD -/

/-- R38, R41, R42: the end of a segment asks for HOLD where no barrier holds it, at END or at a pause. -/
theorem finish_asks_iff (tab : List Segment) (atMark : Bool) (m : Mode) (met : Bool) (q : Sequencer) :
    (q.finish tab atMark m met).2 = true
      ↔ ((segmentAt tab q.index).groupAdvance = false ∨ met = true)
          ∧ ((segmentAt tab q.index).link = none ∨ (segmentAt tab q.index).pause = true) := by
  obtain ⟨hg, hmet, h⟩ | ⟨hpass, h⟩ := finish_cases tab atMark m met q <;> rw [h]
  · simp [hg, hmet]
  · rw [and_iff_right hpass]
    obtain ⟨hlink, h⟩ | ⟨k, hlink, hpause, h⟩ | ⟨k, hlink, hpause, h⟩ := passOn_cases tab atMark m q <;> rw [h] <;>
      simp [*]

/-- R35: what a tick of RUN in segment time asks of the sequencer for HOLD. -/
theorem timeStep_asks_iff (tab : List Segment) (met : Bool) (q : Sequencer) :
    (q.timeStep tab .run met).2 = true
      ↔ q.started = true ∧ q.state = .active
          ∧ (∃ ms, ((segmentAt tab q.index).body = .dwell ms ∨ ∃ target, (segmentAt tab q.index).body = .ramp target ms)
              ∧ q.elapsed + 1 = 4 * ms)
          ∧ ((segmentAt tab q.index).groupAdvance = false ∨ met = true)
          ∧ ((segmentAt tab q.index).link = none ∨ (segmentAt tab q.index).pause = true) := by
  unfold Sequencer.timeStep
  by_cases hat : q.state = .active ∧ q.started = true
  · rw [if_pos ⟨rfl, hat⟩]
    cases hbody : (segmentAt tab q.index).body with
    | none | cycle => simp
    | ramp target ms | dwell ms =>
      by_cases htime : q.elapsed + 1 = 4 * ms
      · simp [htime, hat, finish_asks_iff]
      · simp [htime]
  · rw [if_neg fun h => hat h.2]
    simp only [Bool.false_eq_true, false_iff]
    exact fun h => hat ⟨h.2.1, h.1⟩

/-- R35, R37, R43: the envelope and the clean flag have no part in the request. -/
theorem tick_asks_iff (s : State) (fraction : Nat) :
    (s.seq.tick s.settings.segments s.settings.holdRate .run fraction s.barrierMet).2 = true
      ↔ s.seq.started = true ∧ s.AsksForHold := by
  show (((s.seq.envelopeStep s.settings.holdRate .run).cleanStep .run fraction).timeStep s.settings.segments .run s.barrierMet).2 = true ↔ _
  rw [timeStep_asks_iff, envelopeStep_keeps]
  rfl

/-! ## The mode controller after a tick -/

theorem sequenceTick_of_not_run (h : s.control.mode ≠ .run) :
    s.sequenceTick = { s with seq := (s.seq.tick s.settings.segments s.settings.holdRate s.control.mode s.q s.barrierMet).1 } := by
  unfold State.sequenceTick State.withSequencer State.holdRequest
  simp [h]

theorem sequenceTick_control_of_not_run (h : s.control.mode ≠ .run) : s.sequenceTick.control = s.control := by
  rw [sequenceTick_of_not_run h]

theorem changeMode_control_of_open (m : Mode) (hopen : s.servo.cutoff = false) :
    (s.changeMode m).control = s.control.enter s.settings.lockstepTimeout s.peers.groupAlarm m := by
  rw [changeMode_of_open m hopen, State.enterMode_control]

/-- R138: in RUN the sequencer's request takes the frame to HOLD. -/
theorem sequenceTick_control_of_run (hm : s.control.mode = .run) (hopen : s.servo.cutoff = false) :
    (s.seq.started = true ∧ s.AsksForHold
        ∧ s.sequenceTick.control = s.control.enter s.settings.lockstepTimeout s.peers.groupAlarm .hold)
      ∨ (¬ (s.seq.started = true ∧ s.AsksForHold) ∧ s.sequenceTick.control = s.control) := by
  have hiff := tick_asks_iff s s.q
  unfold State.sequenceTick State.withSequencer
  rw [hm]
  split
  next hasks =>
    obtain ⟨hstarted, hasks⟩ := hiff.mp hasks
    refine .inl ⟨hstarted, hasks, ?_⟩
    rw [State.holdRequest, if_pos hm]
    exact changeMode_control_of_open .hold hopen
  next hasks => exact .inr ⟨mt hiff.mpr hasks, rfl⟩

theorem fractionTick_control_of_descent (hm : s.control.mode = .descent) (hopen : s.servo.cutoff = false) :
    s.fractionTick.control =
      if s.descended < Config.accUnit then
        (s.putQ s.descended).control.enter s.settings.lockstepTimeout s.peers.groupAlarm .parked
      else (s.putQ s.descended).control := by
  rw [fractionTick_of_descent hm]
  split
  · exact changeMode_control_of_open .parked hopen
  · rfl

theorem fractionTick_of_ascent_full (hm : s.control.mode = .ascent) (hopen : s.servo.cutoff = false)
    (hfull : Config.accFull ≤ s.ascended) : s.fractionTick = (s.putQ s.ascended).enterMode .run := by
  rw [fractionTick_of_ascent hm, if_pos hfull, changeMode_of_open (s := s.putQ s.ascended) .run hopen]

theorem fractionTick_of_ascent_below (hm : s.control.mode = .ascent) (hfull : ¬ Config.accFull ≤ s.ascended) :
    s.fractionTick = s.putQ s.ascended := by
  rw [fractionTick_of_ascent hm, if_neg hfull]

/-- R129, R130: the mode controller does not read the sequencer. -/
theorem fractionTick_control_of_seq (q : Sequencer) (hopen : s.servo.cutoff = false) :
    ({ s with seq := q } : State).fractionTick.control = s.fractionTick.control := by
  have hchange (m : Mode) (acc : Nat) :
      (State.changeMode m (State.putQ acc { s with seq := q })).control = ((s.putQ acc).changeMode m).control := by
    exact (changeMode_control_of_open (s := State.putQ acc { s with seq := q }) m hopen).trans
      (changeMode_control_of_open (s := s.putQ acc) m hopen).symm
  unfold State.fractionTick
  dsimp only
  repeat' split
  · exact hchange _ _
  · rfl
  · exact hchange _ _
  · rfl
  · rfl

theorem sequenceTick_fractionTick_control (hm : s.control.mode ≠ .run) (hopen : s.servo.cutoff = false) :
    s.sequenceTick.fractionTick.control = s.fractionTick.control := by
  rw [sequenceTick_of_not_run hm]
  exact fractionTick_control_of_seq _ hopen

/-- R130: the sequencer has no part in what a tick does to a DESCENT. -/
theorem frameTicks_of_descent (hm : s.control.mode = .descent) (hopen : s.servo.cutoff = false) :
    s.fractionTick.sequenceTick.control = s.fractionTick.control
      ∧ s.sequenceTick.fractionTick.control = s.fractionTick.control := by
  have hrun : s.fractionTick.control.mode ≠ .run := by
    rw [fractionTick_control_of_descent hm hopen]
    split <;> simp [hm]
  exact ⟨sequenceTick_control_of_not_run hrun, sequenceTick_fractionTick_control (by simp [hm]) hopen⟩

theorem enter_run_keeps (tab : List Segment) (q : Sequencer) :
    (q.enter tab .run).index = q.index ∧ (q.enter tab .run).elapsed = q.elapsed := by
  simp only [Sequencer.enter]
  split
  · obtain ⟨hindex, helapsed, -⟩ := start_keeps tab false .run q
    exact ⟨hindex, helapsed⟩
  · exact ⟨rfl, rfl⟩

/-- R33, R48: an entry to RUN starts a RAMP or a DWELL that the sequencer has come to. -/
theorem enter_run_started_iff {tab : List Segment} {q : Sequencer} {ms : Nat}
    (hbody : (segmentAt tab q.index).body = .dwell ms ∨ ∃ target, (segmentAt tab q.index).body = .ramp target ms) :
    (q.enter tab .run).started = true ∧ (q.enter tab .run).state = .active ↔ q.state = .active := by
  simp only [Sequencer.enter]
  split
  next hwaits => obtain hbody | ⟨target, hbody⟩ := hbody <;> simp [Sequencer.start, hbody, hwaits]
  next hstands =>
    refine ⟨fun h => h.2, fun hactive => ⟨?_, hactive⟩⟩
    exact eq_true_of_ne_false fun hstarted => hstands ⟨hactive, hstarted⟩

/-- R33, R48: at a RAMP or a DWELL that is due to end, the entry to RUN leaves the position started and as far in its time. -/
theorem enterRun_asks_iff (acc : Nat) (s : State) :
    (((s.putQ acc).enterMode .run).seq.started = true ∧ ((s.putQ acc).enterMode .run).AsksForHold) ↔ s.AsksForHold := by
  obtain ⟨hindex, helapsed⟩ := enter_run_keeps s.settings.segments s.seq
  generalize hv : (s.putQ acc).enterMode .run = v
  have hseq : v.seq = s.seq.enter s.settings.segments .run := by rw [← hv]; rfl
  have hsegment : v.segment = s.segment := by
    rw [State.segment, State.segment, hseq, hindex, ← hv]
    rfl
  have hmet : v.barrierMet = s.barrierMet := by
    rw [State.barrierMet, State.barrierMet, hsegment, hseq, hindex, ← hv]
    rfl
  unfold State.AsksForHold
  rw [hsegment, hmet, hseq, helapsed]
  constructor
  · rintro ⟨hstarted, hactive, ⟨ms, hbody, htime⟩, hrest⟩
    exact ⟨(enter_run_started_iff hbody).mp ⟨hstarted, hactive⟩, ⟨ms, hbody, htime⟩, hrest⟩
  · rintro ⟨hactive, ⟨ms, hbody, htime⟩, hrest⟩
    obtain ⟨hstarted, hactive⟩ := (enter_run_started_iff hbody).mpr hactive
    exact ⟨hstarted, hactive, ⟨ms, hbody, htime⟩, hrest⟩

/-- R130, R138: an ASCENT at its full value is in RUN when the sequencer takes the tick after the mode controller, which can ask for
HOLD at once. -/
theorem fractionTick_sequenceTick_of_ascent_full (hm : s.control.mode = .ascent) (hopen : s.servo.cutoff = false)
    (hfull : Config.accFull ≤ s.ascended) :
    s.fractionTick.sequenceTick.control.qAcc = Config.accFull
      ∧ (s.AsksForHold → s.fractionTick.sequenceTick.control.mode = .hold)
      ∧ (¬ s.AsksForHold → s.fractionTick.sequenceTick.control.mode = .run) := by
  rw [fractionTick_of_ascent_full hm hopen hfull]
  have hiff := enterRun_asks_iff s.ascended s
  obtain ⟨hstarted, hasks, h⟩ | ⟨hasks, h⟩ := sequenceTick_control_of_run (s := (s.putQ s.ascended).enterMode .run) rfl hopen <;> rw [h]
  · exact ⟨rfl, fun _ => rfl, fun hno => absurd (hiff.mp ⟨hstarted, hasks⟩) hno⟩
  · exact ⟨rfl, fun hyes => absurd (hiff.mpr hyes) hasks, fun _ => rfl⟩

/-! ## The end of the tick -/

/-- R156: the frame is in DESCENT or ASCENT, with q 32 or more away from the q last reported. -/
def State.HasMoved (s : State) : Prop :=
  (s.control.mode = .descent ∨ s.control.mode = .ascent) ∧ (s.q + 32 ≤ s.line.lastQ ∨ s.line.lastQ + 32 ≤ s.q)

/-- R156: a fraction that has moved is a PROMPT cause. -/
theorem noteMove_cases (s : State) :
    (s.HasMoved ∧ s.noteMove = { s with line := { s.line with prompt := true } }) ∨ (¬ s.HasMoved ∧ s.noteMove = s) := by
  unfold State.noteMove
  split
  · exact .inl ⟨‹_›, rfl⟩
  · exact .inr ⟨‹_›, rfl⟩

/-- The end of the tick leaves the mode controller. -/
theorem noteMove_settle_control (s : State) : s.noteMove.settle.control = s.control := by
  obtain ⟨-, hcontrol, -⟩ := settle_keeps s.noteMove
  rw [hcontrol]
  obtain ⟨-, h⟩ | ⟨-, h⟩ := noteMove_cases s <;> rw [h]

/-- R14, R156: a PROMPT cause in a tick gives its BEAT, which shows the state the tick leaves. -/
theorem settle_tickReports (hline : t.line = { s.line with prompt := true })
    (hclamp : s.servo.clampFlag = true → t.servo.clampFlag = true) : s.TickReports t.settle := by
  have hsettle : t.settle = t.compose .prompt := if_pos (by rw [hline])
  refine ⟨t.servo.clampFlag, hclamp, ?_⟩
  rw [hsettle]
  refine compose_reportsWith .prompt s t ?_ ?_ ?_ ?_ ?_ <;> rw [hline]
  exact ⟨rfl, rfl, rfl, rfl, rfl, rfl, rfl, rfl, rfl⟩

/-- R156: a tick that changes the mode, or leaves the fraction moved, is reported. -/
theorem State.TickMoves.reports (h : s.TickMoves t) (hcause : t.control.mode ≠ s.control.mode ∨ t.HasMoved) :
    s.TickReports t.noteMove.settle := by
  obtain ⟨-, hnote⟩ | ⟨hstill, hnote⟩ := noteMove_cases t <;> rw [hnote]
  · exact settle_tickReports (by rw [h.line]) h.clamp
  · have hprompt := h.prompt_of_changed (hcause.resolve_right hstill)
    exact settle_tickReports (by rw [h.line, hprompt]) h.clamp

/-- R156: any other tick leaves the line unit. -/
theorem State.TickMoves.quiet (h : s.TickMoves t) (hm : t.control.mode = s.control.mode) (hstill : ¬ t.HasMoved)
    (hprompt : s.line.prompt = false) : t.noteMove.settle.line = s.line := by
  have hline := h.line_of_unchanged hm
  obtain ⟨hmoved, -⟩ | ⟨-, hnote⟩ := noteMove_cases t
  · exact absurd hmoved hstill
  · rw [hnote, settle_of_quiet (by rw [hline, hprompt]), hline]

/-! ## The fraction, in the words of R128 and R129 -/

theorem lockstepFloor_eq (released : Bool) (band : Nat) (largest : Option Nat) :
    lockstepFloor released band largest
      = if released then 0 else match largest with | none => 0 | some q => (q - band) * 4000 := by
  cases released <;> cases largest <;> rfl

theorem lockstepCeiling_eq (released : Bool) (band : Nat) (smallest : Option Nat) :
    lockstepCeiling released band smallest
      = if released then 4096000 else match smallest with | none => 4096000 | some q => min 4096000 ((q + band) * 4000) := by
  cases released <;> cases smallest <;> rfl

/-- R129: a floor that lies ahead of the fraction holds it where it stands. -/
theorem descentStep_eq (rate floor acc : Nat) :
    descentStep rate floor acc = if acc < max floor (acc - rate) then acc else max floor (acc - rate) := by
  unfold descentStep
  split <;> omega

/-- R129: a ceiling that lies behind the fraction holds it where it stands. -/
theorem ascentStep_eq (rate ceiling acc : Nat) :
    ascentStep rate ceiling acc = if min ceiling (acc + rate) < acc then acc else min ceiling (acc + rate) := by
  unfold ascentStep
  split <;> omega

/-! ## The tick, mode by mode -/

/-- The tick's outcome at the mode controller of `s`, `c` being the mode controller after it: it trips, or its two blocks leave `c` in
the order of the tick (R4). -/
def State.TickOutcome (order : Nat) (s : State) (c : Control) : Prop :=
  c.mode = .tripped ∨ (controlFirst order ∧ c = s.fractionTick.sequenceTick.control)
    ∨ (¬ controlFirst order ∧ c = s.sequenceTick.fractionTick.control)

variable {order : Nat} {c : Control}

theorem State.TickOutcome.of_descent (h : s.TickOutcome order c) (hopen : s.servo.cutoff = false)
    (hm : s.control.mode = .descent) :
    c.mode = .tripped ∨ if s.descended < 4000 then c.mode = .parked ∧ c.qAcc = 0 else c.mode = .descent ∧ c.qAcc = s.descended := by
  obtain ⟨hfirst, hlast⟩ := frameTicks_of_descent hm hopen
  have hcases : c.mode = .tripped ∨ c = s.fractionTick.control := by
    obtain htrip | ⟨-, h⟩ | ⟨-, h⟩ := h
    · exact .inl htrip
    · exact .inr (h.trans hfirst)
    · exact .inr (h.trans hlast)
  refine hcases.imp_right fun hc => ?_
  rw [hc, fractionTick_control_of_descent hm hopen]
  by_cases hzero : s.descended < 4000
  · rw [if_pos hzero, if_pos (show s.descended < Config.accUnit from hzero)]
    exact ⟨rfl, rfl⟩
  · rw [if_neg hzero, if_neg (show ¬ s.descended < Config.accUnit from hzero)]
    exact ⟨hm, rfl⟩

theorem State.TickOutcome.of_ascent (h : s.TickOutcome order c) (hopen : s.servo.cutoff = false)
    (hm : s.control.mode = .ascent) :
    c.mode = .tripped
      ∨ (if 4096000 ≤ s.ascended then c.qAcc = 4096000
          ∧ (controlFirst order ∧ s.AsksForHold → c.mode = .hold) ∧ (¬ (controlFirst order ∧ s.AsksForHold) → c.mode = .run)
         else c.mode = .ascent ∧ c.qAcc = s.ascended) := by
  obtain htrip | ⟨horder, h⟩ | ⟨horder, h⟩ := h
  · exact .inl htrip
  · right
    rw [h]
    split
    next hfull =>
      obtain ⟨hq, hhold, hrun⟩ := fractionTick_sequenceTick_of_ascent_full hm hopen hfull
      exact ⟨hq, fun hasks => hhold hasks.2, fun hno => hrun fun hasks => hno ⟨horder, hasks⟩⟩
    next hbelow =>
      rw [fractionTick_of_ascent_below hm hbelow, sequenceTick_control_of_not_run (by simp [hm])]
      exact ⟨hm, rfl⟩
  · right
    rw [h, sequenceTick_fractionTick_control (by simp [hm]) hopen]
    split
    next hfull =>
      rw [fractionTick_of_ascent_full hm hopen hfull]
      exact ⟨rfl, fun hasks => absurd hasks.1 horder, fun _ => rfl⟩
    next hbelow =>
      rw [fractionTick_of_ascent_below hm hbelow]
      exact ⟨hm, rfl⟩

/-- R138: in RUN the order of the blocks makes no difference. -/
theorem State.TickOutcome.of_run (h : s.TickOutcome order c) (hopen : s.servo.cutoff = false) (hm : s.control.mode = .run) :
    c.mode = .tripped
      ∨ (c.qAcc = s.control.qAcc ∧ (s.seq.started = true ∧ s.AsksForHold → c.mode = .hold)
          ∧ (¬ (s.seq.started = true ∧ s.AsksForHold) → c.mode = .run)) := by
  have hfirst : s.fractionTick = s := fractionTick_of_other (by simp [hm]) (by simp [hm])
  have hcases := sequenceTick_control_of_run hm hopen
  have hlast : s.sequenceTick.fractionTick = s.sequenceTick := by
    obtain ⟨-, -, h⟩ | ⟨-, h⟩ := hcases <;> exact fractionTick_of_other (by simp [h, hm]) (by simp [h, hm])
  rw [State.TickOutcome, hfirst, hlast] at h
  obtain htrip | ⟨-, h⟩ | ⟨-, h⟩ := h
  · exact .inl htrip
  all_goals
    right
    rw [h]
    obtain ⟨hstarted, hasks, h⟩ | ⟨hasks, h⟩ := hcases <;> rw [h]
    · exact ⟨rfl, fun _ => rfl, fun hno => absurd ⟨hstarted, hasks⟩ hno⟩
    · exact ⟨rfl, fun hyes => absurd hyes hasks, fun _ => hm⟩

/-- R130: in the other modes no tick moves the frame but by a trip. -/
theorem State.TickOutcome.of_other (h : s.TickOutcome order c) (hd : s.control.mode ≠ .descent) (ha : s.control.mode ≠ .ascent)
    (hr : s.control.mode ≠ .run) : c.mode = .tripped ∨ c = s.control := by
  have hcontrol := sequenceTick_control_of_not_run hr
  have hlast : s.sequenceTick.fractionTick = s.sequenceTick :=
    fractionTick_of_other (by rwa [hcontrol]) (by rwa [hcontrol])
  rw [State.TickOutcome, fractionTick_of_other hd ha, hlast, hcontrol] at h
  obtain htrip | ⟨-, h⟩ | ⟨-, h⟩ := h
  · exact .inl htrip
  · exact .inr h
  · exact .inr h

/-- Settles O13: the mode controller comes out as `State.TickOutcome` says, mode by mode, and the timer and the line unit as
`State.TickMoves` does. -/
theorem ticksMoveTheDescentFraction : Obligations.TicksMoveTheDescentFraction := by
  intro order rawL rawD s hopen rate offers
  have hmoves : s.TickMoves (s.allBlocks (tickOrder order) rawL rawD) := allBlocks_tickMoves _ rawL rawD s
  have houtcome : s.TickOutcome order (s.allBlocks (tickOrder order) rawL rawD).control :=
    allBlocks_control_cases order rawL rawD s
  refine ⟨_, rfl, ?_⟩
  generalize s.allBlocks (tickOrder order) rawL rawD = u at hmoves houtcome ⊢
  have hcontrol := noteMove_settle_control u
  have hmoved : u.HasMoved ↔ (u.control.mode = .descent ∨ u.control.mode = .ascent)
      ∧ (u.control.qAcc / 4000 + 32 ≤ s.line.lastQ ∨ s.line.lastQ + 32 ≤ u.control.qAcc / 4000) := by
    rw [State.HasMoved, hmoves.line]
    rfl
  have htimer := hmoves.timerFollows
  have hreports := hmoves.reports
  have hquiet := hmoves.quiet
  unfold State.TimerFollows at htimer ⊢
  generalize u.noteMove.settle = t at hcontrol hreports hquiet ⊢
  rw [hmoved, ← hcontrol] at hreports hquiet
  rw [← hcontrol] at houtcome htimer
  refine ⟨?descent, ?ascent, ?stays, ?run, ?rests, htimer, ?moved, fun hne => hreports (.inl hne), ?still⟩
  case descent =>
    intro hm floor candidate result
    have hresult : s.descended = result := by
      rw [State.descended, descentStep_eq, lockstepFloor_eq]
      rfl
    rw [← hresult]
    exact houtcome.of_descent hopen hm
  case ascent =>
    intro hm ceiling candidate result
    have hresult : s.ascended = result := by
      rw [State.ascended, ascentStep_eq, lockstepCeiling_eq]
      rfl
    rw [← hresult]
    exact houtcome.of_ascent hopen hm
  case stays =>
    rintro (hm | hm | hm)
    · exact (houtcome.of_run hopen hm).imp_right And.left
    all_goals exact (houtcome.of_other (by simp [hm]) (by simp [hm]) (by simp [hm])).imp_right (congrArg Control.qAcc)
  case run => exact fun hm => (houtcome.of_run hopen hm).imp_right And.right
  case rests =>
    rintro (hm | hm) <;>
      exact (houtcome.of_other (by simp [hm]) (by simp [hm]) (by simp [hm])).imp_right (congrArg Control.mode)
  case moved =>
    intro hm hprompt after far
    refine ⟨fun hfar => hreports ?_, fun hnear hsame => hquiet hsame (fun h => hnear h.2) hprompt⟩
    by_cases hsame : t.control.mode = s.control.mode
    · exact .inr ⟨by rwa [hsame], hfar⟩
    · exact .inl hsame
  case still =>
    intro hd ha hsame hprompt
    refine hquiet hsame (fun h => ?_) hprompt
    rw [hsame] at h
    exact h.1.elim hd ha

end Sys2Proof.Machine
end

section
/-! What an event can do, said once. `State.Move` lists the changes that the blocks' operations come down to, each with what is known
of the state it is made in; every command but a reset and the end of start-up is a chain of them (`exec_cases`). `Kept.step` is
the induction over such a chain: a law that time, the resets, the end of start-up and each of the changes keep is kept by every step. -/

namespace Sys2Proof.Machine

variable {s t u : State}

/-! ## The changes -/

/-- The entries of the frame mode that the rules give from the mode that stands (R130, R133 to R141). -/
inductive State.Allows (s : State) : Mode → Prop
  | hold (h : s.control.mode = .run ∨ s.control.mode = .ascent) : s.Allows .hold
  | descent (h : s.control.mode = .run ∨ s.control.mode = .ascent ∨ s.control.mode = .hold) : s.Allows .descent
  | park (h : s.control.mode = .descent) : s.Allows .parked
  | complete (h : s.control.mode = .ascent) : s.Allows .run
  | stop (h : s.control.mode = .parked) : s.Allows .standby
  | resetTrip (h : s.control.mode = .tripped) : s.Allows .standby
  | engage {m : Mode} (hm : m = .run ∨ m = .ascent)
      (h : s.control.mode = .standby ∨ s.control.mode = .parked ∨ s.control.mode = .hold)
      (haccept : s.settings.policyFor s.peers.groupAlarm = .note ∨ s.peers.groupAlarm ≤ s.control.accept) : s.Allows m

/-- What the load servo does to itself. -/
inductive State.ServoMove (s : State) : Servo → Prop
  | sample (rawLoad rawDisp : Half) : s.ServoMove (s.sampled rawLoad rawDisp)
  | drive (rawLoad rawDisp : Half) (h : s.control.mode.engaged = true) : s.ServoMove ((s.measured rawLoad rawDisp).drive s.settings)
  | release (rawLoad rawDisp : Half) (h : s.control.mode.engaged = true) : s.ServoMove (s.measured rawLoad rawDisp).release
  | carrier : s.ServoMove s.servo.carrier
  | cutoff (b : Bool) : s.ServoMove { s.servo with cutoff := b }

/-- What the sequencer does to itself, but for its part in an entry of the frame mode. -/
inductive State.SeqMove (s : State) : Sequencer → Prop
  | tick : s.SeqMove (s.seq.tick s.settings.segments s.settings.holdRate s.control.mode s.q s.barrierMet).1
  | mark : s.SeqMove (s.seq.mark s.settings.segments s.control.mode s.barrierMet).1
  | passOn (h : s.seq.state = .barrier) : s.SeqMove (s.seq.passOn s.settings.segments false s.control.mode).1
  | scale (n : Nat) : s.SeqMove { s.seq with scaleBuffer := n }
  | restart : s.SeqMove (s.seq.restart s.settings.segments s.control.mode s.settings.park)

/-- The line unit takes messages: it is on the line, ACTIVE or LISTEN_ONLY. -/
def State.OnLine (s : State) : Prop := s.line.line = .active ∨ s.line.line = .listenOnly

/-- What the line unit does to itself, but for the composition of a BEAT and the record of a directive. -/
inductive State.LineMove (s : State) : LineUnit → Prop
  | cause : s.LineMove { s.line with prompt := true }
  | seeEpoch (e : Half) (honline : s.OnLine)
      (hnewer : s.line.seenEpoch = none ∨ ∃ o, s.line.seenEpoch = some o ∧ newerEpoch e o = true) :
      s.LineMove { s.line with seenEpoch := some e }
  | receive (message : List Byte) (h : s.line.receives message = true) : s.LineMove { s.line with assembler := .ready }
  | silence (h : s.line.line = .active) :
      s.LineMove { s.line with line := .listenOnly, duplicate := true, held := none, beatSlot := none, replySlot := none,
                               transmitter := .idle }
  | overrun (n : Nat) : s.LineMove { s.line with queryOverruns := n }
  | reply (r : Reply) (h : s.line.line.composes = true) : s.LineMove (LineUnit.wake { s.line with replySlot := some r })
  | take (characters : List Byte) (h : s.line.assembles = true)
      (hmore : expectsMore (s.line.assembler.characters ++ characters) = true) : s.LineMove (s.line.takeCharacters characters)
  | discard (h : s.line.assembles = true) : s.LineMove s.line.discard
  | send (held : Held) (hline : s.line.line = .active) (hgap : s.line.transmitter = .waitGap)
      (hheld : s.line.nextHeld = some held) : s.LineMove (s.beginSending held).line
  | sent (wire : List Byte) (left : Nat) (h : s.line.transmitter = .sending wire left) : s.LineMove s.line.letGo
  | collide (wire : List Byte) (left : Nat) (h : s.line.transmitter = .sending wire left) :
      s.LineMove { s.line with held := s.line.held.map Held.collide, transmitter := .jam s.line.characterUs }
  | abandon (left : Nat) (h : s.line.transmitter = .jam left) (hlimit : Config.collisionLimit ≤ s.line.collisions) :
      s.LineMove s.line.abandon
  | backOff (left us : Nat) (h : s.line.transmitter = .jam left) (hlimit : s.line.collisions < Config.collisionLimit) :
      s.LineMove { s.line with transmitter := .backoff us }
  | awaitGap (left : Nat) (h : s.line.transmitter = .backoff left) : s.LineMove { s.line with transmitter := .waitGap }
  | stick (h : s.OnLine) : s.LineMove { s.line with line := .stuck, held := none, transmitter := .idle, assembler := .off }
  | unstick (h : s.line.line = .stuck) : s.LineMove (LineUnit.wake { s.line with line := s.line.afterStuck, assembler := .ready })
  | ready (h : s.line.assembler = .waiting) (hquiet : s.line.transmitter.drives = false) :
      s.LineMove { s.line with assembler := .ready }

/-- What the scanner does to itself. -/
inductive State.ScannerMove (s : State) : Scanner → Prop
  | mark : s.ScannerMove s.scanner.mark
  | fire (k : Nat) (atMark : Bool) (h : (pointAt s.settings k).fires = true) : s.ScannerMove (s.scanner.fire s.settings k atMark)
  | post (i : Nat) (h : i ∈ postedSites s.settings) : s.ScannerMove (s.scanner.post s.settings i)
  | samples (codes : List Half) (h : s.scanner.converter ≠ .idle) : s.ScannerMove (s.scanner.takeSamples codes)
  | record (k r sample us : Nat) (carried : Bool) (h : s.scanner.converter = .chain k r sample us carried) :
      s.ScannerMove (s.scanner.afterRecord s.settings k r carried)
  | ladder (i sample us : Nat) (h : s.scanner.converter = .ladder i sample us) :
      s.ScannerMove (s.scanner.clearSum.choose s.settings)

/-- What the range recorder does to itself. -/
inductive State.RecorderMove (s : State) : Recorder → Prop
  | take (channel : Nat) (code : Int) : s.RecorderMove (s.recorder.take s.settings.channels channel code)
  | close : s.RecorderMove (s.recorder.mark s.settings.channels)
  | steady : s.RecorderMove { s.recorder with steady := s.recorder.steady && s.steadyNow }

/-- What the crack monitor does to its records, away from an evaluation. -/
inductive State.CracksMove (s : State) : Cracks → Prop
  | rebase : s.CracksMove (s.cracks.rebase s.settings.sites)
  | handOff (i : Nat) (reading : Int) :
      s.CracksMove { s.cracks with sites := s.cracks.sites.modify i (Site.handOff reading s.recorder.total) }

/-- What the mode controller does to itself, but for an entry of the frame mode and a change of G. -/
inductive State.ControlMove (s : State) : Control → Prop
  | fraction (acc : Nat) (h : s.control.mode = .descent ∨ s.control.mode = .ascent)
      (hacc : acc ≤ max s.control.qAcc Config.accFull) : s.ControlMove { s.control with qAcc := acc }
  | accept (n : Nat) (h : s.control.mode = .standby ∨ s.control.mode = .parked ∨ s.control.mode = .hold) :
      s.ControlMove { s.control with accept := n }
  | clearTrip (h : s.control.mode = .tripped) : s.ControlMove { s.control with trip := .none }
  | release (h : s.control.mode = .descent ∨ s.control.mode = .ascent) (hout : s.control.release = some 0) :
      s.ControlMove { s.control with released := true, release := none }

/-- One change that an event makes. -/
inductive State.Move (s : State) : State → Prop
  | change (m : Mode) (h : s.Allows m) : s.Move (s.changeMode m)
  | trip (cause : TripCode) (h : s.control.mode.watchesCutoff = true) : s.Move (s.enterTrip cause)
  | control (c : Control) (h : s.ControlMove c) : s.Move { s with control := c }
  | servo (v : Servo) (h : s.ServoMove v) : s.Move { s with servo := v }
  | seq (q : Sequencer) (h : s.SeqMove q) : s.Move { s with seq := q }
  | line (v : LineUnit) (h : s.LineMove v) : s.Move { s with line := v }
  | scanner (z : Scanner) (h : s.ScannerMove z) : s.Move { s with scanner := z }
  | recorder (r : Recorder) (h : s.RecorderMove r) : s.Move { s with recorder := r }
  | cracks (k : Cracks) (h : s.CracksMove k) : s.Move { s with cracks := k }
  | clock : s.Move s.clockMark
  | judge (sig : RangesClosed) (h : s.running = true) : s.Move (s.putCracks (s.cracks.evaluate s.settings.sites sig))
  | hear (n : Nat) (m : Mode) (v : BeatView) (h : s.OnLine) : s.Move ((s.takeBeat n m v).captureOffset n v).formAlarm
  | expire (n : Nat) (p : PeerState) (h : (s.peers.entry n).state ≠ .empty) : s.Move (s.expire n p).formAlarm
  | strap (loader : Loader) (station : Nat) (h : s.startUp.loader = .inReset) (hloader : loader ≠ .ended) :
      s.Move { s with startUp := { s.startUp with loader := loader, station := station } }
  | record (o : DirectiveOutcome) : s.Move (s.record o)
  | compose (c : Cause) : s.Move (s.compose c)

/-- A chain of changes. -/
def State.Works : State → State → Prop := Relation.ReflTransGen State.Move

theorem State.Works.refl (s : State) : s.Works s := Relation.ReflTransGen.refl

theorem State.Works.trans (h : s.Works t) (k : t.Works u) : s.Works u := Relation.ReflTransGen.trans h k

theorem State.Move.works (h : s.Move t) : s.Works t := Relation.ReflTransGen.single h

theorem State.Works.move (h : s.Works t) (k : t.Move u) : s.Works u := Relation.ReflTransGen.tail h k

theorem State.Works.induction {P : State → Prop} (h : s.Works t) (hmove : ∀ u v, P u → u.Move v → P v) (hs : P s) : P t := by
  induction h with
  | refl => exact hs
  | tail _ hlast ih => exact hmove _ _ ih hlast

/-! ## The shared operations as chains of changes -/

theorem settle_works (s : State) : s.Works s.settle := by
  obtain ⟨-, h⟩ | ⟨-, h⟩ := settle_cases s <;> rw [h]
  · exact (State.Move.compose _).works
  · exact .refl s

theorem trip_works (cause : TripCode) (s : State) : s.Works (s.trip cause) := by
  obtain ⟨-, h⟩ | ⟨hm, h⟩ := trip_cases cause s <;> rw [h]
  · exact .refl s
  · exact (State.Move.trip cause hm).works

theorem respond_works (a : Policy) (s : State) : s.Works (s.respond a) := by
  obtain h | ⟨-, hm, h⟩ | ⟨-, hm, h⟩ := respond_cases a s <;> rw [h]
  · exact .refl s
  · exact (State.Move.change _ (.hold hm)).works
  · exact (State.Move.change _ (.descent hm)).works

theorem holdRequest_works (s : State) : s.Works s.holdRequest := by
  obtain ⟨hm, h⟩ | ⟨-, h⟩ := holdRequest_cases s <;> rw [h]
  · exact (State.Move.change _ (.hold (.inl hm))).works
  · exact .refl s

theorem withSequencer_works {r : Sequencer × Bool} (h : s.SeqMove r.1) : s.Works (s.withSequencer r) := by
  have hseq := (State.Move.seq _ h).works
  unfold State.withSequencer
  split
  · exact hseq.trans (holdRequest_works _)
  · exact hseq

theorem examineBarrier_works (s : State) : s.Works s.examineBarrier := by
  obtain h | ⟨hbarrier, -, h⟩ := examineBarrier_cases s <;> rw [h]
  · exact .refl s
  · exact withSequencer_works (.passOn hbarrier)

theorem arrive_works (message : List Byte) (handOn : State → State) (h : ∀ u : State, u.OnLine → u.Works (handOn u)) :
    s.Works (s.arrive message handOn) := by
  unfold State.arrive
  split
  next hreceives =>
    refine (State.Move.line _ (.receive message hreceives)).works.trans (h _ ?_)
    unfold LineUnit.receives at hreceives
    simp only [Bool.and_eq_true, Bool.or_eq_true, decide_eq_true_eq] at hreceives
    exact hreceives.1
  next => exact .refl s

/-! ## The servo tick -/

theorem loadTick_works (rawLoad rawDisp : Half) (s : State) : s.Works (s.loadTick rawLoad rawDisp) := by
  obtain ⟨-, h⟩ | ⟨-, h⟩ | ⟨he, h⟩ := loadTick_cases rawLoad rawDisp s <;> rw [h]
  · exact .refl s
  · exact (State.Move.servo _ (.sample _ _)).works
  · obtain ⟨cause, -, h⟩ | ⟨-, h⟩ := engagedTick_cases rawLoad rawDisp s he <;> rw [h]
    · refine (State.Move.servo _ (.release rawLoad rawDisp he)).works.move (.trip cause ?_)
      show s.control.mode.watchesCutoff = true
      rw [Mode.watchesCutoff, he, Bool.or_true]
    · exact (State.Move.servo _ (.drive _ _ he)).works

theorem lockstepCeiling_le (released : Bool) (band : Nat) (smallest : Option Nat) :
    lockstepCeiling released band smallest ≤ Config.accFull := by
  unfold lockstepCeiling
  split <;> omega

theorem descended_le (s : State) : s.descended ≤ s.control.qAcc := by
  obtain ⟨h, -⟩ := descentStep_spec s.settings.descentRate
    (lockstepFloor s.control.released s.settings.band (s.peers.largestOffer s.settings.group)) s.control.qAcc
  exact h

theorem ascended_le (s : State) : s.ascended ≤ max s.control.qAcc Config.accFull := by
  have hceiling := lockstepCeiling_le s.control.released s.settings.band (s.peers.smallestOffer s.settings.group)
  obtain ⟨-, h, -⟩ := ascentStep_spec s.settings.descentRate
    (lockstepCeiling s.control.released s.settings.band (s.peers.smallestOffer s.settings.group)) s.control.qAcc
  unfold State.ascended
  omega

theorem fractionTick_works (s : State) : s.Works s.fractionTick := by
  by_cases hd : s.control.mode = .descent
  · have hput : s.Works (s.putQ s.descended) :=
      (State.Move.control _ (.fraction _ (.inl hd) (le_max_of_le_left (descended_le s)))).works
    rw [fractionTick_of_descent hd]
    split
    · exact hput.move (.change _ (.park hd))
    · exact hput
  by_cases ha : s.control.mode = .ascent
  · have hput : s.Works (s.putQ s.ascended) := (State.Move.control _ (.fraction _ (.inr ha) (ascended_le s))).works
    rw [fractionTick_of_ascent ha]
    split
    · exact hput.move (.change _ (.complete ha))
    · exact hput
  rw [fractionTick_of_other hd ha]
  exact .refl s

theorem blockTick_works (rawLoad rawDisp : Half) (s : State) (b : TickBlock) : s.Works (s.blockTick rawLoad rawDisp b) := by
  cases b with
  | servo => exact loadTick_works rawLoad rawDisp s
  | control => exact fractionTick_works s
  | sequencer => exact withSequencer_works .tick
  | recorder => exact (State.Move.recorder _ .steady).works

theorem allBlocks_works (l : List TickBlock) (rawLoad rawDisp : Half) (s : State) : s.Works (s.allBlocks l rawLoad rawDisp) := by
  induction l generalizing s with
  | nil => exact .refl s
  | cons b l ih => exact (blockTick_works rawLoad rawDisp s b).trans (ih _)

theorem noteMove_works (s : State) : s.Works s.noteMove := by
  obtain ⟨-, h⟩ | ⟨-, h⟩ := noteMove_cases s <;> rw [h]
  · exact (State.Move.line _ .cause).works
  · exact .refl s

/-! ## The cycle mark -/

theorem programmeMark_works (s : State) : s.Works s.programmeMark :=
  (withSequencer_works .mark).trans State.Move.clock.works

theorem Mode.running_of_withdrawal {m n : Mode} (h : m.withdrawal < n.withdrawal) : n ≠ .start ∧ n ≠ .cfgFault := by
  revert h
  cases n <;> simp [Mode.withdrawal]

/-- The mark stops no clock. -/
theorem State.Withdraws.running (h : s.Withdraws t) (hs : s.running = true) : t.running = true := by
  obtain ⟨hm, -⟩ | ⟨hm, -⟩ := h.control
  · unfold State.running at hs ⊢
    rwa [hm]
  · obtain ⟨hstart, hfault⟩ := Mode.running_of_withdrawal hm
    rw [← Bool.not_eq_false]
    exact fun hstop => (running_eq_false.mp hstop).elim hstart hfault

theorem mem_postingOrder (c : Settings) (first : Nat) {i : Nat} (h : i ∈ postingOrder c first) : i ∈ postedSites c := by
  unfold postingOrder at h
  split at h
  next hfirst =>
    obtain rfl | h := List.mem_cons.mp h
    · exact hfirst
    · exact List.mem_of_mem_erase h
  next => exact h

theorem postAll_works (s : State) (l : List Nat) (h : ∀ i ∈ l, i ∈ postedSites s.settings) :
    s.Works { s with scanner := l.foldl (Scanner.post s.settings) s.scanner } := by
  induction l generalizing s with
  | nil => exact .refl s
  | cons i l ih =>
    refine (State.Move.scanner _ (.post i (h i (by simp)))).works.trans ?_
    exact ih { s with scanner := s.scanner.post s.settings i } fun j hj => h j (by simp [hj])

theorem evaluateSites_works (sig : RangesClosed) (h : s.running = true) : s.Works (s.evaluateSites sig) := by
  have hput := (State.Move.judge sig h).works
  unfold State.evaluateSites
  dsimp only
  split
  · exact hput.trans (State.Move.line _ .cause).works
  · exact hput

theorem recordsMark_works (site : Nat) (h : s.running = true) : s.Works (s.recordsMark site) := by
  have hclose := (State.Move.recorder _ (State.RecorderMove.close (s := s))).works
  refine (hclose.trans (evaluateSites_works (s.recorder.signal s.settings.channels) h)).trans ?_
  exact postAll_works _ _ fun i hi => mem_postingOrder _ site hi

theorem handleMark_works (first : Bool) (site : Nat) (h : s.running = true) : s.Works (s.handleMark first site) := by
  have hscanner : s.Works s.scannerMark := (State.Move.scanner _ .mark).works
  cases first with
  | true =>
    exact (hscanner.trans (programmeMark_works _)).trans (recordsMark_works site ((programmeMark_withdraws s.scannerMark).running h))
  | false => exact (hscanner.trans (recordsMark_works site h)).trans (programmeMark_works _)

/-! ## The peer view -/

theorem arrival_works (n : Nat) (m : Mode) (v : BeatView) (h : s.OnLine) : s.Works (s.arrival n m v) := by
  refine (State.Move.hear n m v h).works.trans ?_
  unfold State.arrival
  dsimp only
  refine State.Works.trans ?_ (examineBarrier_works _)
  split
  · exact respond_works _ _
  · exact .refl _

theorem duplicateStation_works (s : State) : s.Works s.duplicateStation := by
  unfold State.duplicateStation
  split
  next h => exact (State.Move.line _ (.silence h)).works.trans (respond_works _ _)
  next => exact .refl s

theorem receiveBeat_works (source : Nat) (body : List Byte) (h : s.OnLine) : s.Works (s.receiveBeat source body) := by
  unfold State.receiveBeat
  repeat' split
  · exact duplicateStation_works s
  · exact arrival_works _ _ _ h
  · exact .refl s
  · exact .refl s

theorem state_ne_empty_of_expires {p : PeerState} {ms : Nat} {e : Peer} (hp : p ≠ .empty) (h : e.expires p ms = true) :
    e.state ≠ .empty := by
  simp only [Peer.expires, Bool.and_eq_true, decide_eq_true_eq] at h
  rwa [h.1]

theorem losePeer_works (n : Nat) (h : (s.peers.entry n).state ≠ .empty) : s.Works (s.losePeer n) := by
  refine (State.Move.expire n .lost h).works.trans ?_
  unfold State.losePeer
  dsimp only
  refine State.Works.trans ?_ (examineBarrier_works _)
  split
  · exact respond_works _ _
  · exact .refl _

/-! ## Directives -/

theorem runTarget_inl {entry : Entry} {m : Mode} (h : s.runTarget entry = .inl m) :
    (m = .run ∨ m = .ascent) ∧ (s.control.mode = .standby ∨ s.control.mode = .parked ∨ s.control.mode = .hold) := by
  unfold State.runTarget at h
  split at h <;> try (split at h)
  all_goals simp_all

theorem engage_works (d : Directive) (entry : Entry)
    (h : s.control.mode = .standby ∨ s.control.mode = .parked ∨ s.control.mode = .hold) : s.Works (s.engage d entry) := by
  have hscale : s.Works (s.writeScale (directiveScale d)) := (State.Move.seq _ (.scale _)).works
  have hwritten := hscale.move (.control _ (.accept (directiveAccept d) h))
  cases entry with
  | resume => exact hwritten
  | restart => exact hwritten.move (.seq _ .restart)

theorem examineBarrier_control_of_not_run (h : s.control.mode ≠ .run) : s.examineBarrier.control = s.control := by
  obtain h' | ⟨-, -, h'⟩ := examineBarrier_cases s <;> rw [h']
  unfold State.withSequencer State.holdRequest
  split <;> rfl

/-- An examination of the barrier outside RUN takes nothing from what allows an adopted RUN. -/
theorem runInto_works {m : Mode} (barrierFirst : Bool) (hm : m = .run ∨ m = .ascent)
    (h : s.control.mode = .standby ∨ s.control.mode = .parked ∨ s.control.mode = .hold)
    (haccept : s.settings.policyFor s.peers.groupAlarm = .note ∨ s.peers.groupAlarm ≤ s.control.accept) :
    s.Works (s.runInto m barrierFirst) := by
  have hrun : s.control.mode ≠ .run := by obtain h | h | h := h <;> simp [h]
  obtain ⟨-, -, -, -, hpeers, -, hsettings, -⟩ := examineBarrier_keeps s
  have hcontrol := examineBarrier_control_of_not_run hrun
  cases barrierFirst with
  | true =>
    refine (examineBarrier_works s).move (.change m (.engage hm ?_ ?_))
    · rwa [hcontrol]
    · rwa [hcontrol, hpeers, hsettings]
  | false => exact (State.Move.change m (.engage hm h haccept)).works.trans (examineBarrier_works _)

theorem engage_frame (d : Directive) (entry : Entry) (s : State) :
    (s.engage d entry).control = { s.control with accept := directiveAccept d } ∧ (s.engage d entry).peers = s.peers
      ∧ (s.engage d entry).settings = s.settings := ⟨rfl, rfl, rfl⟩

theorem decideRun_works (d : Directive) (entry : Entry) (barrierFirst : Bool) (s : State) :
    s.Works (s.decideRun d entry barrierFirst).2 := by
  unfold State.decideRun
  split
  · exact .refl s
  split
  · exact .refl s
  split
  · exact .refl s
  next halarm =>
    split
    · exact .refl s
    next m htarget =>
      obtain ⟨hm, hmode⟩ := runTarget_inl htarget
      refine (engage_works d entry hmode).trans (runInto_works barrierFirst hm hmode ?_)
      simp only [State.alarmForbids, Bool.and_eq_true, decide_eq_true_eq, not_and, Nat.not_lt] at halarm
      exact (em _).imp_right halarm

theorem decideHold_works (s : State) : s.Works s.decideHold.2 := by
  unfold State.decideHold
  split
  next h => exact (State.Move.change _ (.hold (.inl h))).works
  next h => exact (State.Move.change _ (.hold (.inr h))).works
  next => exact .refl s

theorem decideUnload_works (s : State) : s.Works s.decideUnload.2 := by
  unfold State.decideUnload
  split
  next h => exact (State.Move.change _ (.descent (.inl h))).works
  next h => exact (State.Move.change _ (.descent (.inr (.inl h)))).works
  next h => exact (State.Move.change _ (.descent (.inr (.inr h)))).works
  next => exact .refl s

theorem decideStop_works (s : State) : s.Works s.decideStop.2 := by
  unfold State.decideStop
  split
  next h => exact (State.Move.change _ (.stop h)).works
  next => exact .refl s

theorem decideResetTrip_works (s : State) : s.Works s.decideResetTrip.2 := by
  unfold State.decideResetTrip
  split
  · exact .refl s
  next h =>
    have hm := not_not.mp h
    split
    · exact .refl s
    · exact (State.Move.control _ (.clearTrip hm)).works.move (.change _ (.resetTrip hm))

theorem obey_works {action : State → Decision} (h : ∀ u : State, u.Works (action u).2) (s : State) : s.Works (s.obey action) := by
  have hjudge : s.Works (s.judge action).2 := by
    unfold State.judge
    split
    · exact .refl s
    · exact h s
  exact hjudge.trans (State.Move.record _).works

theorem judgeEpoch_works (e : Half) {action : State → Decision} (h : ∀ u : State, u.Works (action u).2) (honline : s.OnLine) :
    s.Works (s.judgeEpoch e action) := by
  unfold State.judgeEpoch
  split
  next hseen => exact (State.Move.line _ (.seeEpoch e honline (.inl hseen))).works
  next o hseen =>
    split
    next hnewer =>
      have hsee : s.Works (s.seeEpoch e) := (State.Move.line _ (.seeEpoch e honline (.inr ⟨o, hseen, hnewer⟩))).works
      exact hsee.trans (obey_works h _)
    next => exact .refl s

theorem directive_works (code : Byte) (d : Directive) {action : State → Decision} (h : ∀ u : State, u.Works (action u).2) (s : State) :
    s.Works (s.directive code d action) := by
  refine arrive_works _ _ fun u honline => ?_
  split
  · exact (judgeEpoch_works d.epoch h honline).trans (settle_works _)
  · exact .refl u

/-! ## Queries -/

theorem countOverrun_works (s : State) : s.Works s.countOverrun := by
  unfold State.countOverrun
  split
  · exact (State.Move.line _ (.overrun _)).works
  · exact .refl s

theorem countOverrun_line (s : State) : s.countOverrun.line.line = s.line.line := by
  unfold State.countOverrun
  split <;> rfl

theorem query_works (kind : Nat) (q : Query) (content : State → Option (List Byte)) (s : State) :
    s.Works (s.query kind q content) := by
  refine arrive_works _ _ fun u _ => ?_
  split
  next h =>
    rw [Bool.and_eq_true] at h
    exact (countOverrun_works u).trans (State.Move.line _ (.reply _ (by rw [countOverrun_line]; exact h.2))).works
  next => exact .refl u

/-! ## The commands -/

/-- The blocks as they stand when a good image has been taken and STANDBY entered, with its PROMPT beat to come (R168, R169). -/
def State.startedUp (m : List Byte) (first : Nat) (s : State) : State :=
  ((((s.retain (tagOf m)).takeSettings (readSettings m) (lineBitUs m)).fireStarting first).formLevel).enterMode .standby

/-- The state that a power-on reset leaves (R163). -/
def State.poweredOn (s : State) : State := s.afterReset Sequencer.reset Recorder.cleared Cracks.cleared.sites none

/-- The state that a reset by the pin leaves (R163). -/
def State.pinReset (s : State) : State := s.afterReset s.seq.retained s.recorder.retained s.cracks.sites s.startUp.tag

theorem reportCutoff_works (s : State) : s.Works s.reportCutoff := by
  obtain ⟨-, h⟩ | ⟨-, h⟩ := reportCutoff_cases s <;> rw [h]
  · exact .refl s
  · exact trip_works _ s

theorem endStartUp_works (m : List Byte) (first : Nat) (s : State) : (s.startedUp m first).Works (s.endStartUp m first) :=
  (settle_works _).trans (reportCutoff_works _)

theorem works_ite {c : Prop} [Decidable c] (h : c → s.Works t) : s.Works (if c then t else s) := by
  split
  · exact h ‹_›
  · exact .refl s

theorem takeCodes_works (n : Nat) (codes : List Half) (ended : State → State) (hbusy : s.scanner.converter ≠ .idle)
    (hended : s.Works (ended s)) : s.Works (s.takeCodes n codes ended) := by
  obtain ⟨-, h⟩ | ⟨-, -, h⟩ | ⟨-, -, h⟩ := takeCodes_cases n codes ended s <;> rw [h]
  · exact hended
  · exact (State.Move.scanner _ (.samples codes hbusy)).works
  · exact .refl s

theorem takeUnfinished_works (characters : List Byte) (s : State) : s.Works (s.takeUnfinished characters) := by
  obtain h | ⟨hassembles, hmore, h⟩ := takeUnfinished_cases characters s <;> rw [h]
  · exact .refl s
  · exact (State.Move.line _ (.take characters hassembles hmore)).works

theorem discard_works (b : Bool) : s.Works (if s.line.assembles && b then { s with line := s.line.discard } else s) :=
  works_ite fun h => (State.Move.line _ (.discard (Bool.and_eq_true _ _ ▸ h).1)).works

theorem peer_expires_works {n ms : Nat} {p : PeerState} {b : Bool} (hp : p ≠ .empty)
    (h : (s.peers.entry n).state ≠ .empty → s.Works t) :
    s.Works (if b && (s.peers.entry n).expires p ms then t else s) :=
  works_ite fun hexpires => h (state_ne_empty_of_expires hp (Bool.and_eq_true _ _ ▸ hexpires).2)

theorem works_of_exec {i : Instr} (h : exec i s = .next t) (hu : exec i s = .next u) (hworks : s.Works u) : s.Works t := by
  rw [h] at hu
  injection hu with hu
  rwa [hu]

/-- Every command but a reset and the end of the image read is a chain of changes. -/
theorem exec_works {i : Instr} (h : exec i s = .next t) (hpower : i ≠ .powerOnReset) (hpin : i ≠ .resetPinAssert)
    (himage : ∀ image p, i ≠ .imageReadComplete image p) : s.Works t := by
  cases i with
  | powerOnReset => exact absurd rfl hpower
  | resetPinAssert => exact absurd rfl hpin
  | imageReadComplete image p => exact absurd rfl (himage image p)
  | resetRelease straps =>
    exact works_of_exec h rfl (works_ite fun hreset => (State.Move.strap _ _ hreset (by split <;> simp)).works)
  | servoTick order rawLoad rawDisp =>
    exact works_of_exec h rfl (((allBlocks_works _ rawLoad rawDisp s).trans (noteMove_works _)).trans (settle_works _))
  | carrierPeriodStart => exact works_of_exec h rfl (State.Move.servo _ .carrier).works
  | cutoffAssert =>
    refine works_of_exec h rfl (State.Works.trans ?_ (settle_works _))
    have hcutoff := (State.Move.servo _ (State.ServoMove.cutoff (s := s) true)).works
    dsimp only
    split
    · exact hcutoff.trans (trip_works _ _)
    · exact hcutoff
  | cutoffRelease => exact works_of_exec h rfl (State.Move.servo _ (.cutoff false)).works
  | cycleMark first site =>
    exact works_of_exec h rfl (works_ite fun hrun => (handleMark_works first site hrun).move (.compose .mark))
  | scanPointFire point =>
    refine works_of_exec h rfl (works_ite fun hfires => ?_)
    exact (State.Move.scanner _ (.fire point _ (Bool.and_eq_true _ _ ▸ hfires).2)).works
  | recordComplete codes =>
    refine works_of_exec h rfl ?_
    split
    next k r sample us carried hserves =>
      refine takeCodes_works _ codes _ (by simp [hserves]) ?_
      exact (State.Move.recorder _ (.take _ _)).works.move (.scanner _ (.record k r sample us carried hserves))
    next => exact .refl s
  | ladderReadComplete codes =>
    refine works_of_exec h rfl ?_
    split
    next i sample us hserves =>
      refine takeCodes_works _ codes _ (by simp [hserves]) ?_
      exact (State.Move.cracks _ (.handOff _ _)).works.move (.scanner _ (.ladder i sample us hserves))
    next => exact .refl s
  | beatArrival source body =>
    exact works_of_exec h rfl (arrive_works _ _ fun u honline => (receiveBeat_works _ _ honline).trans (settle_works _))
  | replyReceived source body => exact works_of_exec h rfl (arrive_works _ _ fun u _ => .refl u)
  | receiveDiscard error =>
    cases error with
    | unfinished characters => exact works_of_exec h rfl (takeUnfinished_works characters s)
    | parity | framing | tooLong | rejected =>
      refine works_of_exec h rfl ?_
      simp only [Bool.and_assoc]
      exact discard_works _
  | receiveGapExpiry => exact works_of_exec h rfl (discard_works _)
  | peerStale n =>
    refine works_of_exec h rfl (peer_expires_works (by decide) fun he => ?_)
    exact ((State.Move.expire n .stale he).works.trans (examineBarrier_works _)).trans (settle_works _)
  | peerLost n =>
    exact works_of_exec h rfl (peer_expires_works (by decide) fun he => (losePeer_works n he).trans (settle_works _))
  | lockstepRelease =>
    exact works_of_exec h rfl (works_ite fun hout => (State.Move.control _ (.release hout.1 hout.2)).works)
  | intervalBeat => exact works_of_exec h rfl (works_ite fun _ => (State.Move.compose .interval).works)
  | run d barrierFirst =>
    refine works_of_exec h rfl ?_
    split
    · exact directive_works _ d (decideRun_works d _ barrierFirst) s
    · exact arrive_works _ _ fun u _ => .refl u
  | hold d => exact works_of_exec h rfl (directive_works _ d decideHold_works s)
  | unload d => exact works_of_exec h rfl (directive_works _ d decideUnload_works s)
  | stop d => exact works_of_exec h rfl (directive_works _ d decideStop_works s)
  | resetTrip d => exact works_of_exec h rfl (directive_works _ d decideResetTrip_works s)
  | baseline d => exact works_of_exec h rfl (directive_works _ d (fun u => (State.Move.cracks _ .rebase).works) s)
  | scale d => exact works_of_exec h rfl (directive_works _ d (fun u => (State.Move.seq _ (.scale _)).works) s)
  | channel q | histLo q | histHi q | crack q | segment q | counters q | peer q | queryUnknownKind kind q =>
    exact works_of_exec h rfl (query_works _ q _ s)
  | transmitStart =>
    refine works_of_exec h rfl ?_
    split
    next held hline hgap hheld => exact (State.Move.line _ (.send held hline hgap hheld)).works
    next => exact .refl s
  | transmitComplete =>
    refine works_of_exec h rfl ?_
    split
    next wire left hsending => exact (State.Move.line _ (.sent wire left hsending)).works
    next => exact .refl s
  | collision bit =>
    refine works_of_exec h rfl ?_
    split
    next wire left hsending => exact works_ite fun _ => (State.Move.line _ (.collide wire left hsending)).works
    next => exact .refl s
  | jamEnd =>
    refine works_of_exec h rfl ?_
    split
    next left hjam =>
      dsimp only
      split
      next hlimit => exact (State.Move.line _ (.abandon left hjam hlimit)).works
      next hlimit => exact (State.Move.line _ (.backOff left _ hjam (by omega))).works
    next => exact .refl s
  | backoffEnd =>
    refine works_of_exec h rfl ?_
    split
    next left hbackoff => exact (State.Move.line _ (.awaitGap left hbackoff)).works
    next => exact .refl s
  | lineStuck =>
    refine works_of_exec h rfl ?_
    split
    next hline => exact (State.Move.line _ (.stick (.inl hline))).works
    next hline => exact (State.Move.line _ (.stick (.inr hline))).works
    next => exact .refl s
  | lineStuckRelease => exact works_of_exec h rfl (works_ite fun hstuck => (State.Move.line _ (.unstick hstuck)).works)
  | receiveAssemblerReady =>
    exact works_of_exec h rfl (works_ite fun hwaits => (State.Move.line _ (.ready hwaits.1 hwaits.2)).works)
  | directiveUnknownAction action d => exact works_of_exec h rfl (arrive_works _ _ fun u _ => .refl u)

/-- What a command does: a reset, the end of start-up, or a chain of changes. -/
theorem exec_cases {i : Instr} (h : exec i s = .next t) :
    (i = .powerOnReset ∧ t = s.poweredOn) ∨ (i = .resetPinAssert ∧ t = s.pinReset)
      ∨ (∃ image p, i = .imageReadComplete image p ∧ s.startUp.loader.isReading = true
          ∧ ((∃ code, imageFault (imageOf image) = some code ∧ (s.failStartUp code (lineBitUs (imageOf image))).Works t)
            ∨ (imageFault (imageOf image) = none ∧ (s.startedUp (imageOf image) p).Works t)))
      ∨ s.Works t := by
  by_cases hpower : i = .powerOnReset
  · subst hpower
    exact .inl ⟨rfl, (Host.Outcome.next.inj h).symm⟩
  by_cases hpin : i = .resetPinAssert
  · subst hpin
    exact .inr (.inl ⟨rfl, (Host.Outcome.next.inj h).symm⟩)
  by_cases himage : ∃ image p, i = .imageReadComplete image p
  · obtain ⟨image, p, rfl⟩ := himage
    injection h with h
    subst h
    split
    next hreading =>
      refine .inr (.inr (.inl ⟨image, p, rfl, hreading, ?_⟩))
      dsimp only
      split
      next code hfault => exact .inl ⟨code, hfault, settle_works _⟩
      next hgood => exact .inr ⟨hgood, (endStartUp_works _ p s).trans (settle_works _)⟩
    next => exact .inr (.inr (.inr (.refl s)))
  · exact .inr (.inr (.inr (exec_works h hpower hpin fun image p hi => himage ⟨image, p, hi⟩)))

/-- What a step does: a microsecond, or the command at the front of the queue. -/
theorem step_cases (h : step s = .next t) :
    (s.pending = [] ∧ t = s.microsecond)
      ∨ ∃ i rest, s.pending = i :: rest ∧ exec i { s with pending := rest } = .next t := by
  unfold step at h
  split at h
  next i rest hpending => exact .inr ⟨i, rest, hpending, h⟩
  next hpending => exact .inl ⟨hpending, (Host.Outcome.next.inj h).symm⟩

/-! ## The induction over a step -/

/-- What it takes for every step to keep a law `P` beside a law `A` that it may rest on: the queue has no part in it, and time, the two
resets, the two ends of start-up and each change keep it. -/
structure Kept (A P : State → Prop) : Prop where
  queue : ∀ (s : State) (l : List Instr), P s → P { s with pending := l }
  advance : ∀ s : State, A s → P s → P s.advance
  powerOn : ∀ s : State, A s → P s → P s.poweredOn
  pin : ∀ s : State, A s → P s → P s.pinReset
  fail : ∀ (s : State) (image : List Byte) (code : FaultCode), A s → P s → s.startUp.loader.isReading = true →
    imageFault (imageOf image) = some code → P (s.failStartUp code (lineBitUs (imageOf image)))
  start : ∀ (s : State) (image : List Byte) (first : Nat), A s → P s → s.startUp.loader.isReading = true →
    imageFault (imageOf image) = none → P (s.startedUp (imageOf image) first)
  move : ∀ s t : State, A s → P s → s.Move t → P t

theorem Kept.exec {A P : State → Prop} (hA : Kept (fun _ => True) A) (hP : Kept A P) {i : Instr} (ha : A s) (hp : P s)
    (h : exec i s = .next t) : A t ∧ P t := by
  have hworks {u v : State} (hu : A u ∧ P u) (huv : u.Works v) : A v ∧ P v :=
    State.Works.induction (P := fun x => A x ∧ P x) huv
      (fun x y hx hxy => ⟨hA.move x y trivial hx.1 hxy, hP.move x y hx.1 hx.2 hxy⟩) hu
  obtain ⟨-, rfl⟩ | ⟨-, rfl⟩ | ⟨image, p, -, hreading, ⟨code, hfault, hw⟩ | ⟨hgood, hw⟩⟩ | hw := exec_cases h
  · exact ⟨hA.powerOn s trivial ha, hP.powerOn s ha hp⟩
  · exact ⟨hA.pin s trivial ha, hP.pin s ha hp⟩
  · exact hworks ⟨hA.fail s image code trivial ha hreading hfault, hP.fail s image code ha hp hreading hfault⟩ hw
  · exact hworks ⟨hA.start s image p trivial ha hreading hgood, hP.start s image p ha hp hreading hgood⟩ hw
  · exact hworks ⟨ha, hp⟩ hw

/-- A law that rests on another is kept with it by every step. -/
theorem Kept.step {A P : State → Prop} (hA : Kept (fun _ => True) A) (hP : Kept A P) (ha : A s) (hp : P s)
    (h : step s = .next t) : A t ∧ P t := by
  obtain ⟨-, rfl⟩ | ⟨i, rest, -, hexec⟩ := step_cases h
  · exact ⟨hA.queue _ _ (hA.advance s trivial ha), hP.queue _ _ (hP.advance s ha hp)⟩
  · exact Kept.exec hA hP (hA.queue s rest ha) (hP.queue s rest hp) hexec

theorem Kept.of_true : Kept (fun _ => True) fun _ => True :=
  ⟨fun _ _ _ => trivial, fun _ _ _ => trivial, fun _ _ _ => trivial, fun _ _ _ => trivial, fun _ _ _ _ _ _ _ => trivial,
    fun _ _ _ _ _ _ _ => trivial, fun _ _ _ _ _ => trivial⟩

/-- A law that rests on no other is kept by every step. -/
theorem Kept.step_alone {P : State → Prop} (hP : Kept (fun _ => True) P) (hp : P s) (h : Machine.step s = .next t) : P t :=
  (Kept.step Kept.of_true hP trivial hp h).2

/-- A law is kept with the one it rests on. -/
theorem Kept.and {A P : State → Prop} (hA : Kept (fun _ => True) A) (hP : Kept A P) : Kept (fun _ => True) fun s => A s ∧ P s :=
  ⟨fun s l h => ⟨hA.queue s l h.1, hP.queue s l h.2⟩, fun s _ h => ⟨hA.advance s trivial h.1, hP.advance s h.1 h.2⟩,
    fun s _ h => ⟨hA.powerOn s trivial h.1, hP.powerOn s h.1 h.2⟩, fun s _ h => ⟨hA.pin s trivial h.1, hP.pin s h.1 h.2⟩,
    fun s image code _ h hr hf => ⟨hA.fail s image code trivial h.1 hr hf, hP.fail s image code h.1 h.2 hr hf⟩,
    fun s image first _ h hr hf => ⟨hA.start s image first trivial h.1 hr hf, hP.start s image first h.1 h.2 hr hf⟩,
    fun s t _ h hm => ⟨hA.move s t trivial h.1 hm, hP.move s t h.1 h.2 hm⟩⟩

/-! ## Laws at the shared operations -/

/-- R24: what every entry keeps, a change of mode keeps. -/
theorem changeMode_keeps_law {P : State → Prop} {m : Mode} (henter : P (s.enterMode m))
    (htrip : ∀ u : State, P u → P (u.enterTrip .cutoff)) : P (s.changeMode m) := by
  obtain h | ⟨-, -, h⟩ := changeMode_cases m s <;> rw [h]
  · exact henter
  · exact htrip _ henter

/-- R118, R140: what a new G and the response to its rise keep, a forming of G keeps. -/
theorem formAlarm_keeps_law {P : State → Prop} (hs : P s) (hput : ∀ g, P (s.putAlarm g))
    (hchange : ∀ (u : State) (m : Mode), P u → u.Allows m → P (u.changeMode m)) : P s.formAlarm := by
  have hrespond (u : State) (a : Policy) (hu : P u) : P (u.respond a) := by
    obtain h | ⟨-, hm, h⟩ | ⟨-, hm, h⟩ := respond_cases a u <;> rw [h]
    · exact hu
    · exact hchange u _ hu (.hold hm)
    · exact hchange u _ hu (.descent hm)
  obtain ⟨-, h'⟩ | ⟨-, h'⟩ | ⟨-, h'⟩ := formAlarm_cases s <;> rw [h']
  · exact hs
  · exact hput _
  · obtain h | ⟨-, -, h⟩ := riseResponse_cases (s.peers.formAlarm s.settings.group s.cracks.level)
      (s.putAlarm (s.peers.formAlarm s.settings.group s.cracks.level)) <;> rw [h]
    · exact hput _
    · exact hrespond _ _ (hput _)

end Sys2Proof.Machine
end

section
/-! The start of the node and the frame's own laws: START and the loader (R163), the valve at rest (R18, R21 to R23), the descent
fraction (R127), the release timer (R131), the envelope (R43 to R45) and the integrator (R16). They read the mode controller, the load
servo and the sequencer alone, so that of the changes of an event few have a part in them (`Kept.of_drive`). -/

namespace Sys2Proof.Machine

variable {s t u : State}

/-! ## Which modes a change comes from and leads to -/

theorem State.Allows.running {m : Mode} (h : s.Allows m) : s.running = true := by
  unfold State.running
  cases h with
  | hold hfrom => obtain hfrom | hfrom := hfrom <;> rw [hfrom]
  | descent hfrom => obtain hfrom | hfrom | hfrom := hfrom <;> rw [hfrom]
  | engage _ hfrom _ => obtain hfrom | hfrom | hfrom := hfrom <;> rw [hfrom]
  | park hfrom | complete hfrom | stop hfrom | resetTrip hfrom => rw [hfrom]

/-- Every change leads to an engaged mode or to STANDBY. -/
theorem State.Allows.target {m : Mode} (h : s.Allows m) : m.engaged = true ∨ m = .standby := by
  cases h with
  | engage hm _ _ => obtain rfl | rfl := hm <;> exact .inl rfl
  | stop | resetTrip => exact .inr rfl
  | hold | descent | park | complete => exact .inl rfl

theorem State.Allows.runs {m : Mode} (h : s.Allows m) : m ≠ .start ∧ m ≠ .cfgFault := by
  obtain h | rfl := h.target
  · cases m <;> simp_all [Mode.engaged]
  · simp

theorem changeMode_mode (m : Mode) (s : State) : (s.changeMode m).control.mode = m ∨ (s.changeMode m).control.mode = .tripped := by
  obtain h | ⟨-, -, h⟩ := changeMode_cases m s <;> rw [h]
  · exact .inl rfl
  · exact .inr rfl

theorem State.Allows.changeMode_running {m : Mode} (h : s.Allows m) : (s.changeMode m).running = true := by
  rw [← Bool.not_eq_false, running_eq_false]
  obtain ⟨hstart, hfault⟩ := h.runs
  obtain h | h := changeMode_mode m s <;> rw [h] <;> simp [hstart, hfault]

theorem running_of_watchesCutoff (h : s.control.mode.watchesCutoff = true) : s.running = true := by
  rw [← Bool.not_eq_false, running_eq_false]
  rintro (hm | hm) <;> rw [hm] at h <;> simp [Mode.watchesCutoff, Mode.engaged] at h

/-! ## The end of start-up -/

theorem fireStarting_scanner_alone (first : Nat) (s : State) :
    s.fireStarting first = { s with scanner := (s.fireStarting first).scanner } := by
  have hfold (l : List Nat) (u : State) : l.foldl State.firePoint u = { u with scanner := (l.foldl State.firePoint u).scanner } := by
    induction l generalizing u with
    | nil => rfl
    | cons k l ih =>
      rw [List.foldl_cons, ih]
      rfl
  exact hfold _ s

/-- R168: the records as start-up finds them, and the tag. -/
theorem retain_cases (tag : Half × Half) (s : State) :
    (s.startUp.tag = some tag ∧ s.retain tag = s)
      ∨ (s.startUp.tag ≠ some tag
          ∧ s.retain tag = { s with seq := Sequencer.reset, recorder := Recorder.cleared, cracks := Cracks.cleared
                                    startUp := { s.startUp with tag := some tag } }) := by
  unfold State.retain
  split
  · exact .inl ⟨‹_›, rfl⟩
  · exact .inr ⟨‹_›, rfl⟩

/-- The state in which the blocks form their levels at the end of start-up: the constants taken, the clock started and the first
points fired. -/
def State.readied (m : List Byte) (first : Nat) (s : State) : State :=
  ((s.retain (tagOf m)).takeSettings (readSettings m) (lineBitUs m)).fireStarting first

/-- R109: the crack monitor's records with the level and the indication that they give. -/
def State.formed (s : State) : Cracks :=
  { s.cracks with level := levelOf s.settings.sites s.cracks.sites, sensorFault := sensorFaultOf s.settings.sites s.cracks.sites }

theorem startedUp_eq (m : List Byte) (first : Nat) (s : State) :
    s.startedUp m first = ((s.readied m first).putCracks (s.readied m first).formed).enterMode .standby := rfl

/-- R168, R169: the end of start-up finds the blocks it does not start as they were, but for retained records cleared. -/
theorem readied_spec (m : List Byte) (first : Nat) (s : State) :
    (s.readied m first).servo = s.servo ∧ (s.readied m first).control = s.control ∧ (s.readied m first).peers = s.peers
      ∧ (s.readied m first).settings = readSettings m ∧ (s.readied m first).line = s.line.open (lineBitUs m)
      ∧ (s.readied m first).clock = Clock.started (readSettings m).points (readSettings m).defaultPeriod
      ∧ (s.readied m first).startUp.loader = .ended
      ∧ (s.readied m first).seq = (s.retain (tagOf m)).seq ∧ (s.readied m first).recorder = (s.retain (tagOf m)).recorder
      ∧ (s.readied m first).cracks = (s.retain (tagOf m)).cracks := by
  unfold State.readied
  rw [fireStarting_scanner_alone]
  obtain ⟨-, h⟩ | ⟨-, h⟩ := retain_cases (tagOf m) s <;> rw [h] <;> exact ⟨rfl, rfl, rfl, rfl, rfl, rfl, rfl, rfl, rfl, rfl⟩

/-- R140: in START no rise of G is answered. -/
theorem respond_of_start (a : Policy) (h : s.control.mode = .start) : s.respond a = s := by
  unfold State.respond
  rw [h]
  cases a <;> rfl

theorem formAlarm_of_start (h : s.control.mode = .start) :
    s.formAlarm = s ∨ s.formAlarm = s.putAlarm (s.peers.formAlarm s.settings.group s.cracks.level) := by
  obtain ⟨-, h'⟩ | ⟨-, h'⟩ | ⟨-, h'⟩ := formAlarm_cases s <;> rw [h']
  · exact .inl rfl
  · exact .inr rfl
  · right
    obtain h' | ⟨-, -, h'⟩ := riseResponse_cases (s.peers.formAlarm s.settings.group s.cracks.level)
      (s.putAlarm (s.peers.formAlarm s.settings.group s.cracks.level)) <;> rw [h']
    exact respond_of_start _ h

/-- The mode of a node whose image is being read. -/
theorem State.StartLaw.start_of_reading (h : s.StartLaw) (hreading : s.startUp.loader.isReading = true) : s.control.mode = .start := by
  refine h.mpr fun hended => ?_
  rw [hended] at hreading
  contradiction

/-- A forming of G in START leaves the load servo, the sequencer, and the mode controller but for the alarm output. -/
theorem putCracks_of_start (k : Cracks) (h : s.control.mode = .start) :
    (s.putCracks k).servo = s.servo ∧ (s.putCracks k).seq = s.seq
      ∧ (s.putCracks k).control = { s.control with alarm := (s.putCracks k).control.alarm } := by
  obtain ⟨-, h'⟩ | ⟨-, h'⟩ := putCracks_cases k s <;> rw [h']
  · exact ⟨rfl, rfl, rfl⟩
  · obtain h'' | h'' := formAlarm_of_start (s := { s with cracks := k, line := { s.line with prompt := true } }) h <;> rw [h''] <;>
      exact ⟨rfl, rfl, rfl⟩

theorem putCracks_settings (k : Cracks) (s : State) : (s.putCracks k).settings = s.settings :=
  (putCracks_withdraws k s).settings

theorem putCracks_startUp (k : Cracks) (s : State) : (s.putCracks k).startUp = s.startUp := by
  obtain ⟨-, h⟩ | ⟨-, h⟩ := putCracks_cases k s <;> rw [h]
  obtain ⟨-, -, -, -, -, hstartUp, -⟩ := formAlarm_keeps { s with cracks := k, line := { s.line with prompt := true } }
  exact hstartUp

/-- R169: what the end of start-up leaves of the frame, entered from START. -/
theorem startedUp_drive (m : List Byte) (first : Nat) (h : s.control.mode = .start) :
    (s.startedUp m first).servo = s.servo.enter .standby
      ∧ (s.startedUp m first).seq = { (s.retain (tagOf m)).seq with softStep := none, envelope := 0 }
      ∧ (s.startedUp m first).control.mode = .standby ∧ (s.startedUp m first).control.qAcc = 0
      ∧ (s.startedUp m first).control.release = none ∧ (s.startedUp m first).control.released = false
      ∧ (s.startedUp m first).settings = readSettings m ∧ (s.startedUp m first).startUp.loader = .ended := by
  obtain ⟨hservo, hcontrol, -, hsettings, -, -, hloader, hseq, -⟩ := readied_spec m first s
  obtain ⟨hservo', hseq', hcontrol'⟩ := putCracks_of_start (s.readied m first).formed (by rwa [hcontrol])
  have hsettings' := (putCracks_settings (s.readied m first).formed (s.readied m first)).trans hsettings
  have hloader' := (congrArg StartUp.loader (putCracks_startUp (s.readied m first).formed (s.readied m first))).trans hloader
  rw [hservo] at hservo'
  rw [hseq] at hseq'
  rw [startedUp_eq]
  generalize (s.readied m first).putCracks (s.readied m first).formed = v at *
  refine ⟨?_, ?_, rfl, rfl, rfl, rfl, hsettings', hloader'⟩
  · rw [State.enterMode_servo, hservo']
  · rw [State.enterMode_seq, hseq']
    rfl

/-! ## What the frame's laws read -/

/-- The parts that the laws of the frame read are the same in both states. -/
structure State.SameDrive (s t : State) : Prop where
  mode : t.control.mode = s.control.mode
  qAcc : t.control.qAcc = s.control.qAcc
  release : t.control.release = s.control.release
  released : t.control.released = s.control.released
  servo : t.servo = { s.servo with clampFlag := t.servo.clampFlag }
  seq : t.seq = s.seq
  settings : t.settings = s.settings
  loader : t.startUp.loader = s.startUp.loader

/-- Of the changes of an event, those of the frame mode, the descent fraction, the release timer, the load servo and the sequencer are
all that a law of the frame has to be kept by. -/
theorem Kept.of_drive {A P : State → Prop} (hsame : ∀ s t : State, s.SameDrive t → P s → P t)
    (hadvance : ∀ s : State, P s → P s.advance) (hpowerOn : ∀ s : State, P s.poweredOn) (hpin : ∀ s : State, P s → P s.pinReset)
    (hfail : ∀ (s : State) (code : FaultCode) (bitUs : Nat), A s → P s → s.startUp.loader.isReading = true → P (s.failStartUp code bitUs))
    (hstart : ∀ (s : State) (m : List Byte) (first : Nat), A s → P s → s.startUp.loader.isReading = true → P (s.startedUp m first))
    (hstrap : ∀ (s : State) (loader : Loader) (station : Nat), P s → s.startUp.loader = .inReset → loader ≠ .ended →
      P { s with startUp := { s.startUp with loader := loader, station := station } })
    (henter : ∀ (s : State) (m : Mode), P s → s.Allows m → P (s.enterMode m))
    (htrip : ∀ (s : State) (code : TripCode), P s → s.running = true → P (s.enterTrip code))
    (hfraction : ∀ (s : State) (acc : Nat), P s → s.control.mode = .descent ∨ s.control.mode = .ascent →
      acc ≤ max s.control.qAcc Config.accFull → P (s.putQ acc))
    (hrelease : ∀ s : State, P s → s.control.mode = .descent ∨ s.control.mode = .ascent →
      P { s with control := { s.control with released := true, release := none } })
    (hservo : ∀ (s : State) (v : Servo), P s → s.ServoMove v → P { s with servo := v })
    (hseq : ∀ (s : State) (q : Sequencer), P s → s.SeqMove q → P { s with seq := q }) : Kept A P := by
  have hchange (s : State) (m : Mode) (hp : P s) (hm : s.Allows m) : P (s.changeMode m) := by
    have hentered := henter s m hp hm
    obtain h | ⟨-, hwatched, h⟩ := changeMode_cases m s <;> rw [h]
    · exact hentered
    · exact htrip _ _ hentered (running_of_watchesCutoff hwatched)
  have hform (s : State) (hp : P s) : P s.formAlarm :=
    formAlarm_keeps_law hp (fun g => hsame s _ ⟨rfl, rfl, rfl, rfl, rfl, rfl, rfl, rfl⟩ hp) hchange
  refine ⟨fun s l hp => hsame s _ ⟨rfl, rfl, rfl, rfl, rfl, rfl, rfl, rfl⟩ hp, fun s _ => hadvance s, fun s _ _ => hpowerOn s,
    fun s _ => hpin s, fun s image code ha hp hr _ => hfail s code _ ha hp hr, fun s image first ha hp hr _ => hstart s _ first ha hp hr, ?_⟩
  intro s t _ hp hmove
  cases hmove with
  | change m h => exact hchange s m hp h
  | trip cause h => exact htrip s cause hp (running_of_watchesCutoff h)
  | control c h =>
    cases h with
    | fraction acc hm hacc => exact hfraction s acc hp hm hacc
    | accept | clearTrip => exact hsame s _ ⟨rfl, rfl, rfl, rfl, rfl, rfl, rfl, rfl⟩ hp
    | release hm => exact hrelease s hp hm
  | servo v h => exact hservo s v hp h
  | seq q h => exact hseq s q hp h
  | line | scanner | recorder | cracks | clock | record => exact hsame s _ ⟨rfl, rfl, rfl, rfl, rfl, rfl, rfl, rfl⟩ hp
  | judge sig h =>
    obtain ⟨-, h⟩ | ⟨-, h⟩ := putCracks_cases (s.cracks.evaluate s.settings.sites sig) s <;> rw [h]
    · exact hsame s _ ⟨rfl, rfl, rfl, rfl, rfl, rfl, rfl, rfl⟩ hp
    · exact hform _ (hsame s _ ⟨rfl, rfl, rfl, rfl, rfl, rfl, rfl, rfl⟩ hp)
  | hear n m v h =>
    refine hform _ (hsame s _ ?_ hp)
    obtain ⟨-, h⟩ | ⟨-, h⟩ := captureOffset_cases n v (s.takeBeat n m v) <;> rw [h] <;> exact ⟨rfl, rfl, rfl, rfl, rfl, rfl, rfl, rfl⟩
  | expire n p h => exact hform _ (hsame s _ ⟨rfl, rfl, rfl, rfl, rfl, rfl, rfl, rfl⟩ hp)
  | strap loader station h hloader => exact hstrap s loader station hp h hloader
  | compose c =>
    obtain ⟨⟨-, -, -, -, -, hstartUp, hsettings, -⟩, hcontrol, hseq', hservo'⟩ := compose_keeps c s
    exact hsame s _ ⟨by rw [hcontrol], by rw [hcontrol], by rw [hcontrol], by rw [hcontrol], hservo', hseq', hsettings,
      by rw [hstartUp]⟩ hp

/-! ## START (R163) -/

theorem Loader.advance_eq_ended (l : Loader) : l.advance = .ended ↔ l = .ended := by cases l <;> simp [Loader.advance]

theorem failStartUp_eq (code : FaultCode) (bitUs : Nat) (s : State) :
    s.failStartUp code bitUs
      = State.enterMode .cfgFault { s with startUp := { s.startUp with loader := .ended, fault := code }, line := s.line.open bitUs } := by
  unfold State.failStartUp State.changeMode
  simp [Mode.watchesCutoff, Mode.engaged]

theorem startLaw_kept : Kept (fun _ => True) State.StartLaw := by
  have hrunning {s : State} (hp : s.StartLaw) (hrun : s.running = true) : s.startUp.loader = .ended := by
    by_contra hloader
    have hstop := running_eq_false.mpr (.inl (hp.mpr hloader))
    rw [hrun] at hstop
    contradiction
  refine Kept.of_drive ?same ?advance ?powerOn ?pin ?fail ?start ?strap ?enter ?trip ?fraction ?release ?servo ?seq
  case same =>
    intro s t h hp
    unfold State.StartLaw
    rw [h.mode, h.loader]
    exact hp
  case advance =>
    intro s hp
    refine hp.trans (not_congr ?_)
    exact (Loader.advance_eq_ended _).symm
  case powerOn => exact fun s => ⟨fun _ => by simp [State.poweredOn, State.afterReset, StartUp.reset], fun _ => rfl⟩
  case pin => exact fun s _ => ⟨fun _ => by simp [State.pinReset, State.afterReset, StartUp.reset], fun _ => rfl⟩
  case fail =>
    intro s code bitUs _ _ _
    rw [failStartUp_eq]
    exact ⟨fun h => absurd h (by simp [Control.enter]), fun h => absurd rfl h⟩
  case start =>
    intro s m first _ hp hreading
    obtain ⟨-, -, hmode, -, -, -, -, hloader⟩ := startedUp_drive m first (hp.start_of_reading hreading)
    exact ⟨fun h => by rw [hmode] at h; contradiction, fun h => absurd hloader h⟩
  case strap =>
    intro s loader station hp hreset hloader
    exact ⟨fun _ => hloader, fun _ => hp.mpr (by simp [hreset])⟩
  case enter =>
    intro s m hp hm
    exact ⟨fun h => absurd h hm.runs.1, fun h => absurd (hrunning hp hm.running) h⟩
  case trip =>
    intro s code hp hrun
    exact ⟨fun h => absurd h (by simp [Control.enter]), fun h => absurd (hrunning hp hrun) h⟩
  case fraction => exact fun s _ hp _ _ => hp
  case release => exact fun s hp _ => hp
  case servo | seq => exact fun s _ hp _ => hp

/-! ## The valve at rest (R18, R21 to R23, R28) -/

theorem enterMode_valveAtRest {m : Mode} (h : m.engaged = true ∨ m = .standby ∨ m = .tripped) (s : State) :
    (s.enterMode m).ValveAtRest := by
  intro hm
  have hm : m.engaged = false := hm
  obtain h | rfl | rfl := h
  · rw [h] at hm
    contradiction
  · exact ⟨rfl, rfl, rfl, rfl, rfl⟩
  · exact ⟨rfl, rfl, rfl, rfl, rfl⟩

/-- R20: a carrier period that starts with the buffer idle leaves the valve released. -/
theorem carrier_of_idle {v : Servo} (h : v.buffer = .idle) : v.carrier = { v with output := .idle } := by
  simp only [Servo.carrier, h]

theorem valveAtRest_kept : Kept State.StartLaw State.ValveAtRest := by
  refine Kept.of_drive ?same ?advance ?powerOn ?pin ?fail ?start ?strap ?enter ?trip ?fraction ?release ?servo ?seq
  case same =>
    intro s t h hp
    unfold State.ValveAtRest
    rw [h.mode, h.servo]
    exact hp
  case powerOn => exact fun s _ => ⟨rfl, rfl, rfl, rfl, rfl⟩
  case pin => exact fun s _ _ => ⟨rfl, rfl, rfl, rfl, rfl⟩
  case fail =>
    intro s code bitUs ha hp hreading
    rw [failStartUp_eq]
    exact fun _ => hp (by rw [ha.start_of_reading hreading]; rfl)
  case start =>
    intro s m first ha _ hreading
    obtain ⟨hservo, -⟩ := startedUp_drive m first (ha.start_of_reading hreading)
    unfold State.ValveAtRest
    rw [hservo]
    exact fun _ => ⟨rfl, rfl, rfl, rfl, rfl⟩
  case enter => exact fun s m _ hm => enterMode_valveAtRest (hm.target.imp_right .inl) s
  case trip => exact fun s code _ _ => enterMode_valveAtRest (.inr (.inr rfl)) s
  case servo =>
    intro s v hp hv
    cases hv with
    | sample | cutoff => exact hp
    | drive _ _ he | release _ _ he => exact fun hidle => absurd (he.symm.trans hidle) (by decide)
    | carrier =>
      intro hidle
      obtain ⟨henable, hbuffer, houtput, hinteg, htracking⟩ := hp hidle
      dsimp only
      rw [carrier_of_idle hbuffer]
      exact ⟨henable, hbuffer, rfl, hinteg, htracking⟩
  case advance => exact fun s hp => hp
  case strap => exact fun s _ _ hp _ _ => hp
  case fraction => exact fun s _ hp _ _ => hp
  case release => exact fun s hp _ => hp
  case seq => exact fun s _ hp _ => hp

/-- R23: the pins of a valve at rest, and of one that the cutoff holds. -/
theorem State.ValveAtRest.valveLaw (h : s.ValveAtRest) : s.ValveLaw := by
  rintro (hcutoff | hidle)
  · simp [State.enablePin, State.pwmLevel, State.pwmDuty, hcutoff]
  · obtain ⟨henable, -, houtput, -, -⟩ := h hidle
    simp [State.enablePin, State.pwmLevel, State.pwmDuty, henable, houtput]

/-- Settles O54: the valve at rest is kept by every step, and gives the law of its pins. -/
theorem everyStepKeepsTheValveLaw : Obligations.EveryStepKeepsTheValveLaw := by
  intro s t hstart hrest hstep
  obtain ⟨hstart', hrest'⟩ := Kept.step startLaw_kept valveAtRest_kept hstart hrest hstep
  exact ⟨hstart', hrest', hrest'.valveLaw⟩

end Sys2Proof.Machine
end

section
/-! The descent fraction (R127), the release timer (R131), the integrator (R16) and the envelope (R43 to R45) over a step. -/

namespace Sys2Proof.Machine

variable {s t u : State}

/-! ## The descent fraction (R127) -/

theorem qAtEntry_le (m : Mode) {acc : Nat} (h : acc ≤ Config.accFull) : qAtEntry m acc ≤ Config.accFull := by
  cases m <;> first | exact h | exact Nat.zero_le _ | exact le_refl _

/-- R127: an entry of the frame mode, but to START and CFG_FAULT, leaves the fraction as its mode asks. -/
theorem enterMode_descentLaw {m : Mode} (hm : m ≠ .start ∧ m ≠ .cfgFault) (h : s.control.qAcc ≤ Config.accFull) :
    (s.enterMode m).DescentLaw := by
  refine ⟨qAtEntry_le m h, ?_, ?_⟩
  · rintro (rfl : m = .run)
    rfl
  · rintro (h | h | h | h | h)
    · obtain rfl : m = .parked := h
      rfl
    · obtain rfl : m = .standby := h
      rfl
    · obtain rfl : m = .tripped := h
      rfl
    · exact absurd h hm.1
    · exact absurd h hm.2

theorem descentLaw_kept : Kept State.StartLaw State.DescentLaw := by
  refine Kept.of_drive ?same ?advance ?powerOn ?pin ?fail ?start ?strap ?enter ?trip ?fraction ?release ?servo ?seq
  case same =>
    intro s t h hp
    unfold State.DescentLaw
    rw [h.mode, h.qAcc]
    exact hp
  case powerOn => exact fun s => ⟨Nat.zero_le _, (fun h => nomatch h), fun _ => rfl⟩
  case pin => exact fun s _ => ⟨Nat.zero_le _, (fun h => nomatch h), fun _ => rfl⟩
  case fail =>
    rintro s code bitUs ha ⟨hle, -, hrest⟩ hreading
    have hzero : s.control.qAcc = 0 := hrest (.inr (.inr (.inr (.inl (ha.start_of_reading hreading)))))
    rw [failStartUp_eq]
    exact ⟨hle, (fun h => nomatch h), fun _ => hzero⟩
  case start =>
    intro s m first ha _ hreading
    obtain ⟨-, -, hmode, hzero, -⟩ := startedUp_drive m first (ha.start_of_reading hreading)
    unfold State.DescentLaw
    rw [hmode, hzero]
    exact ⟨Nat.zero_le _, (fun h => nomatch h), fun _ => rfl⟩
  case enter => exact fun s m hp hm => enterMode_descentLaw hm.runs hp.1
  case trip => exact fun s code hp _ => enterMode_descentLaw (m := .tripped) (by decide) hp.1
  case fraction =>
    intro s acc hp hm hacc
    refine ⟨hacc.trans (max_le hp.1 le_rfl), fun h => ?_, fun h => ?_⟩
    all_goals
      dsimp only [State.putQ] at h
      obtain hm | hm := hm <;> simp [hm] at h
  case advance => exact fun s hp => hp
  case strap => exact fun s _ _ hp _ _ => hp
  case release => exact fun s hp _ => hp
  case servo | seq => exact fun s _ hp _ => hp

/-! ## The release timer (R131) -/

/-- R131: an entry of the frame mode starts the timer in DESCENT and ASCENT, stops it elsewhere, and clears the flag. -/
theorem enterMode_timerLaw (m : Mode) (s : State) : (s.enterMode m).TimerLaw := by
  unfold State.TimerLaw
  rw [State.enterMode_control, State.enterMode_settings]
  cases m <;> simp [Control.enter, releaseAtEntry]

theorem timerLaw_kept : Kept State.StartLaw State.TimerLaw := by
  refine Kept.of_drive ?same ?advance ?powerOn ?pin ?fail ?start ?strap ?enter ?trip ?fraction ?release ?servo ?seq
  case same =>
    intro s t h hp
    unfold State.TimerLaw
    rw [h.mode, h.release, h.released, h.settings]
    exact hp
  case advance =>
    intro s hp
    unfold State.TimerLaw at hp ⊢
    show if s.control.mode = .descent ∨ s.control.mode = .ascent then
        (s.control.released = true ↔ s.control.release.map (fun n => n - 1) = none)
          ∧ ∀ n, s.control.release.map (fun n => n - 1) = some n → n ≤ s.settings.lockstepTimeout * 1000000
      else s.control.release.map (fun n => n - 1) = none ∧ s.control.released = false
    split at hp
    next hm =>
      rw [if_pos hm, Option.map_eq_none_iff]
      refine ⟨hp.1, fun n hn => ?_⟩
      obtain ⟨k, hk, rfl⟩ := Option.map_eq_some_iff.mp hn
      exact (Nat.sub_le k 1).trans (hp.2 k hk)
    next hm =>
      rw [if_neg hm, Option.map_eq_none_iff]
      exact hp
  case powerOn => exact fun s => ⟨rfl, rfl⟩
  case pin => exact fun s _ => ⟨rfl, rfl⟩
  case fail =>
    intro s code bitUs _ _ _
    rw [failStartUp_eq]
    exact enterMode_timerLaw .cfgFault _
  case start =>
    intro s m first ha _ hreading
    obtain ⟨-, -, hmode, -, hrelease, hreleased, -⟩ := startedUp_drive m first (ha.start_of_reading hreading)
    unfold State.TimerLaw
    rw [hmode, hrelease, hreleased]
    exact ⟨rfl, rfl⟩
  case enter => exact fun s m _ _ => enterMode_timerLaw m s
  case trip => exact fun s code _ _ => enterMode_timerLaw .tripped s
  case release =>
    intro s _ hm
    unfold State.TimerLaw
    rw [if_pos hm]
    exact ⟨⟨fun _ => rfl, fun _ => rfl⟩, (fun n h => nomatch h)⟩
  case strap => exact fun s _ _ hp _ _ => hp
  case fraction => exact fun s _ hp _ _ => hp
  case servo | seq => exact fun s _ hp _ => hp

/-! ## The integrator (R16) -/

theorem integratorLaw_of_zero (h : s.servo.integ = 0) : s.IntegratorLaw := by
  unfold State.IntegratorLaw
  rw [h]
  omega

/-- R28: an entry of the frame mode keeps the integrator or clears it. -/
theorem enter_integ (m : Mode) (v : Servo) : (v.enter m).integ = v.integ ∨ (v.enter m).integ = 0 := by
  cases m <;> first | exact .inl rfl | exact .inr rfl

theorem enterMode_integratorLaw (m : Mode) (h : s.IntegratorLaw) : (s.enterMode m).IntegratorLaw := by
  obtain hinteg | hinteg := enter_integ m s.servo
  · unfold State.IntegratorLaw
    rw [State.enterMode_servo, State.enterMode_settings, hinteg]
    exact h
  · exact integratorLaw_of_zero hinteg

theorem carrier_integ (v : Servo) : v.carrier.integ = v.integ := by
  unfold Servo.carrier
  split <;> rfl

theorem integratorLaw_kept : Kept State.StartLaw State.IntegratorLaw := by
  refine Kept.of_drive ?same ?advance ?powerOn ?pin ?fail ?start ?strap ?enter ?trip ?fraction ?release ?servo ?seq
  case same =>
    intro s t h hp
    unfold State.IntegratorLaw
    rw [h.servo, h.settings]
    exact hp
  case powerOn => exact fun s => integratorLaw_of_zero rfl
  case pin => exact fun s _ => integratorLaw_of_zero rfl
  case fail =>
    intro s code bitUs _ hp _
    rw [failStartUp_eq]
    exact hp
  case start =>
    intro s m first ha _ hreading
    obtain ⟨hservo, -⟩ := startedUp_drive m first (ha.start_of_reading hreading)
    refine integratorLaw_of_zero ?_
    rw [hservo]
    rfl
  case enter => exact fun s m hp _ => enterMode_integratorLaw m hp
  case trip => exact fun s code hp _ => enterMode_integratorLaw (s := s) .tripped hp
  case servo =>
    intro s v hp hv
    cases hv with
    | sample | release | cutoff => exact hp
    | drive => exact integratorAfter_mem s.settings _ _ hp.1 hp.2
    | carrier =>
      unfold State.IntegratorLaw
      dsimp only
      rw [carrier_integ]
      exact hp
  case advance => exact fun s hp => hp
  case strap => exact fun s _ _ hp _ _ => hp
  case fraction => exact fun s _ hp _ _ => hp
  case release => exact fun s hp _ => hp
  case seq => exact fun s _ hp _ => hp

/-! ## The envelope (R43 to R45) -/

/-- What R43 to R45 ask of a sequencer in a frame mode. -/
def Sequencer.EnvelopeIn (m : Mode) (q : Sequencer) : Prop :=
  q.envelope ≤ Config.accFull ∧ (m = .standby ∨ m = .tripped → q.envelope = 0)
    ∧ ∀ step, q.softStep = some step → 1 ≤ step ∧ (m = .run ∨ m = .ascent)

/-- The envelope and the soft start are the same in both sequencers. -/
def Sequencer.SameEnvelope (p q : Sequencer) : Prop := q.envelope = p.envelope ∧ q.softStep = p.softStep

theorem Sequencer.EnvelopeIn.of_same {p q : Sequencer} {m : Mode} (h : p.EnvelopeIn m) (hsame : p.SameEnvelope q) :
    q.EnvelopeIn m := by
  unfold Sequencer.EnvelopeIn
  rw [hsame.1, hsame.2]
  exact h

/-- R44: a CYCLE starts with an envelope that its mode allows. -/
theorem cycleEnvelope_envelopeIn (m : Mode) (softCycles period : Nat) (q : Sequencer) :
    (q.cycleEnvelope m softCycles period).EnvelopeIn m := by
  unfold Sequencer.cycleEnvelope Sequencer.EnvelopeIn
  cases m
  case run | ascent =>
    dsimp only
    split
    · simp
    · simp only [Option.some.injEq, forall_eq', softStartStep]
      simp
  all_goals simp

theorem start_envelopeIn (tab : List Segment) (atMark : Bool) {m : Mode} {q : Sequencer} (h : q.EnvelopeIn m) :
    (q.start tab atMark m).EnvelopeIn m := by
  unfold Sequencer.start
  split
  · exact h
  · exact h
  · exact h
  · split
    · exact cycleEnvelope_envelopeIn _ _ _ _
    · exact h

/-- R33: away from a mark no start touches the envelope. -/
theorem start_sameEnvelope (tab : List Segment) (m : Mode) (q : Sequencer) : q.SameEnvelope (q.start tab false m) := by
  unfold Sequencer.start
  split <;> exact ⟨rfl, rfl⟩

theorem passOn_envelopeIn (tab : List Segment) (atMark : Bool) {m : Mode} {q : Sequencer} (h : q.EnvelopeIn m) :
    (q.passOn tab atMark m).1.EnvelopeIn m := by
  obtain ⟨-, h'⟩ | ⟨k, -, -, h'⟩ | ⟨k, -, -, h'⟩ := passOn_cases tab atMark m q <;> rw [h']
  · exact h
  · exact h
  · exact start_envelopeIn tab atMark (q := q.moveTo tab k) h

theorem finish_envelopeIn (tab : List Segment) (atMark : Bool) {m : Mode} (met : Bool) {q : Sequencer} (h : q.EnvelopeIn m) :
    (q.finish tab atMark m met).1.EnvelopeIn m := by
  obtain ⟨-, -, h'⟩ | ⟨-, h'⟩ := finish_cases tab atMark m met q <;> rw [h']
  · exact h
  · exact passOn_envelopeIn tab atMark h

/-- R43: a tick steps the envelope and the soft start within what the mode allows. -/
theorem envelopeStep_envelopeIn (rate : Nat) {m : Mode} {q : Sequencer} (h : q.EnvelopeIn m) :
    (q.envelopeStep rate m).EnvelopeIn m := by
  have hle := envelopeStep_le rate m q h.1
  obtain ⟨-, hrest, hsoft⟩ := h
  refine ⟨hle, ?_, ?_⟩ <;> unfold Sequencer.envelopeStep
  · rintro (rfl | rfl) <;> rfl
  · cases m
    case run | ascent =>
      dsimp only
      split
      · split
        · exact fun _ h => nomatch h
        · exact hsoft
      · simp_all
    all_goals exact hsoft

theorem timeStep_envelopeIn (tab : List Segment) {m : Mode} (met : Bool) {q : Sequencer} (h : q.EnvelopeIn m) :
    (q.timeStep tab m met).1.EnvelopeIn m := by
  unfold Sequencer.timeStep
  split
  · split
    · dsimp only
      split
      · exact finish_envelopeIn tab false met (q := { q with elapsed := _, base := _ }) h
      · exact h
    · dsimp only
      split
      · exact finish_envelopeIn tab false met (q := { q with elapsed := _ }) h
      · exact h
    · exact h
  · exact h

theorem tick_envelopeIn (tab : List Segment) (rate : Nat) {m : Mode} (fraction : Nat) (met : Bool) {q : Sequencer}
    (h : q.EnvelopeIn m) : (q.tick tab rate m fraction met).1.EnvelopeIn m := by
  have hstep : ((q.envelopeStep rate m).cleanStep m fraction).EnvelopeIn m := envelopeStep_envelopeIn rate h
  unfold Sequencer.tick
  split
  · exact h
  · exact h
  · exact timeStep_envelopeIn tab met hstep

theorem countCycle_sameEnvelope (m : Mode) (q : Sequencer) : q.SameEnvelope (q.countCycle m) := by
  unfold Sequencer.countCycle
  repeat' split
  all_goals exact ⟨rfl, rfl⟩

theorem closeCycle_envelopeIn (tab : List Segment) {m : Mode} (met : Bool) {q : Sequencer} (h : q.EnvelopeIn m) :
    (q.closeCycle tab m met).1.EnvelopeIn m := by
  have hcount := h.of_same (countCycle_sameEnvelope m q)
  unfold Sequencer.closeCycle
  split
  · dsimp only
    split
    · exact finish_envelopeIn tab true met hcount
    · exact hcount
  · exact h

theorem mark_envelopeIn (tab : List Segment) {m : Mode} (met : Bool) {q : Sequencer} (h : q.EnvelopeIn m) :
    (q.mark tab m met).1.EnvelopeIn m := by
  have hclosed := closeCycle_envelopeIn tab met h
  show ((q.closeCycle tab m met).1.startWaiting tab m).EnvelopeIn m
  unfold Sequencer.startWaiting
  split
  · exact start_envelopeIn tab true hclosed
  · exact hclosed

/-- R45, R48: an entry to a mode leaves the envelope and the soft start as it allows. -/
theorem enter_envelopeIn (tab : List Segment) {m n : Mode} {q : Sequencer} (h : q.EnvelopeIn m) (hn : n ≠ .start ∧ n ≠ .cfgFault) :
    (q.enter tab n).EnvelopeIn n := by
  obtain ⟨hle, -, hsoft⟩ := h
  have hengaged (hn : n = .run ∨ n = .ascent) : q.EnvelopeIn n :=
    ⟨hle, by obtain rfl | rfl := hn <;> simp, fun step hstep => ⟨(hsoft step hstep).1, hn⟩⟩
  cases n
  case start => exact absurd rfl hn.1
  case cfgFault => exact absurd rfl hn.2
  case run =>
    simp only [Sequencer.enter]
    split
    · exact start_envelopeIn tab false (hengaged (.inl rfl))
    · exact hengaged (.inl rfl)
  case ascent => exact hengaged (.inr rfl)
  case standby | tripped => exact ⟨Nat.zero_le _, fun _ => rfl, (fun _ h => nomatch h)⟩
  case hold | descent | parked => exact ⟨hle, fun h => (by simp at h), (fun _ h => nomatch h)⟩

theorem envelopeLaw_iff : s.EnvelopeLaw ↔ s.seq.EnvelopeIn s.control.mode := Iff.rfl

theorem envelopeLaw_kept : Kept State.StartLaw State.EnvelopeLaw := by
  refine Kept.of_drive ?same ?advance ?powerOn ?pin ?fail ?start ?strap ?enter ?trip ?fraction ?release ?servo ?seq
  case same =>
    intro s t h hp
    unfold State.EnvelopeLaw
    rw [h.mode, h.seq]
    exact hp
  case powerOn => exact fun s => ⟨Nat.zero_le _, fun _ => rfl, (fun _ h => nomatch h)⟩
  case pin => exact fun s _ => ⟨Nat.zero_le _, fun _ => rfl, (fun _ h => nomatch h)⟩
  case fail =>
    rintro s code bitUs ha ⟨hle, -, hsoft⟩ hreading
    have hmode := ha.start_of_reading hreading
    rw [failStartUp_eq]
    refine ⟨hle, fun h => (by simp [Control.enter] at h), fun step hstep => ?_⟩
    obtain ⟨-, hm | hm⟩ := hsoft step hstep <;> simp [hmode] at hm
  case start =>
    intro s m first ha _ hreading
    obtain ⟨-, hseq, hmode, -⟩ := startedUp_drive m first (ha.start_of_reading hreading)
    rw [envelopeLaw_iff, hseq, hmode]
    exact ⟨Nat.zero_le _, fun _ => rfl, (fun _ h => nomatch h)⟩
  case enter => exact fun s m hp hm => enter_envelopeIn s.settings.segments hp hm.runs
  case trip => exact fun s code hp _ => enter_envelopeIn s.settings.segments (n := .tripped) hp (by decide)
  case seq =>
    intro s q hp hq
    cases hq with
    | tick => exact tick_envelopeIn _ _ _ _ hp
    | mark => exact mark_envelopeIn _ _ hp
    | passOn => exact passOn_envelopeIn _ _ hp
    | scale => exact hp
    | restart =>
      exact Sequencer.EnvelopeIn.of_same (p := s.seq) hp (start_sameEnvelope _ _ (Sequencer.moveTo s.settings.segments 0
        { s.seq with complete := false, base := if s.control.mode = .standby then s.settings.park else s.seq.base }))
  case advance => exact fun s hp => hp
  case strap => exact fun s _ _ hp _ _ => hp
  case fraction => exact fun s _ hp _ _ => hp
  case release => exact fun s hp _ => hp
  case servo => exact fun s _ hp _ => hp

/-- Settles O55: each of the four laws is kept beside that of START. -/
theorem everyStepKeepsTheDescentLaw : Obligations.EveryStepKeepsTheDescentLaw := by
  refine ⟨fun s t hstart hdescent henvelope _ hinteg hstep => ?_, fun s t hstart htimer hstep => ?_⟩
  · exact ⟨(Kept.step startLaw_kept descentLaw_kept hstart hdescent hstep).2,
      (Kept.step startLaw_kept envelopeLaw_kept hstart henvelope hstep).2,
      (Kept.step startLaw_kept integratorLaw_kept hstart hinteg hstep).2⟩
  · exact (Kept.step startLaw_kept timerLaw_kept hstart htimer hstep).2

end Sys2Proof.Machine
end

section
/-! The configuration image (R166, R171): what each check of the model asks for, in the fields of section 12.2, and what the constants
of an image that passes come to. -/

namespace Sys2Proof.Machine

/-! ## Fields -/

theorem fieldAt_one (m : List Byte) (i : Nat) : fieldAt m i 1 = byteAt m i := (byteAt_eq_fieldAt m i).symm

theorem fieldAt_two (m : List Byte) (i : Nat) : fieldAt m i 2 = byteAt m i * 256 + byteAt m (i + 1) := by
  simp [fieldAt, List.range_succ, bigEndian]

theorem fieldAt_three (m : List Byte) (i : Nat) :
    fieldAt m i 3 = (byteAt m i * 256 + byteAt m (i + 1)) * 256 + byteAt m (i + 2) := by
  simp only [fieldAt, List.range_succ, List.range_zero, List.map_cons, List.map_nil, List.nil_append, List.cons_append, bigEndian,
    List.length_cons, List.length_nil, Nat.add_zero]
  omega

theorem fieldAt_four (m : List Byte) (i : Nat) :
    fieldAt m i 4 = (byteAt m i * 256 + byteAt m (i + 1)) * 65536 + (byteAt m (i + 2) * 256 + byteAt m (i + 3)) := by
  simp only [fieldAt, List.range_succ, List.range_zero, List.map_cons, List.map_nil, List.nil_append, List.cons_append, bigEndian,
    List.length_cons, List.length_nil, Nat.add_zero]
  omega

theorem byteAt_lt (m : List Byte) (i : Nat) : byteAt m i < 256 := (m.getD i 0).isLt

theorem fieldAt_two_lt (m : List Byte) (i : Nat) : fieldAt m i 2 < 65536 := by
  have h₁ := byteAt_lt m i
  have h₂ := byteAt_lt m (i + 1)
  rw [fieldAt_two]
  omega

/-! ## The order of the checks -/

theorem imageFault_eq_none {m : List Byte} : imageFault m = none ↔ ∀ c ∈ imageChecks m, c.2 = false := by
  simp [imageFault, List.find?_eq_none]

/-- An image that passes has passed each of the checks of R166. -/
theorem checks_of_good {m : List Byte} (h : imageFault m = none) :
    failsGroup m = false ∧ failsLimits m = false ∧ failsServo m = false ∧ failsTiming m = false ∧ failsPolicy m = false
      ∧ failsSegment m = false ∧ failsChain m = false ∧ failsChannel m = false ∧ failsSite m = false := by
  rw [imageFault_eq_none] at h
  simp only [imageChecks, List.forall_mem_cons] at h
  obtain ⟨-, -, -, hgroup, hlimits, hservo, htiming, hpolicy, hsegment, hchain, hchannel, hsite, -⟩ := h
  exact ⟨hgroup, hlimits, hservo, htiming, hpolicy, hsegment, hchain, hchannel, hsite⟩

/-! ## The header constants -/

theorem readPolicy_rank {m : List Byte} {i : Nat} (h : byteAt m i ≤ 2) : (readPolicy m i).rank = byteAt m i := by
  unfold readPolicy
  obtain h | h | h : byteAt m i = 0 ∨ byteAt m i = 1 ∨ byteAt m i = 2 := by omega
  all_goals
    rw [h]
    rfl

theorem readSettings_ordered {m : List Byte} (h : failsPolicy m = false) : (readSettings m).Ordered := by
  simp only [failsPolicy, decide_eq_false_iff_not] at h
  have h₁ : (readPolicy m 59).rank = byteAt m 59 := readPolicy_rank (by omega)
  have h₂ : (readPolicy m 60).rank = byteAt m 60 := readPolicy_rank (by omega)
  have h₃ : (readPolicy m 61).rank = byteAt m 61 := readPolicy_rank (by omega)
  constructor
  · show (readPolicy m 59).rank ≤ (readPolicy m 60).rank
    omega
  · show (readPolicy m 60).rank ≤ (readPolicy m 61).rank
    omega

theorem readSettings_headerGood {m : List Byte} (h : imageFault m = none) : (readSettings m).HeaderGood := by
  obtain ⟨hgroup, hlimits, hservo, htiming, hpolicy, -⟩ := checks_of_good h
  have hordered := readSettings_ordered hpolicy
  simp only [failsGroup, failsLimits, failsServo, failsTiming, outside, decide_eq_false_iff_not, Bool.or_eq_false_iff] at hgroup hlimits hservo htiming
  unfold Settings.HeaderGood
  refine ⟨?_, ?_, ?_, ?_, ?_, ?_, ?_, ?_, ?_, ?_, ?_, ?_, ?_, ?_, ?_, ?_, ?_, ?_, ?_, ?_, ?_, ?_, ?_, ?_, ?_, ?_, ?_, ?_, hordered⟩
  all_goals
    dsimp only [readSettings]
    omega

/-! ## The tables -/

/-- The body of segment record `k` in the fields of section 12.2. -/
theorem readSegment_body (m : List Byte) (k : Nat) :
    (readSegment m k).body = match byteAt m (64 + 16 * k) with
      | 1 => .ramp (signedAt m (64 + 16 * k + 3)) (fieldAt m (64 + 16 * k + 5) 2)
      | 2 => .dwell (fieldAt m (64 + 16 * k + 5) 2)
      | 3 => .cycle (signedAt m (64 + 16 * k + 3)) (fieldAt m (64 + 16 * k + 5) 2) (fieldAt m (64 + 16 * k + 7) 3)
          (shapeOf (byteAt m (64 + 16 * k + 10))) (fieldAt m (64 + 16 * k + 11) 3) (byteAt m (64 + 16 * k + 14))
      | _ => .none := by rfl

theorem readSegment_link (m : List Byte) (k : Nat) : (readSegment m k).link = linkOf (byteAt m (64 + 16 * k + 2)) := rfl

theorem getElem?_map_range {α : Type} (f : Nat → α) {n k : Nat} (h : k < n) : ((List.range n).map f)[k]? = some (f k) := by
  rw [List.getElem?_map, List.getElem?_range h, Option.map_some]

theorem readSettings_segmentAt (m : List Byte) {k : Nat} (h : k < 64) : segmentAt (readSettings m).segments k = readSegment m k := by
  have hget : (readSettings m).segments[k]? = some (readSegment m k) := getElem?_map_range (readSegment m) h
  rw [segmentAt, List.getD_eq_getElem?_getD, hget, Option.getD_some]

theorem linkOf_eq_some {n k : Nat} : linkOf n = some k ↔ n ≠ 255 ∧ n = k := by
  unfold linkOf
  split <;> simp_all

/-- R30: what the check leaves to segment record `k`. -/
theorem segmentGood_iff (m : List Byte) (k : Nat) :
    segmentGood m k = true ↔
      byteAt m (64 + 16 * k) ≤ 3 ∧ (byteAt m (64 + 16 * k) = 0 → k ≠ 0)
        ∧ (byteAt m (64 + 16 * k) ≠ 0 → byteAt m (64 + 16 * k + 2) ≠ 255 →
            byteAt m (64 + 16 * k + 2) < 64 ∧ byteAt m (64 + 16 * byteAt m (64 + 16 * k + 2)) ≠ 0)
        ∧ (byteAt m (64 + 16 * k) = 1 ∨ byteAt m (64 + 16 * k) = 2 → fieldAt m (64 + 16 * k + 5) 2 ≠ 0)
        ∧ (byteAt m (64 + 16 * k) = 3 → fieldAt m (64 + 16 * k + 11) 3 ≠ 0 ∧ fieldAt m (64 + 16 * k + 5) 2 ≤ 32767
            ∧ 20000 ≤ fieldAt m (64 + 16 * k + 7) 3 ∧ fieldAt m (64 + 16 * k + 7) 3 ≤ 10000000
            ∧ (byteAt m (64 + 16 * k + 10) = 1 ∨ byteAt m (64 + 16 * k + 10) = 2)) := by
  unfold segmentGood segmentLinkGood segmentKind segmentOffset outside
  obtain h | h | h | h | h : byteAt m (64 + 16 * k) = 0 ∨ byteAt m (64 + 16 * k) = 1 ∨ byteAt m (64 + 16 * k) = 2
      ∨ byteAt m (64 + 16 * k) = 3 ∨ 3 < byteAt m (64 + 16 * k) := by omega
  · simp [h]
  · simp [h, or_iff_not_imp_left]
  · simp [h, or_iff_not_imp_left]
  · simp only [h, Bool.and_eq_true, decide_eq_true_eq, Bool.not_eq_true', decide_eq_false_iff_not]
    grind
  · split
    · omega
    · omega
    · omega
    · omega
    · simp only [Bool.false_eq_true, false_iff]
      omega

theorem failsSegment_eq_false {m : List Byte} : failsSegment m = false ↔ ∀ k < 64, segmentGood m k = true := by
  simp [failsSegment]

theorem readSegment_body_ne_none {m : List Byte} {k : Nat} (h : segmentGood m k = true) :
    (readSegment m k).body ≠ .none ↔ byteAt m (64 + 16 * k) ≠ 0 := by
  rw [segmentGood_iff] at h
  obtain ⟨hkind, -⟩ := h
  rw [readSegment_body]
  obtain h | h | h | h : byteAt m (64 + 16 * k) = 0 ∨ byteAt m (64 + 16 * k) = 1 ∨ byteAt m (64 + 16 * k) = 2
      ∨ byteAt m (64 + 16 * k) = 3 := by omega
  all_goals simp [h]

theorem readSegment_good {m : List Byte} (h : ∀ k < 64, segmentGood m k = true) {k : Nat} (hk : k < 64) :
    (readSegment m k).Good (readSettings m).segments := by
  obtain ⟨-, -, hlink, htime, hcycle⟩ := (segmentGood_iff m k).mp (h k hk)
  refine ⟨?_, ?_, ?_, ?_⟩
  · intro j hbody hj
    rw [readSegment_link, linkOf_eq_some] at hj
    obtain ⟨hend, rfl⟩ := hj
    obtain ⟨hlt, hkind⟩ := hlink ((readSegment_body_ne_none (h k hk)).mp hbody) hend
    refine ⟨hlt, ?_⟩
    rw [readSettings_segmentAt m hlt]
    exact (readSegment_body_ne_none (h _ hlt)).mpr hkind
  · intro target ms hbody
    rw [readSegment_body] at hbody
    split at hbody
    next hkind =>
      simp only [SegmentBody.ramp.injEq] at hbody
      obtain ⟨-, rfl⟩ := hbody
      exact Nat.one_le_iff_ne_zero.mpr (htime (.inl hkind))
    all_goals contradiction
  · intro ms hbody
    rw [readSegment_body] at hbody
    split at hbody
    next => contradiction
    next hkind =>
      simp only [SegmentBody.dwell.injEq] at hbody
      subst hbody
      exact Nat.one_le_iff_ne_zero.mpr (htime (.inr hkind))
    all_goals contradiction
  · intro mean a per shape n soft hbody
    rw [readSegment_body] at hbody
    split at hbody
    next => contradiction
    next => contradiction
    next hkind =>
      simp only [SegmentBody.cycle.injEq] at hbody
      obtain ⟨-, rfl, rfl, -, rfl, -⟩ := hbody
      obtain ⟨hcount, hamplitude, hlow, hhigh, -⟩ := hcycle hkind
      exact ⟨hamplitude, hlow, hhigh, Nat.one_le_iff_ne_zero.mpr hcount⟩
    next => contradiction

/-- R66: what the check leaves to a scan record on a walk. -/
theorem scanGood_iff (m : List Byte) (r : Nat) :
    scanGood m r = true ↔ byteAt m (1088 + 4 * r) ≤ 31 ∧ byteAt m (1088 + 4 * r + 1) ∈ [1, 2, 4, 8]
      ∧ (byteAt m (1088 + 4 * r + 2) = 255 ∨ byteAt m (1088 + 4 * r + 2) < 48) := by
  unfold scanGood scanOffset
  simp only [Bool.and_eq_true, decide_eq_true_eq, and_assoc]

theorem walkGood_chainGood {m : List Byte} {n r : Nat} (h : walkGood m n r = true) : chainGood (readSettings m).scans n r := by
  induction n generalizing r with
  | zero => simp [walkGood] at h
  | succ n ih =>
    simp only [walkGood, Bool.and_eq_true, Bool.or_eq_true, decide_eq_true_eq, scanGood_iff] at h
    obtain ⟨⟨hr, hchannel, hsamples, -⟩, hnext⟩ := h
    refine ⟨readScan m r, getElem?_map_range (readScan m) hr, hchannel, hsamples, fun k hk => ?_⟩
    have hk : linkOf (byteAt m (1088 + 4 * r + 2)) = some k := hk
    rw [linkOf_eq_some] at hk
    obtain ⟨hend, hk⟩ := hk
    rw [← hk]
    exact ih (hnext.resolve_left hend)

/-- R93: what fails a site record of an image, by the model's check and by the fields of section 12.2. -/
theorem siteFails_iff (m : List Byte) (k : Nat) :
    (outside 0 1 (byteAt m (siteOffset k)) || (decide (byteAt m (siteOffset k) = 1) && !siteGood m (siteOffset k))) = true
      ↔ SiteFails m (1792 + 16 * k) := by
  unfold siteGood SiteFails siteOffset outside signedAt
  simp only [Bool.or_eq_true, Bool.and_eq_true, Bool.not_eq_true', decide_eq_true_eq, Bool.and_eq_false_iff,
    decide_eq_false_iff_not, Bool.not_eq_false', Nat.not_lt_zero, false_or]
  generalize byteAt m (1792 + 16 * k) = used
  generalize byteAt m (1792 + 16 * k + 1) = ladder
  generalize byteAt m (1792 + 16 * k + 9) = channel
  generalize byteAt m (1792 + 16 * k + 2) = strands
  generalize fieldAt m (1792 + 16 * k + 5) 2 = step
  generalize signed16 (fieldAt m (1792 + 16 * k + 7) 2) = rOpen
  generalize signed16 (fieldAt m (1792 + 16 * k + 3) 2) = rIntact
  generalize byteAt m (1792 + 16 * k + 10) = threshold
  generalize byteAt m (1792 + 16 * k + 11) = runLength
  generalize byteAt m (1792 + 16 * k + 12) = critical
  omega

theorem failsSite_iff (m : List Byte) : failsSite m = true ↔ ∃ k < 12, SiteFails m (1792 + 16 * k) := by
  simp only [failsSite, List.any_eq_true, List.mem_range, siteFails_iff]

theorem linkOf_isSome {n : Nat} : (linkOf n).isSome = true ↔ n ≠ 255 := by
  unfold linkOf
  split <;> simp_all

theorem readSettings_tablesGood {m : List Byte} (h : imageFault m = none) : (readSettings m).TablesGood := by
  obtain ⟨-, -, -, -, -, hsegment, hchain, hchannel, hsite⟩ := checks_of_good h
  rw [failsSegment_eq_false] at hsegment
  refine ⟨?_, ?_, ?_, ?_, ?_⟩
  · rw [readSettings_segmentAt m (by decide), readSegment_body_ne_none (hsegment 0 (by decide))]
    obtain ⟨-, hfirst, -⟩ := (segmentGood_iff m 0).mp (hsegment 0 (by decide))
    exact fun hkind => hfirst hkind rfl
  · intro g hg
    obtain ⟨k, hk, rfl⟩ := List.mem_map.mp hg
    exact readSegment_good hsegment (List.mem_range.mp hk)
  · intro p hp
    obtain ⟨k, hk, rfl⟩ := List.mem_map.mp hp
    simp only [failsChain, List.any_eq_false, List.mem_range, Bool.and_eq_true, decide_eq_true_eq, not_and, Bool.not_eq_true',
      Bool.not_eq_false] at hchain
    refine ⟨fun f hf => ?_, fun r hr => ?_⟩
    · simp only [readPoint] at hf
      split at hf
      · contradiction
      · rw [← Option.some.inj hf]
        exact Nat.le_of_lt_succ (byteAt_lt m _)
    · simp only [readPoint] at hr
      split at hr
      · contradiction
      next hhead =>
        rw [← Option.some.inj hr]
        exact walkGood_chainGood (hchain k (List.mem_range.mp hk) hhead)
  · intro r hr
    obtain ⟨k, hk, rfl⟩ := List.mem_map.mp hr
    simp only [failsChannel, outside, List.any_eq_false, List.mem_range, Bool.or_eq_true, decide_eq_true_eq] at hchannel
    have := hchannel k (List.mem_range.mp hk)
    dsimp only [readChannel]
    omega
  · intro r hr hused
    obtain ⟨k, hk, rfl⟩ := List.mem_map.mp hr
    have hgood : ¬ SiteFails m (1792 + 16 * k) := fun hfails => by
      rw [(failsSite_iff m).mpr ⟨k, List.mem_range.mp hk, hfails⟩] at hsite
      contradiction
    have hused : byteAt m (1792 + 16 * k) = 1 := of_decide_eq_true hused
    unfold SiteFails at hgood
    simp only [hused, true_and, not_or, not_and, not_lt] at hgood
    dsimp only [readSite, siteOffset, signedAt]
    simp only [linkOf_isSome, linkOf_eq_some]
    obtain ⟨-, hboth, hladder, hchannel, hstrands, hstrands', hstep, hstep', hopen, hthreshold, hthreshold', hrun, hrun', hcritical,
      hcritical'⟩ := hgood
    refine ⟨?_, fun l hl => ?_, fun l hl => ?_, ?_, ?_, ?_, ?_, ?_, ?_, ?_, ?_, ?_, ?_, ?_⟩
    · by_contra hnone
      exact hboth (by omega) (by omega)
    · have := hladder hl.1
      omega
    · have := hchannel hl.1
      omega
    all_goals omega

end Sys2Proof.Machine
end

section
/-! O8: the fields that the constants of an image are read from, the table of R166 check by check, and the order in which the checks
are made. -/

namespace Sys2Proof.Machine

/-! ## The walk of a chain (R66) -/

/-- The link byte of scan record `r`. -/
def linkByte (m : List Byte) (r : Nat) : Nat := byteAt m (1088 + 4 * r + 2)

/-- R66: a walk that passes comes to its end within the records given, over records that pass. -/
theorem walkGood_iff {m : List Byte} {n r : Nat} :
    walkGood m n r = true ↔ ∃ j < n, (∀ i ≤ j, (linkByte m)^[i] r < 48 ∧ scanGood m ((linkByte m)^[i] r) = true)
      ∧ (∀ i < j, linkByte m ((linkByte m)^[i] r) ≠ 255) ∧ linkByte m ((linkByte m)^[j] r) = 255 := by
  induction n generalizing r with
  | zero => simp [walkGood]
  | succ n ih =>
    have hwalk : walkGood m (n + 1) r = true
        ↔ (r < 48 ∧ scanGood m r = true) ∧ (linkByte m r = 255 ∨ walkGood m n (linkByte m r) = true) := by
      rw [walkGood]
      unfold linkByte scanOffset
      simp only [Bool.and_eq_true, Bool.or_eq_true, decide_eq_true_eq]
    rw [hwalk, ih]
    constructor
    · rintro ⟨hr, hend | ⟨j, hj, hgood, hmore, hend⟩⟩
      · exact ⟨0, by omega, fun i hi => by obtain rfl := Nat.le_zero.mp hi; exact hr, by simp, hend⟩
      by_cases hfirst : linkByte m r = 255
      · exact ⟨0, by omega, fun i hi => by obtain rfl := Nat.le_zero.mp hi; exact hr, by simp, hfirst⟩
      refine ⟨j + 1, by omega, fun i hi => ?_, fun i hi => ?_, hend⟩
      · cases i with
        | zero => exact hr
        | succ i => exact hgood i (by omega)
      · cases i with
        | zero => exact hfirst
        | succ i => exact hmore i (by omega)
    · rintro ⟨j, hj, hgood, hmore, hend⟩
      refine ⟨hgood 0 (by omega), ?_⟩
      cases j with
      | zero => exact .inl hend
      | succ j =>
        exact .inr ⟨j, by omega, fun i hi => hgood (i + 1) (by omega), fun i hi => hmore (i + 1) (by omega), hend⟩

/-- R66: what fails a walk after `n` links. -/
def walkFailsAt (m : List Byte) (head n : Nat) : Prop :=
  (∀ j < n, (linkByte m)^[j] head < 48 ∧ linkByte m ((linkByte m)^[j] head) ≠ 255)
    ∧ (48 ≤ (linkByte m)^[n] head ∨ 31 < byteAt m (1088 + 4 * (linkByte m)^[n] head)
      ∨ byteAt m (1088 + 4 * (linkByte m)^[n] head + 1) ∉ [1, 2, 4, 8]
      ∨ ∃ j < n, (linkByte m)^[j] head = (linkByte m)^[n] head)

theorem walkFails_iff_exists (m : List Byte) (head : Nat) : WalkFails m head ↔ ∃ n, walkFailsAt m head n := Iff.rfl

/-- A walk that returns to a record it has passed does not come to an end. -/
theorem walk_ends_of_repeat {m : List Byte} {head a n j : Nat} (ha : a < n) (hn : n ≤ j)
    (hrepeat : (linkByte m)^[a] head = (linkByte m)^[n] head) (hmore : ∀ i < j, linkByte m ((linkByte m)^[i] head) ≠ 255) :
    linkByte m ((linkByte m)^[j] head) ≠ 255 := by
  have hsame : (linkByte m)^[j] head = (linkByte m)^[j - n + a] head := by
    rw [Function.iterate_add_apply, hrepeat, ← Function.iterate_add_apply, Nat.sub_add_cancel hn]
  rw [hsame]
  exact hmore _ (by omega)

theorem not_walkFails_of_good {m : List Byte} {head n : Nat} (h : walkGood m n head = true) : ¬ WalkFails m head := by
  rw [walkFails_iff_exists]
  rintro ⟨k, hpassed, hfails⟩
  obtain ⟨j, -, hgood, hmore, hend⟩ := walkGood_iff.mp h
  have hk : k ≤ j := by
    by_contra hk
    exact (hpassed j (by omega)).2 hend
  obtain ⟨hlt, hscan⟩ := hgood k hk
  obtain ⟨hchannel, hsamples, -⟩ := (scanGood_iff m _).mp hscan
  obtain h | h | h | ⟨a, ha, hrepeat⟩ := hfails
  · omega
  · omega
  · exact h hsamples
  · exact walk_ends_of_repeat ha hk hrepeat hmore hend

/-- R66: a walk with no failure and no end would pass 49 records of 48. -/
theorem walk_ends {m : List Byte} {head : Nat} (h : ¬ WalkFails m head) : ∃ j < 48, linkByte m ((linkByte m)^[j] head) = 255 := by
  by_contra hno
  push Not at hno
  have hstep (n : Nat) (hn : n < 49) : (∀ j < n, (linkByte m)^[j] head < 48) → (linkByte m)^[n] head < 48
      ∧ ∀ j < n, (linkByte m)^[j] head ≠ (linkByte m)^[n] head := by
    intro hbefore
    have hfails : ¬ walkFailsAt m head n := fun hfails => h ((walkFails_iff_exists m head).mpr ⟨n, hfails⟩)
    simp only [walkFailsAt, not_and, not_or, not_le, not_exists] at hfails
    obtain ⟨hlt, -, -, hdistinct⟩ := hfails fun j hj => ⟨hbefore j hj, hno j (by omega)⟩
    exact ⟨hlt, hdistinct⟩
  have hlt (n : Nat) : n < 49 → (linkByte m)^[n] head < 48 := by
    induction n using Nat.strong_induction_on with
    | _ n ih => exact fun hn => (hstep n hn fun j hj => ih j hj (by omega)).1
  have hinj : Set.InjOn (fun n => (linkByte m)^[n] head) (Finset.range 49 : Finset Nat) := by
    intro a ha b hb hab
    simp only [Finset.coe_range, Set.mem_Iio] at ha hb
    obtain hlt' | rfl | hlt' := lt_trichotomy a b
    · exact absurd hab ((hstep b hb fun j hj => hlt j (by omega)).2 a hlt')
    · rfl
    · exact absurd hab.symm ((hstep a ha fun j hj => hlt j (by omega)).2 b hlt')
  have hmaps : ∀ n ∈ Finset.range 49, (linkByte m)^[n] head ∈ Finset.range 48 := fun n hn =>
    Finset.mem_range.mpr (hlt n (Finset.mem_range.mp hn))
  have hcard := Finset.card_le_card_of_injOn _ hmaps hinj
  simp at hcard

theorem walkGood_of_not_walkFails {m : List Byte} {head : Nat} (h : ¬ WalkFails m head) : walkGood m 48 head = true := by
  obtain ⟨k, hk, hkend⟩ := walk_ends h
  have hend : ∃ j, linkByte m ((linkByte m)^[j] head) = 255 := ⟨k, hkend⟩
  have hfirst (i : Nat) (hi : i < Nat.find hend) : linkByte m ((linkByte m)^[i] head) ≠ 255 := Nat.find_min hend hi
  have hle := Nat.find_min' hend hkend
  have hpass (n : Nat) : n ≤ Nat.find hend → (linkByte m)^[n] head < 48 ∧ byteAt m (1088 + 4 * (linkByte m)^[n] head) ≤ 31
      ∧ byteAt m (1088 + 4 * (linkByte m)^[n] head + 1) ∈ [1, 2, 4, 8] := by
    induction n using Nat.strong_induction_on with
    | _ n ih =>
      intro hn
      have hfails : ¬ walkFailsAt m head n := fun hfails => h ((walkFails_iff_exists m head).mpr ⟨n, hfails⟩)
      simp only [walkFailsAt, not_and, not_or, not_le, not_lt, not_not] at hfails
      obtain ⟨hlt, hchannel, hsamples, -⟩ := hfails fun j hj => ⟨(ih j hj (by omega)).1, hfirst j (by omega)⟩
      exact ⟨hlt, hchannel, hsamples⟩
  refine walkGood_iff.mpr ⟨Nat.find hend, by omega, fun i hi => ?_, hfirst, Nat.find_spec hend⟩
  obtain ⟨hlt, hchannel, hsamples⟩ := hpass i hi
  refine ⟨hlt, (scanGood_iff m _).mpr ⟨hchannel, hsamples, ?_⟩⟩
  obtain hi | rfl := hi.lt_or_eq
  · have hnext := (hpass (i + 1) hi).1
    rw [Function.iterate_succ_apply'] at hnext
    exact .inr hnext
  · exact .inl (Nat.find_spec hend)

theorem not_walkGood_iff (m : List Byte) (head : Nat) : (!walkGood m 48 head) = true ↔ WalkFails m head := by
  rw [Bool.not_eq_true', ← Bool.not_eq_true, ← not_iff_not, not_not]
  exact ⟨not_walkFails_of_good, walkGood_of_not_walkFails⟩

/-! ## The table of R166 -/

theorem failsNoImage_iff {m : List Byte} (h : m.length = 1986) : failsNoImage m = true ↔ ImageFails m .noImage := by
  simp only [failsNoImage, List.all_eq_true, decide_eq_true_eq, ImageFails]
  have hget (i : Nat) (hi : i < 64) : (m.take 64)[i]? = some (m.getD i 0) := by
    rw [List.getElem?_take_of_lt hi, List.getD_eq_getElem?_getD, List.getElem?_eq_getElem (by omega), Option.getD_some]
  constructor
  · intro hall i hi
    have hbyte := hall _ (List.mem_of_getElem? (hget i hi))
    rw [byteAt, hbyte]
    rfl
  · intro hall b hb
    obtain ⟨i, hi⟩ := List.mem_iff_getElem?.mp hb
    obtain ⟨hlt, -⟩ := List.getElem?_eq_some_iff.mp hi
    rw [List.length_take] at hlt
    rw [hget i (by omega), Option.some.injEq] at hi
    rw [← hi]
    exact BitVec.eq_of_toNat_eq (hall i (by omega))

theorem imageSum_eq {m : List Byte} (h : m.length = 1986) : imageSum m = ((List.range 1984).map (byteAt m)).sum % 65536 := by
  have htake : m.take 1984 = (List.range 1984).map fun i => m.getD i 0 := by
    refine List.ext_getElem? fun i => ?_
    rw [List.getElem?_map]
    by_cases hi : i < 1984
    · rw [List.getElem?_take_of_lt hi, List.getElem?_range hi, Option.map_some, List.getD_eq_getElem?_getD,
        List.getElem?_eq_getElem (by omega), Option.getD_some]
    · rw [List.getElem?_eq_none (by simp; omega), List.getElem?_eq_none (by simp; omega)]
      rfl
  have hfold (l : List Byte) (n : Nat) : l.foldl (fun n b => n + b.toNat) n = n + (l.map BitVec.toNat).sum := by
    induction l generalizing n with
    | nil => simp
    | cons b l ih => simp [ih, Nat.add_assoc]
  rw [imageSum, htake, hfold, Nat.zero_add, List.map_map]
  rfl

theorem not_mem_two {n : Nat} : n ∉ [1, 2] ↔ n < 1 ∨ 2 < n := by
  simp only [List.mem_cons, List.not_mem_nil, or_false]
  omega

theorem failsSegment_iff (m : List Byte) : failsSegment m = true ↔ SegmentFails m := by
  rw [← Bool.not_eq_false, failsSegment_eq_false, not_iff_comm]
  simp only [segmentGood_iff, SegmentFails, not_mem_two, not_or, not_exists, not_and, not_lt]
  constructor
  · rintro ⟨hfirst, hrest⟩ k hk
    obtain ⟨hkind, hlink, htime, hcycle⟩ := hrest k hk
    refine ⟨hkind, ?_, fun hne hend => ?_, htime, fun hthree => ?_⟩
    · rintro hzero rfl
      exact hfirst hzero
    · obtain ⟨hlt, hused⟩ := hlink hne hend
      exact ⟨by omega, hused⟩
    · obtain ⟨hcount, hamplitude, hlow, hhigh, hone, htwo⟩ := hcycle hthree
      exact ⟨hcount, hamplitude, hlow, hhigh, by omega⟩
  · intro hgood
    obtain ⟨-, hfirst, -⟩ := hgood 0 (by decide)
    refine ⟨fun hzero => hfirst hzero rfl, fun k hk => ?_⟩
    obtain ⟨hkind, -, hlink, htime, hcycle⟩ := hgood k hk
    refine ⟨hkind, fun hne hend => ?_, htime, fun hthree => ?_⟩
    · obtain ⟨hlt, hused⟩ := hlink hne hend
      exact ⟨by omega, hused⟩
    · obtain ⟨hcount, hamplitude, hlow, hhigh, hshape⟩ := hcycle hthree
      exact ⟨hcount, hamplitude, hlow, hhigh, by omega, by omega⟩

theorem failsServo_iff (m : List Byte) : failsServo m = true ↔ ImageFails m .servo := by
  simp only [failsServo, decide_eq_true_eq, ImageFails, not_mem_two, readSettings]
  omega

theorem failsTiming_iff (m : List Byte) : failsTiming m = true ↔ ImageFails m .timing := by
  have hrate : byteAt m 5 ∉ [1, 2, 3] ↔ byteAt m 5 < 1 ∨ 3 < byteAt m 5 := by
    simp only [List.mem_cons, List.not_mem_nil, or_false]
    omega
  simp only [failsTiming, outside, Bool.or_eq_true, decide_eq_true_eq, ImageFails, hrate, readSettings]
  omega

theorem failsPolicy_iff (m : List Byte) : failsPolicy m = true ↔ ImageFails m .policy := by
  have hcodes : (∃ i < 5, 2 < byteAt m (59 + i))
      ↔ 2 < byteAt m 59 ∨ 2 < byteAt m 60 ∨ 2 < byteAt m 61 ∨ 2 < byteAt m 62 ∨ 2 < byteAt m 63 := by
    simp only [Nat.exists_lt_succ_left, Nat.not_lt_zero, false_and, exists_false, or_false]
  simp only [failsPolicy, decide_eq_true_eq, ImageFails, hcodes]
  omega

/-- R166: the checks of the model, each with the fault code it gives, are the table's. -/
theorem imageChecks_iff {m : List Byte} (h : m.length = 1986) : ∀ c ∈ imageChecks m, (c.2 = true ↔ ImageFails m c.1) := by
  simp only [imageChecks, List.forall_mem_cons, List.not_mem_nil, IsEmpty.forall_iff, implies_true, and_true]
  refine ⟨failsNoImage_iff h, ?_, ?_, ?_, ?_, failsServo_iff m, failsTiming_iff m, failsPolicy_iff m, failsSegment_iff m, ?_, ?_,
    failsSite_iff m⟩
  · exact decide_eq_true_iff
  · simp only [failsChecksum, decide_eq_true_eq, ImageFails, imageSum_eq h]
  · simp only [failsGroup, decide_eq_true_eq, ImageFails, List.mem_cons, List.not_mem_nil, or_false]
    omega
  · simp only [failsLimits, decide_eq_true_eq, ImageFails, readSettings]
  · unfold failsChain headField scanOffset
    simp only [List.any_eq_true, List.mem_range, Bool.and_eq_true, decide_eq_true_eq, not_walkGood_iff, ImageFails]
  · unfold failsChannel outside channelOffset
    simp only [List.any_eq_true, List.mem_range, Bool.or_eq_true, decide_eq_true_eq, ImageFails]
    refine exists_congr fun k => and_congr_right fun _ => ?_
    omega

theorem imageChecks_order (m : List Byte) : (imageChecks m).map Prod.fst = checkOrder := rfl

theorem mem_checkOrder {m : List Byte} {code : FaultCode} (h : ImageFails m code) : code ∈ checkOrder := by
  cases code with
  | none => exact absurd h id
  | _ => decide

theorem imageFault_eq_none_iff {m : List Byte} (h : m.length = 1986) : imageFault m = none ↔ ∀ code, ¬ ImageFails m code := by
  rw [imageFault_eq_none]
  constructor
  · intro hgood code hfails
    obtain ⟨c, hc, rfl⟩ := List.mem_map.mp (imageChecks_order m ▸ mem_checkOrder hfails)
    rw [← imageChecks_iff h c hc, hgood c hc] at hfails
    contradiction
  · intro hnone c hc
    rw [← Bool.not_eq_true, imageChecks_iff h c hc]
    exact hnone c.1

theorem imageFault_eq_some_iff {m : List Byte} {code : FaultCode} (h : m.length = 1986) :
    imageFault m = some code ↔
      ∃ earlier later, checkOrder = earlier ++ code :: later ∧ ImageFails m code ∧ ∀ c ∈ earlier, ¬ ImageFails m c := by
  have hchecks := imageChecks_iff h
  rw [imageFault, Option.map_eq_some_iff]
  constructor
  · rintro ⟨⟨c, b⟩, hfind, rfl⟩
    obtain ⟨hb, earlier, later, hsplit, hearlier⟩ := List.find?_eq_some_iff_append.mp hfind
    rw [hsplit] at hchecks
    refine ⟨earlier.map Prod.fst, later.map Prod.fst, ?_, (hchecks (c, b) (by simp)).mp hb, fun c' hc' => ?_⟩
    · rw [← imageChecks_order m, hsplit]
      simp
    · obtain ⟨d, hd, rfl⟩ := List.mem_map.mp hc'
      rw [← hchecks d (by simp [hd])]
      simpa using hearlier d hd
  · rintro ⟨earlier, later, hsplit, hfails, hearlier⟩
    rw [← imageChecks_order m, List.map_eq_append_iff] at hsplit
    obtain ⟨before, rest, hlist, rfl, hrest⟩ := hsplit
    obtain ⟨d, after, rfl, rfl, rfl⟩ := List.map_eq_cons_iff.mp hrest
    rw [hlist] at hchecks
    refine ⟨d, List.find?_eq_some_iff_append.mpr ⟨(hchecks d (by simp)).mpr hfails, before, after, hlist, fun e he => ?_⟩, rfl⟩
    have hpasses := hearlier e.1 (List.mem_map_of_mem he)
    rw [← hchecks e (by simp [he])] at hpasses
    simpa using hpasses

/-! ## The constants at their places (R171) -/

theorem bitVec_fieldAt_two (m : List Byte) (i : Nat) :
    (BitVec.ofNat 16 (fieldAt m i 2)).toNat = byteAt m i * 256 + byteAt m (i + 1) := by
  rw [BitVec.toNat_ofNat, Nat.mod_eq_of_lt (fieldAt_two_lt m i), fieldAt_two]

theorem readPolicy_eq {m : List Byte} {i : Nat} (h : byteAt m i ≤ 2) :
    readPolicy m i = match byteAt m i with | 0 => .note | 1 => .hold | _ => .descent := by
  unfold readPolicy
  obtain h | h | h : byteAt m i = 0 ∨ byteAt m i = 1 ∨ byteAt m i = 2 := by omega
  all_goals
    rw [h]
    rfl

theorem bitOf_zero (n : Nat) : bitOf n 0 = decide (n % 2 = 1) := by simp [bitOf]

theorem bitOf_one (n : Nat) : bitOf n 1 = decide (n / 2 % 2 = 1) := by simp [bitOf]

theorem readSettings_reads {m : List Byte} (h : imageFault m = none) : (readSettings m).Reads m := by
  obtain ⟨-, -, -, -, hpolicy, -⟩ := checks_of_good h
  simp only [failsPolicy, decide_eq_false_iff_not] at hpolicy
  have hsigned (i : Nat) : signedAt m i
      = if byteAt m i * 256 + byteAt m (i + 1) < 32768 then ((byteAt m i * 256 + byteAt m (i + 1) : Nat) : Int)
        else ((byteAt m i * 256 + byteAt m (i + 1) : Nat) : Int) - 65536 := by
    rw [signedAt, fieldAt_two]
    rfl
  unfold Settings.Reads
  refine ⟨bitVec_fieldAt_two m 2, rfl, fieldAt_three m 6, fieldAt_two m 9, fieldAt_two m 11, hsigned 13, hsigned 15, hsigned 17,
    hsigned 19, hsigned 21, hsigned 23, hsigned 25, hsigned 27, hsigned 29, hsigned 31, hsigned 33, fieldAt_two m 35, fieldAt_two m 37,
    fieldAt_two m 39, fieldAt_two m 41, fieldAt_two m 43, fieldAt_two m 45, decide_eq_true_iff, decide_eq_true_iff, fieldAt_two m 49,
    fieldAt_two m 51, fieldAt_two m 53, fieldAt_two m 55, fieldAt_two m 57, readPolicy_eq (by omega), readPolicy_eq (by omega),
    readPolicy_eq (by omega), readPolicy_eq (by omega), readPolicy_eq (by omega), ?_, ?_, ?_, ?_, ?_, fun k hk => ?_, fun k hk => ?_,
    fun k hk => ?_, fun k hk => ?_, fun k hk => ?_⟩
  · simp [readSettings]
  · simp [readSettings]
  · simp [readSettings]
  · simp [readSettings]
  · simp [readSettings]
  · refine (getElem?_map_range (readSegment m) hk).trans ?_
    simp only [readSegment, segmentKind, segmentOffset, shapeOf, linkOf, bitOf_zero, bitOf_one, hsigned, fieldAt_two, fieldAt_three]
    rfl
  · exact getElem?_map_range (readScan m) hk
  · refine (getElem?_map_range (readPoint m) hk).trans ?_
    have hhigh := byteAt_lt m (1088 + 4 * (2 * k + 1) + 3)
    have hbit : bitOf (byteAt m (1088 + 4 * (2 * k + 1) + 3)) 7 = true ↔ 128 ≤ byteAt m (1088 + 4 * (2 * k + 1) + 3) := by
      simp only [bitOf, decide_eq_true_eq]
      omega
    have hfraction := if_congr hbit (rfl : (none : Option Nat) = none) (rfl : some (byteAt m (1088 + 4 * (2 * k) + 3)) = _)
    exact congrArg (fun f => some (ScanPoint.mk f (if headField m k = 63 then none else some (headField m k)))) hfraction
  · refine (getElem?_map_range (readChannel m) hk).trans ?_
    simp only [readChannel, channelOffset, hsigned, fieldAt_two, fieldAt_four]
    rfl
  · refine (getElem?_map_range (readSite m) hk).trans ?_
    simp only [readSite, siteOffset, linkOf, hsigned, fieldAt_two]
    rfl

/-- Settles O8: the bounds that each check leaves, the fields, and the checks against the table of R166 in their order. -/
theorem passedChecksBoundTheConstants : Obligations.PassedChecksBoundTheConstants :=
  ⟨fun _ h => ⟨readSettings_headerGood h, readSettings_tablesGood h⟩,
    fun m h => ⟨readSettings_reads h, bitVec_fieldAt_two m 2, bitVec_fieldAt_two m 1984⟩,
    fun _ h => imageFault_eq_none_iff h, fun _ _ h => imageFault_eq_some_iff h⟩

end Sys2Proof.Machine
end

section
/-! O57: the alarm output and the accept law (R140, R142). -/

namespace Sys2Proof.Machine

variable {s t : State}

/-- The laws of the alarm: the actions do not decrease, the output follows G and the mode, and RUN and ASCENT are held only under an
action NOTE or an accepted G. -/
structure State.AlarmLaws (s : State) : Prop where
  ordered : s.settings.Ordered
  pin : s.AlarmPinLaw
  accept : s.AcceptLaw

/-- R140: the action for a lower G is no stronger. -/
theorem policyFor_note_of_le {c : Settings} (h : c.Ordered) {g k : Nat} (hgk : g ≤ k) (hk : c.policyFor k = .note) :
    c.policyFor g = .note := by
  have hnote {a b : Policy} (hab : a.rank ≤ b.rank) (hb : b = .note) : a = .note := by
    subst hb
    cases a <;> simp_all [Policy.rank]
  obtain ⟨h₁, h₂⟩ := h
  match g, k with
  | 0, _ => rfl
  | 1, 1 => exact hk
  | 1, 2 => exact hnote h₁ hk
  | 1, k + 3 => exact hnote (h₁.trans h₂) hk
  | 2, 2 => exact hk
  | 2, k + 3 => exact hnote h₂ hk
  | g + 3, k + 3 => exact hk

/-- The alarm laws read the frame mode, the accept level, the alarm output, G and the constants alone. -/
theorem State.AlarmLaws.same (h : s.AlarmLaws) (hmode : t.control.mode = s.control.mode) (haccept : t.control.accept = s.control.accept)
    (halarm : t.control.alarm = s.control.alarm) (hG : t.peers.groupAlarm = s.peers.groupAlarm) (hsettings : t.settings = s.settings) :
    t.AlarmLaws := by
  obtain ⟨hordered, hpin, hlaw⟩ := h
  unfold State.AlarmPinLaw at hpin
  unfold State.AcceptLaw at hlaw
  refine ⟨by rwa [hsettings], ?_, ?_⟩
  · unfold State.AlarmPinLaw
    rwa [halarm, hG, hmode]
  · unfold State.AcceptLaw
    rwa [hmode, hG, hsettings, haccept]

theorem alarmPin_iff (g : Nat) (m : Mode) : alarmPin g m = true ↔ 2 ≤ g ∨ m = .tripped := by simp [alarmPin]

/-- R142: an entry of the frame mode re-examines the alarm output. -/
theorem enterMode_alarmLaws {m : Mode} (h : s.settings.Ordered)
    (haccept : m = .run ∨ m = .ascent → s.settings.policyFor s.peers.groupAlarm = .note ∨ s.peers.groupAlarm ≤ s.control.accept) :
    (s.enterMode m).AlarmLaws := ⟨h, alarmPin_iff _ _, haccept⟩

theorem enterTrip_alarmLaws (code : TripCode) (h : s.settings.Ordered) : (s.enterTrip code).AlarmLaws :=
  ⟨h, alarmPin_iff _ _, fun hm => by obtain hm | hm := hm <;> exact absurd hm (by simp [Control.enter])⟩

theorem changeMode_alarmLaws {m : Mode} (h : s.settings.Ordered)
    (haccept : m = .run ∨ m = .ascent → s.settings.policyFor s.peers.groupAlarm = .note ∨ s.peers.groupAlarm ≤ s.control.accept) :
    (s.changeMode m).AlarmLaws := by
  obtain h' | ⟨-, -, h'⟩ := changeMode_cases m s <;> rw [h']
  · exact enterMode_alarmLaws h haccept
  · exact enterTrip_alarmLaws .cutoff h

theorem State.Allows.accepts {m : Mode} (h : s.Allows m) (hs : s.AlarmLaws) (hm : m = .run ∨ m = .ascent) :
    s.settings.policyFor s.peers.groupAlarm = .note ∨ s.peers.groupAlarm ≤ s.control.accept := by
  cases h with
  | engage _ _ haccept => exact haccept
  | complete hfrom => exact hs.accept (.inr hfrom)
  | hold | descent | park | stop | resetTrip => simp at hm

/-- R140: an action other than NOTE leaves no frame in RUN or ASCENT. -/
theorem respond_leaves {a : Policy} (ha : a ≠ .note) (s : State) :
    ¬((s.respond a).control.mode = .run ∨ (s.respond a).control.mode = .ascent) := by
  have hleft {m : Mode} (hm : m = .hold ∨ m = .descent) :
      ¬((s.changeMode m).control.mode = .run ∨ (s.changeMode m).control.mode = .ascent) := by
    obtain h | h := changeMode_mode m s <;> rw [h]
    · obtain rfl | rfl := hm <;> simp
    · simp
  unfold State.respond
  split
  · exact hleft (.inl rfl)
  · exact hleft (.inl rfl)
  · exact hleft (.inr rfl)
  · exact hleft (.inr rfl)
  · exact hleft (.inr rfl)
  next a _ _ hholdRun hholdAscent hdescentRun hdescentAscent _ =>
    cases a with
    | note => exact absurd rfl ha
    | hold => exact not_or.mpr ⟨hholdRun rfl, hholdAscent rfl⟩
    | descent => exact not_or.mpr ⟨hdescentRun rfl, hdescentAscent rfl⟩

theorem respond_alarmLaws {a : Policy} (ha : a ≠ .note) (hordered : s.settings.Ordered) (hpin : s.AlarmPinLaw) :
    (s.respond a).AlarmLaws := by
  have haccept := respond_leaves ha s
  obtain h | ⟨-, -, h⟩ | ⟨-, -, h⟩ := respond_cases a s
  · rw [h] at haccept ⊢
    exact ⟨hordered, hpin, fun hm => absurd hm haccept⟩
  · exact h ▸ changeMode_alarmLaws hordered (by simp)
  · exact h ▸ changeMode_alarmLaws hordered (by simp)

/-- R140: a rise of G is answered, or is one that needs no answer. -/
theorem riseResponse_alarmLaws (hordered : s.settings.Ordered) (hpin : s.AlarmPinLaw) :
    (s.riseResponse s.peers.groupAlarm).AlarmLaws := by
  unfold State.riseResponse
  split
  next h => exact respond_alarmLaws h.1 hordered hpin
  next h =>
    rw [not_and_or, not_not, not_lt] at h
    exact ⟨hordered, hpin, fun _ => h⟩

theorem formAlarm_alarmLaws (h : s.AlarmLaws) : s.formAlarm.AlarmLaws := by
  have ⟨hordered, _, hlaw⟩ := h
  obtain ⟨-, h'⟩ | ⟨hfall, h'⟩ | ⟨-, h'⟩ := formAlarm_cases s <;> rw [h']
  · exact h
  · refine ⟨hordered, alarmPin_iff _ _, fun hm => ?_⟩
    obtain hnote | hle := hlaw hm
    · exact .inl (policyFor_note_of_le hordered hfall.le hnote)
    · exact .inr (hfall.le.trans hle)
  · exact riseResponse_alarmLaws (s := s.putAlarm _) hordered (alarmPin_iff _ _)

theorem alarmLaws_kept : Kept (fun _ => True) State.AlarmLaws := by
  have hnone : Settings.none.Ordered := ⟨le_rfl, le_rfl⟩
  have hsame {s t : State} (hp : s.AlarmLaws) (hcontrol : t.control = s.control) (hG : t.peers.groupAlarm = s.peers.groupAlarm)
      (hsettings : t.settings = s.settings) : t.AlarmLaws :=
    hp.same (congrArg Control.mode hcontrol) (congrArg Control.accept hcontrol) (congrArg Control.alarm hcontrol) hG hsettings
  refine ⟨fun s l hp => hsame hp rfl rfl rfl, fun s _ hp => hp.same rfl rfl rfl rfl rfl, fun s _ _ => ?_, fun s _ _ => ?_, ?fail, ?start, ?move⟩
  · exact ⟨hnone, by simp [State.AlarmPinLaw, State.poweredOn, State.afterReset, State.reset, Control.reset, PeerTable.reset],
      by simp [State.AcceptLaw, State.poweredOn, State.afterReset, State.reset, Control.reset]⟩
  · exact ⟨hnone, by simp [State.AlarmPinLaw, State.pinReset, State.afterReset, State.reset, Control.reset, PeerTable.reset],
      by simp [State.AcceptLaw, State.pinReset, State.afterReset, State.reset, Control.reset]⟩
  case fail =>
    intro s image code _ hp _ _
    rw [failStartUp_eq]
    exact enterMode_alarmLaws hp.ordered (by simp)
  case start =>
    intro s image first _ hp _ hgood
    have hordered := readSettings_ordered (checks_of_good hgood).2.2.2.2.1
    obtain ⟨-, -, -, hsettings, -⟩ := readied_spec (imageOf image) first s
    rw [startedUp_eq]
    refine enterMode_alarmLaws ?_ (by simp)
    rwa [putCracks_settings, hsettings]
  case move =>
    intro s t _ hp hmove
    cases hmove with
    | change m h => exact changeMode_alarmLaws hp.ordered (h.accepts hp)
    | trip cause h => exact enterTrip_alarmLaws cause hp.ordered
    | control c h =>
      cases h with
      | fraction | clearTrip | release => exact hp.same rfl rfl rfl rfl rfl
      | accept n hm =>
        refine ⟨hp.ordered, hp.pin, fun hm' => ?_⟩
        obtain hm' | hm' := hm' <;> change s.control.mode = _ at hm' <;> simp [hm'] at hm
    | servo | seq | line | scanner | recorder | cracks | clock | record | strap => exact hp.same rfl rfl rfl rfl rfl
    | judge sig h =>
      obtain ⟨-, h⟩ | ⟨-, h⟩ := putCracks_cases (s.cracks.evaluate s.settings.sites sig) s <;> rw [h]
      · exact hsame hp rfl rfl rfl
      · exact formAlarm_alarmLaws (hsame hp rfl rfl rfl)
    | hear n m v h =>
      refine formAlarm_alarmLaws ?_
      obtain ⟨-, h⟩ | ⟨-, h⟩ := captureOffset_cases n v (s.takeBeat n m v) <;> rw [h] <;> exact hsame hp rfl rfl rfl
    | expire n p h => exact formAlarm_alarmLaws (hsame hp rfl rfl rfl)
    | compose c =>
      obtain ⟨⟨-, -, -, -, hpeers, -, hsettings, -⟩, hcontrol, -⟩ := compose_keeps c s
      exact hsame hp hcontrol (congrArg PeerTable.groupAlarm hpeers) hsettings

/-- Settles O57: every step keeps the laws of the alarm; START has no part in them. -/
theorem everyStepKeepsTheAcceptLaw : Obligations.EveryStepKeepsTheAcceptLaw := by
  intro s t _ hordered hpin haccept hstep
  obtain ⟨hordered', hpin', haccept'⟩ := alarmLaws_kept.step_alone ⟨hordered, hpin, haccept⟩ hstep
  exact ⟨hordered', hpin', haccept'⟩

end Sys2Proof.Machine
end

section
/-! What every change keeps: the constants, and whether the clock runs. With it START is quiet and nothing is taken before the end of
start-up (R148, R163, R167), and the levels stand as the sites and the entries give them (O56: R109, R118). -/

namespace Sys2Proof.Machine

variable {s t : State}

/-! ## What a forming of G and a change leave as they were -/

theorem formAlarm_running (s : State) : s.formAlarm.running = s.running :=
  formAlarm_keeps_law (P := fun u => u.running = s.running) rfl (fun _ => rfl)
    fun _ _ hu hm => hm.changeMode_running.trans (hm.running.symm.trans hu)

theorem formAlarm_settings (s : State) : s.formAlarm.settings = s.settings := by
  obtain ⟨-, -, -, -, -, -, hsettings, -⟩ := formAlarm_keeps s
  exact hsettings

theorem changeMode_frame (m : Mode) (s : State) :
    (s.changeMode m).settings = s.settings ∧ (s.changeMode m).peers = s.peers ∧ (s.changeMode m).cracks = s.cracks := by
  obtain h | ⟨-, -, h⟩ := changeMode_cases m s <;> rw [h] <;> exact ⟨rfl, rfl, rfl⟩

theorem hear_settings (n : Nat) (m : Mode) (v : BeatView) (s : State) :
    ((s.takeBeat n m v).captureOffset n v).settings = s.settings ∧ ((s.takeBeat n m v).captureOffset n v).cracks = s.cracks
      ∧ ((s.takeBeat n m v).captureOffset n v).running = s.running := by
  obtain ⟨-, h⟩ | ⟨-, h⟩ := captureOffset_cases n v (s.takeBeat n m v) <;> rw [h] <;> exact ⟨rfl, rfl, rfl⟩

theorem putCracks_running (k : Cracks) (s : State) : (s.putCracks k).running = s.running := by
  obtain ⟨-, h⟩ | ⟨-, h⟩ := putCracks_cases k s <;> rw [h]
  · rfl
  · exact formAlarm_running _

theorem putCracks_cracks (k : Cracks) (s : State) : (s.putCracks k).cracks = k := by
  obtain ⟨-, h⟩ | ⟨-, h⟩ := putCracks_cases k s <;> rw [h]
  obtain ⟨-, -, -, hcracks, -⟩ := formAlarm_keeps { s with cracks := k, line := { s.line with prompt := true } }
  exact hcracks

theorem State.Move.settings (h : s.Move t) : t.settings = s.settings := by
  cases h with
  | change m h => exact (changeMode_frame m s).1
  | judge sig h => exact putCracks_settings _ s
  | hear n m v h => exact (formAlarm_settings _).trans (hear_settings n m v s).1
  | expire n p h => exact formAlarm_settings _
  | compose c =>
    obtain ⟨⟨-, -, -, -, -, -, hsettings, -⟩, -⟩ := compose_keeps c s
    exact hsettings
  | trip | control | servo | seq | line | scanner | recorder | cracks | clock | strap | record => rfl

/-- No change but the end of start-up starts the clock, and none stops it. -/
theorem State.Move.running (h : s.Move t) : t.running = s.running := by
  cases h with
  | change m h => exact h.changeMode_running.trans h.running.symm
  | trip cause h => exact (running_of_watchesCutoff h).symm
  | control c h => cases h <;> rfl
  | judge sig h => exact putCracks_running _ s
  | hear n m v h => exact (formAlarm_running _).trans (hear_settings n m v s).2.2
  | expire n p h => exact formAlarm_running _
  | compose c =>
    obtain ⟨-, hcontrol, -⟩ := compose_keeps c s
    unfold State.running
    rw [hcontrol]
  | servo | seq | line | scanner | recorder | cracks | clock | strap | record => rfl

theorem State.Works.settings (h : s.Works t) : t.settings = s.settings :=
  h.induction (P := fun u => u.settings = s.settings) (fun _ _ hu huv => huv.settings.trans hu) rfl

theorem State.Works.running (h : s.Works t) : t.running = s.running :=
  h.induction (P := fun u => u.running = s.running) (fun _ _ hu huv => huv.running.trans hu) rfl

theorem enterMode_standby_running (s : State) : (s.enterMode .standby).running = true := rfl

theorem startedUp_running (m : List Byte) (first : Nat) (s : State) : (s.startedUp m first).running = true := by
  rw [startedUp_eq]
  exact enterMode_standby_running _

theorem startedUp_settings (m : List Byte) (first : Nat) (s : State) : (s.startedUp m first).settings = readSettings m := by
  obtain ⟨-, -, -, hsettings, -⟩ := readied_spec m first s
  rw [startedUp_eq, State.enterMode_settings, putCracks_settings, hsettings]

/-! ## START is quiet, and nothing is taken before the end of start-up -/

/-- R167: the constants are those of a reset while the clock stands. -/
theorem nothingTaken_kept : Kept State.StartLaw State.NothingTaken := by
  refine ⟨fun s _ h => h, fun s _ h => h, fun s _ _ _ => rfl, fun s _ _ _ => rfl, ?_, ?_, ?_⟩
  · intro s image code hstart h hreading _ _
    rw [failStartUp_eq]
    exact h (running_eq_false.mpr (.inl (hstart.start_of_reading hreading)))
  · intro s image first _ _ _ _ hstop
    rw [startedUp_running] at hstop
    contradiction
  · intro s t _ h hmove hstop
    rw [hmove.settings]
    exact h (hmove.running.symm.trans hstop)

theorem entry_mem_or_empty (p : PeerTable) (n : Nat) : p.entry n ∈ p.entries ∨ p.entry n = Peer.empty := by
  unfold PeerTable.entry
  rw [List.getD_eq_getElem?_getD]
  cases h : p.entries[n - 1]? with
  | none => exact .inr rfl
  | some e => exact .inl (List.mem_of_getElem? h)

theorem mem_setEntry {p : PeerTable} {n : Nat} {e x : Peer} (h : x ∈ (p.setEntry n e).entries) : x ∈ p.entries ∨ x = e :=
  List.mem_or_eq_of_mem_set h

theorem State.Move.of_start (h : s.Move t) (ht : t.control.mode = .start) : s.control.mode = .start := by
  have hstop : s.running = false := h.running.symm.trans (running_eq_false.mpr (.inl ht))
  obtain hm | hm := running_eq_false.mp hstop
  · exact hm
  have hstay {u : State} (hu : u.control.mode = .cfgFault) : u.formAlarm.control.mode = .cfgFault := by
    refine formAlarm_keeps_law (P := fun u => u.control.mode = .cfgFault) hu (fun _ => hu) fun v m hv hallows => ?_
    have hrun := hallows.running
    rw [running_eq_false.mpr (.inr hv)] at hrun
    contradiction
  have hfault : t.control.mode = .cfgFault := by
    cases h with
    | change m h => rw [h.running] at hstop; contradiction
    | trip cause h => rw [running_of_watchesCutoff h] at hstop; contradiction
    | judge sig h => rw [h] at hstop; contradiction
    | control c h => cases h <;> exact hm
    | hear n m v h =>
      refine hstay ?_
      obtain ⟨-, h⟩ | ⟨-, h⟩ := captureOffset_cases n v (s.takeBeat n m v) <;> rw [h] <;> exact hm
    | expire n p h => exact hstay hm
    | compose c =>
      obtain ⟨-, hcontrol, -⟩ := compose_keeps c s
      rwa [hcontrol]
    | servo | seq | line | scanner | recorder | cracks | clock | strap | record => exact hm
  rw [hfault] at ht
  contradiction

/-- R148: on a line in OFF, with nothing composed and nothing assembled, the line unit has nothing to do. -/
theorem State.LineMove.of_off {v : LineUnit} (h : s.LineMove v) (hline : s.line.line = .off) (hassembler : s.line.assembler = .off)
    (htransmitter : s.line.transmitter = .idle) : (∃ b, v = { s.line with prompt := b }) ∨ ∃ n, v = { s.line with queryOverruns := n } := by
  cases h with
  | cause => exact .inl ⟨true, rfl⟩
  | overrun n => exact .inr ⟨n, rfl⟩
  | seeEpoch _ h | stick h => simp [State.OnLine, hline] at h
  | receive _ h => simp [LineUnit.receives, hline] at h
  | silence h | unstick h => rw [hline] at h; contradiction
  | reply _ h => rw [hline] at h; contradiction
  | take _ h | discard h => simp [LineUnit.assembles, hline] at h
  | send _ h => rw [hline] at h; contradiction
  | sent _ _ h | collide _ _ h | abandon _ h | backOff _ _ h | awaitGap _ h => rw [htransmitter] at h; contradiction
  | ready h => rw [hassembler] at h; contradiction

theorem startQuiet_kept : Kept State.StartLaw State.StartQuiet := by
  have hreset (e : Peer) (he : e ∈ PeerTable.reset.entries) : e.state = .empty := by
    rw [List.eq_of_mem_replicate he]
    rfl
  refine ⟨fun s _ h => h, fun s _ h => ?_, fun s _ _ _ => ?_, fun s _ _ _ => ?_, ?_, ?_, ?_⟩
  · intro hm
    obtain ⟨hline, hassembler, htransmitter, hheld, hbeat, hreply, hentries, hG, hlevel⟩ := h hm
    refine ⟨hline, hassembler, ?_, hheld, hbeat, hreply, fun e he => ?_, hG, hlevel⟩
    · show s.line.transmitter.advance = .idle
      rw [htransmitter]
      rfl
    · obtain ⟨e', he', rfl⟩ := List.mem_map.mp he
      rw [Peer.advance, if_pos (hentries e' he')]
      exact hentries e' he'
  · exact ⟨rfl, rfl, rfl, rfl, rfl, rfl, hreset, rfl, rfl⟩
  · exact ⟨rfl, rfl, rfl, rfl, rfl, rfl, hreset, rfl, rfl⟩
  · intro s image code _ _ _ _ hm
    rw [failStartUp_eq] at hm
    contradiction
  · exact fun s image first _ _ _ _ hm => absurd hm (by simp [startedUp_eq, Control.enter])
  · intro s t _ h hmove hm
    have hstart := hmove.of_start hm
    obtain ⟨hline, hassembler, htransmitter, hheld, hbeat, hreply, hentries, hG, hlevel⟩ := h hstart
    have hstop : s.running = false := running_eq_false.mpr (.inl hstart)
    cases hmove with
    | change m h => rw [h.running] at hstop; contradiction
    | trip cause h => rw [running_of_watchesCutoff h] at hstop; contradiction
    | judge sig h => rw [h] at hstop; contradiction
    | hear n m v h => simp [State.OnLine, hline] at h
    | expire n p h =>
      obtain he | he := entry_mem_or_empty s.peers n
      · exact absurd (hentries _ he) h
      · exact absurd (congrArg Peer.state he) h
    | line v h =>
      obtain ⟨b, rfl⟩ | ⟨n, rfl⟩ := h.of_off hline hassembler htransmitter <;>
        exact ⟨hline, hassembler, htransmitter, hheld, hbeat, hreply, hentries, hG, hlevel⟩
    | cracks k h =>
      cases h <;> exact ⟨hline, hassembler, htransmitter, hheld, hbeat, hreply, hentries, hG, hlevel⟩
    | clock =>
      refine ⟨hline, hassembler, htransmitter, hheld, hbeat, hreply, fun e he => ?_, hG, hlevel⟩
      obtain ⟨e', he', rfl⟩ := List.mem_map.mp he
      exact hentries e' he'
    | compose c =>
      have hsilent : s.line.line.composes = false := by rw [hline]; rfl
      unfold State.compose
      rw [hsilent]
      exact ⟨hline, hassembler, htransmitter, hheld, hbeat, hreply, hentries, hG, hlevel⟩
    | control | servo | seq | scanner | recorder | strap | record =>
      exact ⟨hline, hassembler, htransmitter, hheld, hbeat, hreply, hentries, hG, hlevel⟩

/-- The laws of start-up, which every step keeps together. -/
structure State.StartUpLaws (s : State) : Prop where
  start : s.StartLaw
  quiet : s.StartQuiet
  nothing : s.NothingTaken

theorem startUpLaws_kept : Kept (fun _ => True) State.StartUpLaws := by
  have hquiet := startLaw_kept.and startQuiet_kept
  have hnothing := startLaw_kept.and nothingTaken_kept
  have hjoin {s : State} (h₁ : s.StartLaw ∧ s.StartQuiet) (h₂ : s.StartLaw ∧ s.NothingTaken) : s.StartUpLaws := ⟨h₁.1, h₁.2, h₂.2⟩
  exact ⟨fun s l h => hjoin (hquiet.queue s l ⟨h.start, h.quiet⟩) (hnothing.queue s l ⟨h.start, h.nothing⟩),
    fun s _ h => hjoin (hquiet.advance s trivial ⟨h.start, h.quiet⟩) (hnothing.advance s trivial ⟨h.start, h.nothing⟩),
    fun s _ h => hjoin (hquiet.powerOn s trivial ⟨h.start, h.quiet⟩) (hnothing.powerOn s trivial ⟨h.start, h.nothing⟩),
    fun s _ h => hjoin (hquiet.pin s trivial ⟨h.start, h.quiet⟩) (hnothing.pin s trivial ⟨h.start, h.nothing⟩),
    fun s image code _ h hr hf =>
      hjoin (hquiet.fail s image code trivial ⟨h.start, h.quiet⟩ hr hf) (hnothing.fail s image code trivial ⟨h.start, h.nothing⟩ hr hf),
    fun s image first _ h hr hf =>
      hjoin (hquiet.start s image first trivial ⟨h.start, h.quiet⟩ hr hf)
        (hnothing.start s image first trivial ⟨h.start, h.nothing⟩ hr hf),
    fun s t _ h hm => hjoin (hquiet.move s t trivial ⟨h.start, h.quiet⟩ hm) (hnothing.move s t trivial ⟨h.start, h.nothing⟩ hm)⟩

end Sys2Proof.Machine
end

section
/-! O56: the node alarm level, the sensor fault indication and G (R109, R118). -/

namespace Sys2Proof.Machine

variable {s t : State}

/-! ## The levels that sites give -/

/-- A change of the site records that moves no state and no sensor fault flag moves no level. -/
theorem levelOf_zipWith (f : SiteConst → Site → Site) (h : ∀ c r, (f c r).state = r.state) (consts : List SiteConst) (sites : List Site) :
    levelOf consts (List.zipWith f consts sites) = levelOf consts sites := by
  unfold levelOf
  congr 1
  induction consts generalizing sites with
  | nil => rfl
  | cons c consts ih =>
    cases sites with
    | nil => rfl
    | cons r sites => simp [ih, activeLevel, h]

theorem sensorFaultOf_zipWith (f : SiteConst → Site → Site) (hstate : ∀ c r, (f c r).state = r.state)
    (hflag : ∀ c r, (f c r).faultFlag = r.faultFlag) (consts : List SiteConst) (sites : List Site) :
    sensorFaultOf consts (List.zipWith f consts sites) = sensorFaultOf consts sites := by
  unfold sensorFaultOf
  congr 1
  induction consts generalizing sites with
  | nil => rfl
  | cons c consts ih =>
    cases sites with
    | nil => rfl
    | cons r sites => simp [ih, hstate, hflag]

theorem zipWith_modify_eq {α β γ : Type} (g : α → β → γ) (f : β → β) (h : ∀ a b, g a (f b) = g a b) (l : List α) (m : List β) (i : Nat) :
    List.zipWith g l (m.modify i f) = List.zipWith g l m := by
  refine List.ext_getElem? fun k => ?_
  simp only [List.getElem?_zipWith, List.getElem?_modify]
  cases l[k]? with
  | none => simp
  | some a =>
    cases m[k]? with
    | none => simp
    | some b =>
      by_cases hik : i = k <;> simp [hik, h]

theorem rebase_state (c : SiteConst) (r : Site) : (r.rebase c).state = r.state ∧ (r.rebase c).faultFlag = r.faultFlag := by
  unfold Site.rebase
  split <;> exact ⟨rfl, rfl⟩

/-- What the crack monitor does to its records away from an evaluation moves no level. -/
theorem State.CracksMove.levels {k : Cracks} (h : s.CracksMove k) :
    k.level = s.cracks.level ∧ k.sensorFault = s.cracks.sensorFault
      ∧ levelOf s.settings.sites k.sites = levelOf s.settings.sites s.cracks.sites
      ∧ sensorFaultOf s.settings.sites k.sites = sensorFaultOf s.settings.sites s.cracks.sites := by
  cases h with
  | rebase =>
    exact ⟨rfl, rfl, levelOf_zipWith _ (fun c r => (rebase_state c r).1) _ _,
      sensorFaultOf_zipWith _ (fun c r => (rebase_state c r).1) (fun c r => (rebase_state c r).2) _ _⟩
  | handOff i reading =>
    refine ⟨rfl, rfl, ?_, ?_⟩
    · unfold levelOf
      rw [zipWith_modify_eq]
      exact fun c r => rfl
    · unfold sensorFaultOf
      rw [zipWith_modify_eq]
      exact fun c r => rfl

/-! ## The node alarm level and the sensor fault indication -/

theorem State.LevelLaw.same (h : s.LevelLaw) (hcracks : t.cracks = s.cracks) (hsettings : t.settings = s.settings)
    (hrunning : t.running = s.running) : t.LevelLaw := by
  unfold State.LevelLaw
  rwa [hcracks, hsettings, hrunning]

theorem levelLaw_kept : Kept State.StartUpLaws State.LevelLaw := by
  refine ⟨fun s _ h => h, fun s _ h => h, fun s _ _ => ⟨rfl, rfl⟩, fun s _ _ => ⟨rfl, rfl⟩, ?_, ?_, ?_⟩
  · intro s image code hstart h hreading _
    have hstop : s.running = false := running_eq_false.mpr (.inl (hstart.start.start_of_reading hreading))
    obtain ⟨hlevel, hfault⟩ := h
    rw [hstop] at hlevel hfault
    rw [failStartUp_eq]
    exact ⟨hlevel, hfault⟩
  · intro s image first _ _ _ _
    unfold State.LevelLaw
    rw [startedUp_running, startedUp_settings]
    obtain ⟨-, -, -, hsettings, -⟩ := readied_spec (imageOf image) first s
    have hcracks : (s.startedUp (imageOf image) first).cracks = (s.readied (imageOf image) first).formed := by
      rw [startedUp_eq, State.enterMode_cracks, putCracks_cracks]
    rw [hcracks, ← hsettings]
    exact ⟨rfl, rfl⟩
  · intro s t _ h hmove
    have hsettings := hmove.settings
    have hrunning := hmove.running
    cases hmove with
    | change m _ => exact h.same (changeMode_frame m s).2.2 hsettings hrunning
    | cracks k hk =>
      obtain ⟨hlevel, hfault, hlevels, hfaults⟩ := hk.levels
      refine ⟨hlevel.trans (h.1.trans ?_), hfault.trans (h.2.trans ?_)⟩
      · show _ = if s.running = true then levelOf s.settings.sites k.sites else 0
        rw [hlevels]
      · show _ = (s.running && sensorFaultOf s.settings.sites k.sites)
        rw [hfaults]
    | judge sig hrun =>
      unfold State.LevelLaw
      rw [hrunning, hsettings, putCracks_cracks, hrun]
      exact ⟨rfl, (Bool.true_and _).symm⟩
    | hear n m v _ =>
      refine h.same ?_ hsettings hrunning
      obtain ⟨-, -, -, hcracks, -⟩ := formAlarm_keeps ((s.takeBeat n m v).captureOffset n v)
      exact hcracks.trans (hear_settings n m v s).2.1
    | expire n p _ =>
      obtain ⟨-, -, -, hcracks, -⟩ := formAlarm_keeps (s.expire n p)
      exact h.same hcracks hsettings hrunning
    | compose c =>
      obtain ⟨⟨-, -, -, hcracks, -⟩, -⟩ := compose_keeps c s
      exact h.same hcracks hsettings hrunning
    | control | trip | servo | seq | line | scanner | recorder | clock | strap | record => exact h.same rfl hsettings hrunning

/-! ## The group alarm level -/

theorem formAlarm_groupLaw (s : State) : s.formAlarm.GroupLaw := by
  obtain ⟨-, -, -, hcracks, hpeers, -, hsettings, -⟩ := formAlarm_keeps s
  unfold State.GroupLaw
  rw [hcracks, hpeers, hsettings]
  obtain ⟨hlevel, hcounted, hattained⟩ := formAlarm_spec s.peers s.settings.group s.cracks.level
  exact ⟨hlevel, hcounted, hattained⟩

/-- A change of the entries that moves no state, group or own level moves no group alarm level. -/
theorem countedPeers_map (f : Peer → Peer) (hf : ∀ own e, (f e).counted own = e.counted own) (p : PeerTable) (own : Nat) :
    PeerTable.countedPeers { p with entries := p.entries.map f } own = (p.countedPeers own).map f := by
  unfold PeerTable.countedPeers
  rw [List.filter_map]
  congr 2
  exact funext (hf own)

theorem groupLaw_map {f : Peer → Peer} (hf : ∀ own e, (f e).counted own = e.counted own) (hlevel : ∀ e, (f e).ownLevel = e.ownLevel)
    (h : s.GroupLaw) (hpeers : t.peers = { s.peers with entries := s.peers.entries.map f }) (hcracks : t.cracks.level = s.cracks.level)
    (hsettings : t.settings = s.settings) : t.GroupLaw := by
  obtain ⟨hown, hcounted, hattained⟩ := h
  unfold State.GroupLaw
  rw [hpeers, hcracks, hsettings, countedPeers_map f hf]
  refine ⟨hown, fun e he => ?_, hattained.imp_right fun ⟨e, he, heq⟩ => ⟨f e, List.mem_map_of_mem he, (hlevel e).trans heq⟩⟩
  obtain ⟨e', he', rfl⟩ := List.mem_map.mp he
  rw [hlevel]
  exact hcounted e' he'

theorem State.GroupLaw.same (h : s.GroupLaw) (hpeers : t.peers = s.peers) (hcracks : t.cracks.level = s.cracks.level)
    (hsettings : t.settings = s.settings) : t.GroupLaw :=
  groupLaw_map (f := id) (fun _ _ => rfl) (fun _ => rfl) h (by rw [hpeers, List.map_id]) hcracks hsettings

theorem peer_advance_counted (own : Nat) (e : Peer) : e.advance.counted own = e.counted own := by
  unfold Peer.advance
  split <;> rfl

theorem peer_advance_ownLevel (e : Peer) : e.advance.ownLevel = e.ownLevel := by
  unfold Peer.advance
  split <;> rfl

/-- With no entry counted and no level of its own the node's G is 0. -/
theorem groupLaw_of_none (hG : s.peers.groupAlarm = s.cracks.level) (hentries : ∀ e ∈ s.peers.entries, e.state = .empty) : s.GroupLaw := by
  have hcounted (e : Peer) (he : e ∈ s.peers.countedPeers s.settings.group) : False := by
    obtain ⟨hmem, hc⟩ := List.mem_filter.mp he
    rw [Peer.counted, hentries e hmem] at hc
    contradiction
  exact ⟨hG.ge, fun e he => (hcounted e he).elim, .inl hG⟩

theorem groupLaw_kept : Kept State.StartUpLaws State.GroupLaw := by
  have hreset (e : Peer) (he : e ∈ PeerTable.reset.entries) : e.state = .empty := by
    rw [List.eq_of_mem_replicate he]
    rfl
  refine ⟨fun s _ h => h, fun s _ h => groupLaw_map peer_advance_counted peer_advance_ownLevel h rfl rfl rfl,
    fun s _ _ => groupLaw_of_none rfl hreset, fun s _ _ => groupLaw_of_none rfl hreset, ?_, ?_, ?_⟩
  · intro s image code _ h _ _
    rw [failStartUp_eq]
    exact h.same rfl rfl rfl
  · intro s image first hstart h hreading _
    obtain ⟨-, -, -, -, -, -, hentries, hG, hlevel⟩ := hstart.quiet (hstart.start.start_of_reading hreading)
    obtain ⟨-, -, hpeers, -, -, -, -, -, -, hcracks⟩ := readied_spec (imageOf image) first s
    have hquiet : (s.readied (imageOf image) first).cracks.level = 0 := by
      rw [hcracks]
      obtain ⟨-, h⟩ | ⟨-, h⟩ := retain_cases (tagOf (imageOf image)) s <;> rw [h]
      · exact hlevel
      · rfl
    rw [startedUp_eq]
    generalize s.readied (imageOf image) first = u at hpeers hquiet
    refine State.GroupLaw.same (s := u.putCracks u.formed) ?_ rfl rfl rfl
    obtain ⟨hsame, h⟩ | ⟨-, h⟩ := putCracks_cases u.formed u <;> rw [h]
    · refine groupLaw_of_none ?_ ?_
      · show u.peers.groupAlarm = u.formed.level
        rw [hpeers, hG, hsame, hquiet]
      · show ∀ e ∈ u.peers.entries, _
        rwa [hpeers]
    · exact formAlarm_groupLaw _
  · intro s t _ h hmove
    have hsettings := hmove.settings
    cases hmove with
    | change m _ =>
      obtain ⟨-, hpeers, hcracks⟩ := changeMode_frame m s
      exact h.same hpeers (congrArg Cracks.level hcracks) hsettings
    | cracks k hk => exact h.same rfl hk.levels.1 rfl
    | judge sig _ =>
      obtain ⟨hsame, h'⟩ | ⟨-, h'⟩ := putCracks_cases (s.cracks.evaluate s.settings.sites sig) s <;> rw [h']
      · exact h.same rfl hsame rfl
      · exact formAlarm_groupLaw _
    | hear | expire => exact formAlarm_groupLaw _
    | clock => exact groupLaw_map (f := fun e => { e with offsetValid := false }) (fun _ _ => rfl) (fun _ => rfl) h rfl rfl rfl
    | compose c =>
      obtain ⟨⟨-, -, -, hcracks, hpeers, -⟩, -⟩ := compose_keeps c s
      exact h.same hpeers (congrArg Cracks.level hcracks) hsettings
    | control | trip | servo | seq | line | scanner | recorder | strap | record => exact h.same rfl rfl rfl

/-- Settles O56: both levels are kept by every step, on the laws of start-up. -/
theorem everyStepKeepsTheAlarmLevels : Obligations.EveryStepKeepsTheAlarmLevels := by
  intro s t hstart hquiet hnothing hlevel hgroup hstep
  have hlaws : s.StartUpLaws := ⟨hstart, hquiet, hnothing⟩
  exact ⟨(Kept.step startUpLaws_kept levelLaw_kept hlaws hlevel hstep).2, (Kept.step startUpLaws_kept groupLaw_kept hlaws hgroup hstep).2⟩

end Sys2Proof.Machine
end

section
/-! O53: the sizes of the tables, the constants in force, and the PROMPT causes of an event. -/

namespace Sys2Proof.Machine

variable {s t : State}

/-! ## The end of start-up at the blocks that hold tables -/

/-- R64: what every firing keeps, the firings at the start of the clock keep. -/
theorem fireStarting_keeps {P : Scanner → Prop} (first : Nat) (s : State)
    (hfire : ∀ (z : Scanner) (k : Nat) (atMark : Bool), P z → P (z.fire s.settings k atMark)) (h : P s.scanner) :
    P (s.fireStarting first).scanner := by
  have hfold (l : List Nat) (u : State) (hsettings : u.settings = s.settings) (hu : P u.scanner) : P (l.foldl State.firePoint u).scanner := by
    induction l generalizing u with
    | nil => exact hu
    | cons k l ih => exact ih (u.firePoint k) hsettings (by unfold State.firePoint; rw [hsettings]; exact hfire _ k _ hu)
  exact hfold _ s rfl h

theorem readied_scanner_keeps {P : Scanner → Prop} (m : List Byte) (first : Nat) (s : State)
    (hfire : ∀ (z : Scanner) (k : Nat) (atMark : Bool), P z → P (z.fire (readSettings m) k atMark)) (h : P s.scanner) :
    P (s.readied m first).scanner := by
  refine fireStarting_keeps first _ hfire ?_
  obtain ⟨-, h'⟩ | ⟨-, h'⟩ := retain_cases (tagOf m) s <;> rw [h'] <;> exact h

theorem putCracks_frame (k : Cracks) (s : State) :
    (s.putCracks k).clock = s.clock ∧ (s.putCracks k).scanner = s.scanner ∧ (s.putCracks k).recorder = s.recorder
      ∧ (s.putCracks k).peers.entries = s.peers.entries := by
  obtain ⟨-, h⟩ | ⟨-, h⟩ := putCracks_cases k s <;> rw [h]
  · exact ⟨rfl, rfl, rfl, rfl⟩
  · obtain ⟨hclock, hscanner, hrecorder, -, hpeers, -⟩ := formAlarm_keeps { s with cracks := k, line := { s.line with prompt := true } }
    exact ⟨hclock, hscanner, hrecorder, by rw [hpeers]⟩

/-- R168, R169: the blocks that hold tables at the end of start-up. -/
theorem startedUp_tables (m : List Byte) (first : Nat) (s : State) :
    (s.startedUp m first).clock = Clock.started (readSettings m).points (readSettings m).defaultPeriod
      ∧ (s.startedUp m first).scanner = (s.readied m first).scanner ∧ (s.startedUp m first).recorder = (s.retain (tagOf m)).recorder
      ∧ (s.startedUp m first).cracks.sites = (s.retain (tagOf m)).cracks.sites
      ∧ (s.startedUp m first).peers.entries = s.peers.entries := by
  obtain ⟨-, -, hpeers, -, -, hclock, -, -, hrecorder, hcracks⟩ := readied_spec m first s
  rw [startedUp_eq, State.enterMode_clock, State.enterMode_scanner, State.enterMode_recorder, State.enterMode_cracks,
    State.enterMode_peers, putCracks_cracks, ← hclock, ← hrecorder, ← hcracks, ← hpeers]
  obtain ⟨hclock', hscanner', hrecorder', hpeers'⟩ := putCracks_frame (s.readied m first).formed (s.readied m first)
  exact ⟨hclock', hscanner', hrecorder', rfl, hpeers'⟩

/-! ## Tables -/

/-- The sizes of the scanner's tables. -/
def Scanner.Sized (z : Scanner) : Prop := z.chains.length = 8 ∧ z.ladders.length = 12 ∧ z.overruns.length = 8

/-- The sizes of the recorder's tables. -/
def Recorder.Sized (r : Recorder) : Prop := r.channels.length = 32 ∧ ∀ c ∈ r.channels, c.bins.length = 16

/-- The sizes of the tables of the constants. -/
def Settings.Sized (c : Settings) : Prop :=
  c.segments.length = 64 ∧ c.scans.length = 48 ∧ c.points.length = 8 ∧ c.channels.length = 32 ∧ c.sites.length = 12

/-- The tables of the node, block by block. -/
theorem sized_iff : s.Sized ↔ s.clock.times.length = 8 ∧ s.scanner.Sized ∧ s.recorder.Sized ∧ s.cracks.sites.length = 12
    ∧ s.peers.entries.length = 16 ∧ s.settings.Sized := by
  unfold State.Sized Scanner.Sized Recorder.Sized Settings.Sized
  tauto

theorem fire_sized {c : Settings} {z : Scanner} (k : Nat) (atMark : Bool) (h : z.Sized) : (z.fire c k atMark).Sized := by
  obtain ⟨hchains, hladders, hoverruns⟩ := h
  obtain ⟨-, h⟩ | ⟨-, -, ⟨-, h⟩ | ⟨-, h⟩⟩ := fire_cases c k atMark z <;> rw [h]
  · exact ⟨hchains, hladders, by simpa [Scanner.mergeFiring] using hoverruns⟩
  · exact ⟨by simpa [Scanner.beginChain] using hchains, hladders, hoverruns⟩
  · exact ⟨by simpa using hchains, hladders, hoverruns⟩

theorem post_sized {c : Settings} {z : Scanner} (i : Nat) (h : z.Sized) : (z.post c i).Sized := by
  obtain ⟨hchains, hladders, hoverruns⟩ := h
  obtain ⟨-, h⟩ | ⟨-, ⟨-, h⟩ | ⟨-, h⟩⟩ := post_cases c z i <;> rw [h]
  · exact ⟨hchains, hladders, hoverruns⟩
  · exact ⟨hchains, by simpa [Scanner.beginLadder] using hladders, hoverruns⟩
  · exact ⟨hchains, by simpa using hladders, hoverruns⟩

theorem choose_sized {c : Settings} {z : Scanner} (h : z.Sized) : (z.choose c).Sized := by
  obtain ⟨hchains, hladders, hoverruns⟩ := h
  obtain ⟨k, -, h⟩ | ⟨-, i, -, h⟩ | ⟨-, -, h⟩ := choose_cases c z <;> rw [h]
  · exact ⟨by simpa [Scanner.beginChain] using hchains, hladders, hoverruns⟩
  · exact ⟨hchains, by simpa [Scanner.beginLadder] using hladders, hoverruns⟩
  · exact ⟨hchains, hladders, hoverruns⟩

/-- R73: the record of a chain that completes gives way to its link, or to the arbiter's choice. -/
theorem afterRecord_cases (c : Settings) (k r : Nat) (carried : Bool) (z : Scanner) :
    (∃ next, (recordAt c r).link = some next ∧ z.afterRecord c k r carried
        = { z with accumulator := 0, converter := .chain k next 0 0 carried, input := (recordAt c next).channel })
      ∨ ((recordAt c r).link = none ∧ z.afterRecord c k r carried = z.clearSum.choose c) := by
  unfold Scanner.afterRecord
  split
  · exact .inl ⟨_, ‹_›, rfl⟩
  · exact .inr ⟨‹_›, rfl⟩

theorem State.ScannerMove.sized {z : Scanner} (h : s.ScannerMove z) (hs : s.scanner.Sized) : z.Sized := by
  cases h with
  | mark =>
    obtain ⟨hchains, hladders, hoverruns⟩ := hs
    exact ⟨by simpa [Scanner.mark] using hchains, hladders, hoverruns⟩
  | fire k atMark => exact fire_sized k atMark hs
  | post i => exact post_sized i hs
  | samples => exact hs
  | record k r sample us carried _ =>
    obtain ⟨next, -, h⟩ | ⟨-, h⟩ := afterRecord_cases s.settings k r carried s.scanner <;> rw [h]
    · exact hs
    · exact choose_sized (z := s.scanner.clearSum) hs
  | ladder => exact choose_sized (z := s.scanner.clearSum) hs

theorem credit_bins (raw : Int) (r : Channel) : (r.credit raw).bins = r.bins := rfl

theorem close_bins_length (c : ChannelConst) (r : Channel) : (r.close c).bins.length = r.bins.length := by
  unfold Channel.close Channel.closeRange
  dsimp only
  repeat' split
  all_goals simp

theorem State.RecorderMove.sized {r : Recorder} (h : s.RecorderMove r) (hs : s.recorder.Sized) (hconsts : s.settings.channels.length = 32) :
    r.Sized := by
  obtain ⟨hlength, hbins⟩ := hs
  cases h with
  | take channel code =>
    unfold Recorder.take
    dsimp only
    split
    · refine ⟨by simpa using hlength, fun c hc => ?_⟩
      obtain ⟨i, hi⟩ := List.mem_iff_getElem?.mp hc
      rw [List.getElem?_modify, Option.map_eq_map, Option.map_eq_some_iff] at hi
      obtain ⟨c', hc', rfl⟩ := hi
      have hold := hbins c' (List.mem_of_getElem? hc')
      split
      · exact hold
      · exact hold
    · exact ⟨hlength, hbins⟩
  | close =>
    refine ⟨by simp [Recorder.mark, hlength, hconsts], fun c hc => ?_⟩
    obtain ⟨i, hi⟩ := List.mem_iff_getElem?.mp hc
    rw [Recorder.mark, List.getElem?_zipWith] at hi
    split at hi
    next consts r _ hr =>
      rw [← Option.some.inj hi, close_bins_length]
      exact hbins r (List.mem_of_getElem? hr)
    next => contradiction
  | steady => exact ⟨hlength, hbins⟩

theorem State.CracksMove.sized {k : Cracks} (h : s.CracksMove k) (hs : s.cracks.sites.length = 12) (hconsts : s.settings.sites.length = 12) :
    k.sites.length = 12 := by
  cases h with
  | rebase => simp [Cracks.rebase, hs, hconsts]
  | handOff => simpa using hs

theorem readSettings_sized (m : List Byte) : (readSettings m).Sized := by simp [Settings.Sized, readSettings]

theorem settings_none_sized : Settings.none.Sized := by simp [Settings.Sized, Settings.none]

theorem cleared_sized : Recorder.cleared.Sized := by
  refine ⟨by simp [Recorder.cleared], fun c hc => ?_⟩
  rw [List.eq_of_mem_replicate hc]
  simp [Channel.cleared]

theorem State.Sized.same (h : s.Sized) (hclock : t.clock = s.clock) (hscanner : t.scanner = s.scanner) (hrecorder : t.recorder = s.recorder)
    (hcracks : t.cracks.sites = s.cracks.sites) (hpeers : t.peers.entries = s.peers.entries) (hsettings : t.settings = s.settings) :
    t.Sized := by
  unfold State.Sized
  rwa [hclock, hscanner, hrecorder, hcracks, hpeers, hsettings]

theorem formAlarm_sized (h : s.Sized) : s.formAlarm.Sized := by
  obtain ⟨hclock, hscanner, hrecorder, hcracks, hpeers, -, hsettings, -⟩ := formAlarm_keeps s
  exact h.same hclock hscanner hrecorder (congrArg Cracks.sites hcracks) (by rw [hpeers]) hsettings

theorem setEntry_sized (n : Nat) (e : Peer) (h : s.Sized) : State.Sized { s with peers := s.peers.setEntry n e } := by
  rw [sized_iff] at h ⊢
  obtain ⟨hclock, hscanner, hrecorder, hcracks, hpeers, hsettings⟩ := h
  exact ⟨hclock, hscanner, hrecorder, hcracks, by simpa [PeerTable.setEntry] using hpeers, hsettings⟩

theorem afterReset_sized (s : State) (seq : Sequencer) {recorder : Recorder} {sites : List Site} (tag : Option (Half × Half))
    (hrecorder : recorder.Sized) (hsites : sites.length = 12) : (s.afterReset seq recorder sites tag).Sized := by
  rw [sized_iff]
  refine ⟨?_, ?_, hrecorder, hsites, ?_, settings_none_sized⟩
  · simp [State.afterReset, State.reset, Clock.reset]
  · simp [State.afterReset, State.reset, Scanner.reset, Scanner.Sized]
  · simp [State.afterReset, State.reset, PeerTable.reset]

theorem retained_sized {r : Recorder} (h : r.Sized) : r.retained.Sized := by
  obtain ⟨hlength, hbins⟩ := h
  refine ⟨by simpa [Recorder.retained] using hlength, fun c hc => ?_⟩
  obtain ⟨c', hc', rfl⟩ := List.mem_map.mp hc
  exact hbins c' hc'

theorem sized_kept : Kept (fun _ => True) State.Sized := by
  refine ⟨fun s _ h => h, fun s _ h => ?_, fun s _ _ => afterReset_sized s _ _ cleared_sized (by simp [Cracks.cleared]), fun s _ h => ?_,
    fun s image code _ h _ _ => ?_, fun s image first _ h _ _ => ?_, fun s t _ h hmove => ?_⟩
  · rw [sized_iff] at h ⊢
    obtain ⟨hclock, hscanner, hrecorder, hcracks, hpeers, hsettings⟩ := h
    refine ⟨?_, hscanner, hrecorder, hcracks, by simpa [State.advance] using hpeers, hsettings⟩
    show (if s.running then s.clock.advance else s.clock).times.length = 8
    unfold Clock.advance
    split <;> (try split) <;> exact hclock
  · obtain ⟨-, -, hrecorder, hcracks, -⟩ := sized_iff.mp h
    exact afterReset_sized s _ _ (retained_sized hrecorder) hcracks
  · rw [failStartUp_eq]
    exact h
  · obtain ⟨-, hscanner, hrecorder, hcracks, hpeers, -⟩ := sized_iff.mp h
    obtain ⟨hclock', hscanner', hrecorder', hcracks', hpeers'⟩ := startedUp_tables (imageOf image) first s
    rw [sized_iff, hclock', hscanner', hrecorder', hcracks', hpeers', startedUp_settings]
    refine ⟨by simp [Clock.started, scanTimes, readSettings], readied_scanner_keeps _ first s (fun z k b => fire_sized k b) hscanner,
      ?_, ?_, hpeers, readSettings_sized _⟩
    · obtain ⟨-, h⟩ | ⟨-, h⟩ := retain_cases (tagOf (imageOf image)) s <;> rw [h]
      · exact hrecorder
      · exact cleared_sized
    · obtain ⟨-, h⟩ | ⟨-, h⟩ := retain_cases (tagOf (imageOf image)) s <;> rw [h]
      · exact hcracks
      · simp [Cracks.cleared]
  · have hparts := sized_iff.mp h
    obtain ⟨hclock, hscanner, hrecorder, hcracks, hpeers, hsettings⟩ := hparts
    have ⟨_, _, hpoints, hchannels, hsites⟩ := hsettings
    cases hmove with
    | change m _ =>
      obtain h' | ⟨-, -, h'⟩ := changeMode_cases m s <;> rw [h'] <;> exact h
    | scanner z hz => exact sized_iff.mpr ⟨hclock, hz.sized hscanner, hrecorder, hcracks, hpeers, hsettings⟩
    | recorder r hr => exact sized_iff.mpr ⟨hclock, hscanner, hr.sized hrecorder hchannels, hcracks, hpeers, hsettings⟩
    | cracks k hk => exact sized_iff.mpr ⟨hclock, hscanner, hrecorder, hk.sized hcracks hsites, hpeers, hsettings⟩
    | clock =>
      refine sized_iff.mpr ⟨?_, hscanner, hrecorder, hcracks, ?_, hsettings⟩
      · simpa [State.clockMark, Clock.newCycle, scanTimes] using hpoints
      · simpa [State.clockMark, PeerTable.clearOffsets] using hpeers
    | judge sig _ =>
      obtain ⟨hclock', hscanner', hrecorder', hpeers'⟩ := putCracks_frame (s.cracks.evaluate s.settings.sites sig) s
      rw [sized_iff, hclock', hscanner', hrecorder', hpeers', putCracks_settings, putCracks_cracks]
      exact ⟨hclock, hscanner, hrecorder, by simp [Cracks.evaluate, hcracks, hsites], hpeers, hsettings⟩
    | hear n m v _ =>
      have htaken : (s.takeBeat n m v).Sized := setEntry_sized _ _ h
      refine formAlarm_sized ?_
      obtain ⟨-, h'⟩ | ⟨-, h'⟩ := captureOffset_cases n v (s.takeBeat n m v) <;> rw [h']
      · exact htaken
      · exact setEntry_sized _ _ htaken
    | expire n p _ => exact formAlarm_sized (setEntry_sized _ _ h)
    | compose c =>
      obtain ⟨⟨hclock', hscanner', hrecorder', hcracks', hpeers', -, hsettings', -⟩, -⟩ := compose_keeps c s
      exact h.same hclock' hscanner' hrecorder' (congrArg Cracks.sites hcracks') (congrArg PeerTable.entries hpeers') hsettings'
    | control | trip | servo | seq | line | strap | record => exact h

/-! ## The constants in force (R166) -/

theorem settingsLaw_kept : Kept State.StartLaw State.SettingsLaw := by
  refine ⟨fun s _ h => h, fun s _ h => h, fun s _ _ h => Bool.noConfusion h, fun s _ _ h => Bool.noConfusion h, ?_, ?_, ?_⟩
  · intro s image code _ _ _ _ hrun
    rw [failStartUp_eq] at hrun
    contradiction
  · intro s image first _ _ _ hgood _
    rw [startedUp_settings]
    exact ⟨readSettings_headerGood hgood, readSettings_tablesGood hgood⟩
  · intro s t _ h hmove hrun
    rw [hmove.settings]
    exact h (hmove.running.symm.trans hrun)

/-! ## The PROMPT causes of an event (R156) -/

theorem wake_prompt (u : LineUnit) : u.wake.prompt = u.prompt := by
  unfold LineUnit.wake
  split <;> rfl

theorem compose_prompt (c : Cause) (s : State) : (s.compose c).line.prompt = false := by
  unfold State.compose
  split
  · exact wake_prompt _
  · rfl

theorem arrive_promptSpent (message : List Byte) {handOn : State → State} (h : s.PromptSpent)
    (hhand : ∀ u : State, u.PromptSpent → (handOn u).PromptSpent) : (s.arrive message handOn).PromptSpent := by
  unfold State.arrive
  split
  · exact hhand _ h
  · exact h

theorem directive_promptSpent (code : Byte) (d : Directive) (action : State → Decision) (h : s.PromptSpent) :
    (s.directive code d action).PromptSpent := by
  refine arrive_promptSpent _ h fun u hu => ?_
  split
  · exact settle_prompt _
  · exact hu

theorem query_promptSpent (kind : Nat) (q : Query) (content : State → Option (List Byte)) (h : s.PromptSpent) :
    (s.query kind q content).PromptSpent := by
  refine arrive_promptSpent _ h fun u hu => ?_
  split
  · refine (wake_prompt _).trans ?_
    unfold State.countOverrun
    split <;> exact hu
  · exact hu

theorem takeCodes_promptSpent (n : Nat) (codes : List Half) {ended : State → State} (h : s.PromptSpent) (hended : (ended s).PromptSpent) :
    (s.takeCodes n codes ended).PromptSpent := by
  obtain ⟨-, h'⟩ | ⟨-, -, h'⟩ | ⟨-, -, h'⟩ := takeCodes_cases n codes ended s <;> rw [h']
  · exact hended
  · exact h
  · exact h

theorem promptSpent_ite {c : Prop} [Decidable c] {u v : State} (hu : u.PromptSpent) (hv : v.PromptSpent) : (if c then u else v).PromptSpent := by
  split
  · exact hu
  · exact hv

theorem exec_promptSpent {i : Instr} (h : s.PromptSpent) (hexec : exec i s = .next t) : t.PromptSpent := by
  cases i <;> obtain rfl := Host.Outcome.next.inj hexec
  case powerOnReset | resetPinAssert => rfl
  case resetRelease => exact promptSpent_ite h h
  case imageReadComplete => exact promptSpent_ite (settle_prompt _) h
  case servoTick => exact settle_prompt _
  case carrierPeriodStart => exact h
  case cutoffAssert => exact settle_prompt _
  case cutoffRelease => exact h
  case cycleMark => exact promptSpent_ite (compose_prompt _ _) h
  case scanPointFire => exact promptSpent_ite h h
  case recordComplete codes =>
    split
    · exact takeCodes_promptSpent _ _ h h
    · exact h
  case ladderReadComplete codes =>
    split
    · exact takeCodes_promptSpent _ _ h h
    · exact h
  case beatArrival => exact arrive_promptSpent _ h fun u _ => settle_prompt _
  case replyReceived => exact arrive_promptSpent _ h fun u hu => hu
  case receiveDiscard error =>
    cases error with
    | unfinished characters => exact promptSpent_ite h h
    | parity | framing | tooLong | rejected => exact promptSpent_ite h h
  case receiveGapExpiry => exact promptSpent_ite h h
  case peerStale => exact promptSpent_ite (settle_prompt _) h
  case peerLost => exact promptSpent_ite (settle_prompt _) h
  case lockstepRelease => exact promptSpent_ite h h
  case intervalBeat => exact promptSpent_ite (compose_prompt _ _) h
  case run d barrierFirst =>
    split
    · exact directive_promptSpent _ _ _ h
    · exact arrive_promptSpent _ h fun u hu => hu
  case hold | unload | stop | resetTrip | baseline | scale => exact directive_promptSpent _ _ _ h
  case channel | histLo | histHi | crack | segment | counters | peer | queryUnknownKind => exact query_promptSpent _ _ _ h
  case transmitStart =>
    split <;> exact h
  case transmitComplete =>
    split
    · exact (wake_prompt _).trans h
    · exact h
  case collision =>
    split
    · exact promptSpent_ite h h
    · exact h
  case jamEnd =>
    split
    · exact promptSpent_ite ((wake_prompt _).trans h) h
    · exact h
  case backoffEnd =>
    split <;> exact h
  case lineStuck =>
    split <;> exact h
  case lineStuckRelease => exact promptSpent_ite ((wake_prompt _).trans h) h
  case receiveAssemblerReady => exact promptSpent_ite h h
  case directiveUnknownAction => exact arrive_promptSpent _ h fun u hu => hu

/-- Settles O53: the four laws, each kept by every step. -/
theorem everyStepKeepsTheTablesAndStartUp : Obligations.EveryStepKeepsTheTablesAndStartUp := by
  refine ⟨fun s t h hstep => sized_kept.step_alone h hstep, fun s t hstart hquiet hnothing hstep => ?_, fun s t hstart h hstep => ?_,
    fun s t h hstep => ?_⟩
  · obtain ⟨hstart', hquiet', hnothing'⟩ := startUpLaws_kept.step_alone ⟨hstart, hquiet, hnothing⟩ hstep
    exact ⟨hstart', hquiet', hnothing'⟩
  · exact (Kept.step startLaw_kept settingsLaw_kept hstart h hstep).2
  · obtain ⟨-, rfl⟩ | ⟨i, rest, -, hexec⟩ := step_cases hstep
    · exact h
    · exact exec_promptSpent (s := { s with pending := rest }) h hexec

end Sys2Proof.Machine
end

section
/-! O58: the transmitter, the assembler, the held message, the slots and the line state (R146 to R153). -/

namespace Sys2Proof.Machine

variable {s t : State}

/-! ## The combinations -/

/-- What a transmitter at work has of its message, and leaves to the assembler (R146, R150, R151). -/
def Transmitter.Agrees (a : Assembler) (held : Option Held) : Transmitter → Prop
  | .sending .. => a = .waiting ∧ ∃ h, held = some h ∧ h.collisions < 16
  | .jam _ => a = .waiting ∧ ∃ h, held = some h ∧ 1 ≤ h.collisions ∧ h.collisions ≤ 16
  | .backoff _ => ∃ h, held = some h ∧ h.collisions < 16
  | .waitGap => ∀ h, held = some h → h.collisions < 16
  | .idle => True

/-- The law of the line but for the slots that an idle transmitter of an ACTIVE line leaves empty. -/
structure LineUnit.Workable (u : LineUnit) : Prop where
  silent : u.line ≠ .active → u.transmitter = .idle
  deaf : u.line = .off ∨ u.line = .stuck → u.assembler = .off
  taking : ∀ characters, u.assembler = .taking characters →
    1 ≤ characters.length ∧ (3 ≤ characters.length → byteAt characters 2 ≤ 48 ∧ characters.length < 5 + byteAt characters 2)
  holds : u.transmitter = .idle → u.held = none
  waits : u.transmitter = .waitGap → u.held.isSome ∨ u.beatSlot.isSome ∨ u.replySlot.isSome
  agrees : u.transmitter.Agrees u.assembler u.held

/-- The law of the line. -/
structure LineUnit.Lawful (u : LineUnit) : Prop extends LineUnit.Workable u where
  empties : u.line = .active → u.transmitter = .idle → u.beatSlot = none ∧ u.replySlot = none

theorem lineLaw_iff : s.LineLaw ↔ s.line.Lawful := by
  constructor
  · rintro ⟨hsilent, hdeaf, htaking, hholds, hempties, hwaits, hagrees⟩
    exact ⟨⟨hsilent, hdeaf, htaking, hholds, hwaits, hagrees⟩, hempties⟩
  · rintro ⟨⟨hsilent, hdeaf, htaking, hholds, hwaits, hagrees⟩, hempties⟩
    exact ⟨hsilent, hdeaf, htaking, hholds, hempties, hwaits, hagrees⟩

theorem LineUnit.Lawful.same {u v : LineUnit} (h : u.Lawful) (hline : v.line = u.line) (hassembler : v.assembler = u.assembler)
    (htransmitter : v.transmitter = u.transmitter) (hheld : v.held = u.held) (hbeat : v.beatSlot = u.beatSlot)
    (hreply : v.replySlot = u.replySlot) : v.Lawful := by
  obtain ⟨⟨hsilent, hdeaf, htaking, hholds, hwaits, hagrees⟩, hempties⟩ := h
  refine ⟨⟨?_, ?_, ?_, ?_, ?_, ?_⟩, ?_⟩
  · rwa [hline, htransmitter]
  · rwa [hline, hassembler]
  · rwa [hassembler]
  · rwa [htransmitter, hheld]
  · rwa [htransmitter, hheld, hbeat, hreply]
  · rwa [htransmitter, hassembler, hheld]
  · rwa [hline, htransmitter, hbeat, hreply]

/-- R150: an idle transmitter with a slot that waits is woken. -/
theorem LineUnit.Workable.wake {u : LineUnit} (h : u.Workable) : u.wake.Lawful := by
  unfold LineUnit.wake
  split
  next hwake =>
    obtain ⟨hactive, hidle, hslot⟩ := hwake
    rw [Bool.or_eq_true] at hslot
    have hheld := h.holds hidle
    refine ⟨⟨fun hline => absurd hactive hline, h.deaf, h.taking, fun hgap => by simp at hgap, fun _ => .inr hslot, fun m hm => ?_⟩,
      fun _ hgap => by simp at hgap⟩
    rw [hheld] at hm
    contradiction
  next hsleep =>
    refine ⟨h, fun hactive hidle => ?_⟩
    have hslots := fun hslot => hsleep ⟨hactive, hidle, hslot⟩
    simpa using hslots

/-- The assembler is at work on nothing while the transmitter drives the line. -/
theorem LineUnit.Workable.agrees_of_not_waiting {u : LineUnit} (h : u.Workable) (hassembler : u.assembler ≠ .waiting) (a : Assembler) :
    u.transmitter.Agrees a u.held := by
  have hagrees := h.agrees
  cases htransmitter : u.transmitter with
  | sending | jam =>
    rw [htransmitter] at hagrees
    exact absurd hagrees.1 hassembler
  | idle | waitGap | backoff =>
    rw [htransmitter] at hagrees
    exact hagrees

theorem agrees_of_quiet {a b : Assembler} {held : Option Held} {x : Transmitter} (hquiet : x.drives = false) (h : x.Agrees a held) :
    x.Agrees b held := by
  cases x with
  | sending | jam => contradiction
  | idle | waitGap | backoff => exact h

theorem active_of_busy {u : LineUnit} (h : u.Workable) (hbusy : u.transmitter ≠ .idle) : u.line = .active :=
  by_contra fun hline => hbusy (h.silent hline)

/-- R150, R152: a transmitter without a held message. -/
theorem LineUnit.Lawful.letGo {u : LineUnit} (h : u.Lawful) : u.letGo.Lawful :=
  LineUnit.Workable.wake ⟨fun _ => rfl, h.deaf, h.taking, fun _ => rfl, fun hgap => by simp at hgap, trivial⟩

theorem nextHeld_collisions {u : LineUnit} (h : u.Lawful) (hgap : u.transmitter = .waitGap) {held : Held} (hnext : u.nextHeld = some held) :
    held.collisions < 16 := by
  have hagrees := h.agrees
  rw [hgap] at hagrees
  unfold LineUnit.nextHeld at hnext
  split at hnext <;> cases hnext
  · exact Nat.zero_lt_succ 15
  · exact hagrees _ ‹_›
  · exact Nat.zero_lt_succ 15
  · exact Nat.zero_lt_succ 15

theorem assembles_spec {u : LineUnit} (h : u.assembles = true) :
    (u.line = .active ∨ u.line = .listenOnly) ∧ u.assembler ≠ .waiting ∧ u.assembler ≠ .off := by
  unfold LineUnit.assembles at h
  simp only [Bool.and_eq_true, Bool.or_eq_true, decide_eq_true_eq] at h
  obtain ⟨hline, hassembler⟩ := h
  refine ⟨hline, ?_, ?_⟩ <;> intro h <;> rw [h] at hassembler <;> simp [Assembler.characters] at hassembler

theorem receives_spec {u : LineUnit} {message : List Byte} (h : u.receives message = true) :
    (u.line = .active ∨ u.line = .listenOnly) ∧ u.assembler ≠ .waiting ∧ u.assembler ≠ .off := by
  unfold LineUnit.receives at h
  simp only [Bool.and_eq_true, Bool.or_eq_true, decide_eq_true_eq] at h
  obtain ⟨hline, hassembler⟩ := h
  refine ⟨hline, ?_, ?_⟩ <;> intro h <;> rw [h] at hassembler <;> simp [Assembler.accepts] at hassembler

/-- The assembler of a line that is on may come to another state, while the transmitter drives nothing. -/
theorem LineUnit.Lawful.assemble {u : LineUnit} (h : u.Lawful) {a : Assembler} (hline : ¬(u.line = .off ∨ u.line = .stuck))
    (hagrees : u.transmitter.Agrees a u.held)
    (htaking : ∀ characters, a = .taking characters →
      1 ≤ characters.length ∧ (3 ≤ characters.length → byteAt characters 2 ≤ 48 ∧ characters.length < 5 + byteAt characters 2)) :
    LineUnit.Lawful { u with assembler := a } :=
  ⟨⟨h.silent, fun hoff => absurd hoff hline, htaking, h.holds, h.waits, hagrees⟩, h.empties⟩

theorem on_of_active {l : LineState} (h : l = .active ∨ l = .listenOnly) : ¬(l = .off ∨ l = .stuck) := by
  obtain rfl | rfl := h <;> simp

/-- What the line unit does to itself keeps the law. -/
theorem State.LineMove.lawful {v : LineUnit} (hmove : s.LineMove v) (h : s.line.Lawful) : v.Lawful := by
  have hquiet {characters : List Byte} {a : Assembler} (ha : a = .ready ∨ a = .waiting ∨ a = .off) (heq : a = .taking characters) : False := by
    obtain rfl | rfl | rfl := ha <;> contradiction
  cases hmove with
  | cause | overrun | seeEpoch => exact h.same rfl rfl rfl rfl rfl rfl
  | receive message hreceives =>
    obtain ⟨hline, hassembler, -⟩ := receives_spec hreceives
    exact h.assemble (on_of_active hline) (h.agrees_of_not_waiting hassembler _) fun _ heq => (hquiet (.inl rfl) heq).elim
  | silence =>
    exact ⟨⟨fun _ => rfl, fun hoff => by simp at hoff, h.taking, fun _ => rfl, fun hgap => by simp at hgap, trivial⟩,
      fun hactive => by simp at hactive⟩
  | reply r =>
    exact LineUnit.Workable.wake ⟨h.silent, h.deaf, h.taking, h.holds, fun _ => .inr (.inr rfl), h.agrees⟩
  | take characters hassembles hmore =>
    obtain ⟨hline, hassembler, -⟩ := assembles_spec hassembles
    refine h.assemble (on_of_active hline) (h.agrees_of_not_waiting hassembler _) fun taken heq => ?_
    rw [← Assembler.taking.inj heq]
    exact (expectsMore_iff _).mp hmore
  | discard hassembles =>
    obtain ⟨hline, hassembler, -⟩ := assembles_spec hassembles
    have hwaiting := h.assemble (a := .waiting) (on_of_active hline) (h.agrees_of_not_waiting hassembler _)
      fun _ heq => (hquiet (.inr (.inl rfl)) heq).elim
    exact hwaiting.same rfl rfl rfl rfl rfl rfl
  | send held hline hgap hheld =>
    exact ⟨⟨fun hactive => absurd hline hactive, fun hoff => absurd hoff (on_of_active (.inl hline)),
      fun _ heq => (hquiet (.inr (.inl rfl)) heq).elim, fun hidle => by simp [State.beginSending] at hidle,
      fun hgap => by simp [State.beginSending] at hgap, rfl, held, rfl, nextHeld_collisions h hgap hheld⟩,
      fun _ hidle => by simp [State.beginSending] at hidle⟩
  | sent wire left hsending => exact h.letGo
  | collide wire left hsending =>
    have hagrees := h.agrees
    rw [hsending] at hagrees
    obtain ⟨hassembler, held, hheld, hcollisions⟩ := hagrees
    have hactive := active_of_busy h.toWorkable (by simp [hsending])
    refine ⟨⟨fun hline => absurd hactive hline, h.deaf, h.taking, fun hidle => by simp at hidle, fun hgap => by simp at hgap, hassembler,
      held.collide, ?_, ?_, ?_⟩, fun _ hidle => by simp at hidle⟩
    · simp [hheld]
    · simp [Held.collide]
    · simp only [Held.collide]
      omega
  | abandon left hjam =>
    have hcounted := h.same (v := { s.line with abandons := satAdd 255 s.line.abandons 1 }) rfl rfl rfl rfl rfl rfl
    exact hcounted.letGo
  | backOff left us hjam hlimit =>
    have hagrees := h.agrees
    rw [hjam] at hagrees
    obtain ⟨-, held, hheld, -⟩ := hagrees
    have hactive := active_of_busy h.toWorkable (by simp [hjam])
    refine ⟨⟨fun hline => absurd hactive hline, h.deaf, h.taking, fun hidle => by simp at hidle, fun hgap => by simp at hgap, held, hheld,
      ?_⟩, fun _ hidle => by simp at hidle⟩
    simpa [LineUnit.collisions, hheld, Config.collisionLimit] using hlimit
  | awaitGap left hbackoff =>
    have hagrees := h.agrees
    rw [hbackoff] at hagrees
    obtain ⟨held, hheld, hcollisions⟩ := hagrees
    have hactive := active_of_busy h.toWorkable (by simp [hbackoff])
    refine ⟨⟨fun hline => absurd hactive hline, h.deaf, h.taking, fun hidle => by simp at hidle, fun _ => .inl (by simp [hheld]),
      fun m hm => ?_⟩, fun _ hidle => by simp at hidle⟩
    rw [hheld] at hm
    rwa [← Option.some.inj hm]
  | stick =>
    exact ⟨⟨fun _ => rfl, fun _ => rfl, fun _ heq => (hquiet (.inr (.inr rfl)) heq).elim, fun _ => rfl, fun hgap => by simp at hgap, trivial⟩,
      fun hactive => by simp at hactive⟩
  | unstick hstuck =>
    have hidle := h.silent (by simp [hstuck])
    have hon : ¬(s.line.afterStuck = .off ∨ s.line.afterStuck = .stuck) := by
      unfold LineUnit.afterStuck
      split <;> simp
    refine LineUnit.Workable.wake ⟨fun _ => hidle, fun hoff => absurd hoff hon, fun _ heq => (hquiet (.inl rfl) heq).elim, h.holds, h.waits, ?_⟩
    show s.line.transmitter.Agrees _ _
    rw [hidle]
    trivial
  | ready hwaiting hdrives =>
    refine h.assemble (fun hoff => ?_) (agrees_of_quiet hdrives h.agrees) fun _ heq => (hquiet (.inl rfl) heq).elim
    rw [h.deaf hoff] at hwaiting
    contradiction

/-! ## The law in every step -/

theorem Transmitter.advance_agrees {a : Assembler} {held : Option Held} {x : Transmitter} (h : x.Agrees a held) : x.advance.Agrees a held := by
  cases x <;> exact h

theorem Transmitter.advance_idle {x : Transmitter} : x.advance = .idle ↔ x = .idle := by cases x <;> simp [Transmitter.advance]

theorem Transmitter.advance_waitGap {x : Transmitter} : x.advance = .waitGap ↔ x = .waitGap := by cases x <;> simp [Transmitter.advance]

theorem advance_lawful {u : LineUnit} (h : u.Lawful) : u.advance.Lawful :=
  ⟨⟨fun hline => Transmitter.advance_idle.mpr (h.silent hline), h.deaf, h.taking, fun hidle => h.holds (Transmitter.advance_idle.mp hidle),
    fun hgap => h.waits (Transmitter.advance_waitGap.mp hgap), Transmitter.advance_agrees h.agrees⟩,
    fun hactive hidle => h.empties hactive (Transmitter.advance_idle.mp hidle)⟩

/-- R148: the line as start-up leaves it. -/
theorem open_lawful (bitUs : Nat) (h : s.StartQuiet) (hstart : s.control.mode = .start) : (s.line.open bitUs).Lawful := by
  obtain ⟨-, -, -, hheld, hbeat, hreply, -⟩ := h hstart
  exact ⟨⟨fun _ => rfl, fun hoff => by simp [LineUnit.open] at hoff, fun _ heq => by simp [LineUnit.open] at heq, fun _ => hheld,
    fun hgap => by simp [LineUnit.open] at hgap, trivial⟩, fun _ _ => ⟨hbeat, hreply⟩⟩

theorem reset_lawful : LineUnit.reset.Lawful :=
  ⟨⟨fun _ => rfl, fun _ => rfl, fun _ heq => by simp [LineUnit.reset] at heq, fun _ => rfl, fun hgap => by simp [LineUnit.reset] at hgap,
    trivial⟩, fun hactive => by simp [LineUnit.reset] at hactive⟩

theorem LineUnit.Lawful.cause {u : LineUnit} (h : u.Lawful) (b : Bool) : LineUnit.Lawful { u with prompt := b } :=
  h.same rfl rfl rfl rfl rfl rfl

theorem changeMode_lawful (m : Mode) (h : s.line.Lawful) : (s.changeMode m).line.Lawful := by
  obtain h' | ⟨-, -, h'⟩ := changeMode_cases m s <;> rw [h'] <;> exact h.cause true

theorem formAlarm_lawful (h : s.line.Lawful) : s.formAlarm.line.Lawful :=
  formAlarm_keeps_law (P := fun u => u.line.Lawful) h (fun _ => h) fun _ m hu _ => changeMode_lawful m hu

theorem putCracks_lawful (k : Cracks) (h : s.line.Lawful) : (s.putCracks k).line.Lawful := by
  obtain ⟨-, h'⟩ | ⟨-, h'⟩ := putCracks_cases k s <;> rw [h']
  · exact h
  · exact formAlarm_lawful (h.cause true)

theorem compose_lawful (c : Cause) (h : s.line.Lawful) : (s.compose c).line.Lawful := by
  unfold State.compose
  split
  · exact LineUnit.Workable.wake ⟨h.silent, h.deaf, h.taking, h.holds, fun _ => .inr (.inl rfl), h.agrees⟩
  · exact h.cause false

theorem lineLaw_kept : Kept (fun s => s.StartLaw ∧ s.StartQuiet) fun s => s.line.Lawful := by
  refine ⟨fun s _ h => h, fun s _ h => advance_lawful h, fun s _ _ => reset_lawful, fun s _ _ => reset_lawful, ?_, ?_, ?_⟩
  · intro s image code ⟨hstart, hquiet⟩ _ hreading _
    rw [failStartUp_eq]
    exact (open_lawful _ hquiet (hstart.start_of_reading hreading)).cause true
  · intro s image first ⟨hstart, hquiet⟩ _ hreading _
    obtain ⟨-, -, -, -, hline, -⟩ := readied_spec (imageOf image) first s
    rw [startedUp_eq, State.enterMode_line]
    refine (putCracks_lawful _ ?_).cause true
    rw [hline]
    exact open_lawful _ hquiet (hstart.start_of_reading hreading)
  · intro s t _ h hmove
    cases hmove with
    | change m _ => exact changeMode_lawful m h
    | trip | record => exact h.same rfl rfl rfl rfl rfl rfl
    | line v hv => exact hv.lawful h
    | judge sig _ => exact putCracks_lawful _ h
    | hear n m v _ =>
      refine formAlarm_lawful ?_
      obtain ⟨-, h'⟩ | ⟨-, h'⟩ := captureOffset_cases n v (s.takeBeat n m v) <;> rw [h'] <;> exact h
    | expire => exact formAlarm_lawful h
    | compose c => exact compose_lawful c h
    | control | servo | seq | scanner | recorder | cracks | clock | strap => exact h

/-- Settles O58: the law of the line is kept by every step, on the law of START and its quiet. -/
theorem everyStepKeepsTheLineLaw : Obligations.EveryStepKeepsTheLineLaw := by
  intro s t hstart hquiet hline hstep
  exact lineLaw_iff.mpr (Kept.step (startLaw_kept.and startQuiet_kept) lineLaw_kept ⟨hstart, hquiet⟩ (lineLaw_iff.mp hline) hstep).2

end Sys2Proof.Machine
end

section
/-! O25 and O28: the bins and the missed count (R89), the applied period (R51, R55), and the confirmed sites (R95). What a change does to
the blocks that hold records is said once (`State.Move.records`). -/

namespace Sys2Proof.Machine

variable {s t : State}

/-! ## The blocks that hold records -/

/-- What the crack monitor's records come to: a change away from an evaluation, or an evaluation. -/
def State.SitesMove (s : State) (k : Cracks) : Prop := s.CracksMove k ∨ ∃ sig, k = s.cracks.evaluate s.settings.sites sig

/-- Of the clock, the scanner, the recorder and the crack monitor, a change moves each by its own work alone. -/
structure State.RecordsMove (s t : State) : Prop where
  clock : t.clock = s.clock ∨ t.clock = s.clockMark.clock
  scanner : t.scanner = s.scanner ∨ s.ScannerMove t.scanner
  recorder : t.recorder = s.recorder ∨ s.RecorderMove t.recorder
  sites : t.cracks = s.cracks ∨ s.SitesMove t.cracks

theorem State.RecordsMove.of_same (hclock : t.clock = s.clock) (hscanner : t.scanner = s.scanner) (hrecorder : t.recorder = s.recorder)
    (hcracks : t.cracks = s.cracks) : s.RecordsMove t := ⟨.inl hclock, .inl hscanner, .inl hrecorder, .inl hcracks⟩

theorem State.RecordsKept.records (h : s.RecordsKept t) : s.RecordsMove t := by
  obtain ⟨hclock, hscanner, hrecorder, hcracks, -⟩ := h
  exact .of_same hclock hscanner hrecorder hcracks

theorem formAlarm_records (s : State) : s.RecordsMove s.formAlarm := by
  obtain ⟨hclock, hscanner, hrecorder, hcracks, -⟩ := formAlarm_keeps s
  exact .of_same hclock hscanner hrecorder hcracks

theorem State.Move.records (h : s.Move t) : s.RecordsMove t := by
  cases h with
  | change m _ =>
    obtain h | ⟨-, -, h⟩ := changeMode_cases m s <;> rw [h] <;> exact .of_same rfl rfl rfl rfl
  | scanner z hz => exact ⟨.inl rfl, .inr hz, .inl rfl, .inl rfl⟩
  | recorder r hr => exact ⟨.inl rfl, .inl rfl, .inr hr, .inl rfl⟩
  | cracks k hk => exact ⟨.inl rfl, .inl rfl, .inl rfl, .inr (.inl hk)⟩
  | clock => exact ⟨.inr rfl, .inl rfl, .inl rfl, .inl rfl⟩
  | judge sig _ =>
    obtain ⟨hclock, hscanner, hrecorder, -⟩ := putCracks_frame (s.cracks.evaluate s.settings.sites sig) s
    exact ⟨.inl hclock, .inl hscanner, .inl hrecorder, .inr (.inr ⟨sig, putCracks_cracks _ s⟩)⟩
  | hear n m v _ =>
    obtain ⟨hclock, hscanner, hrecorder, hcracks, -⟩ := formAlarm_keeps ((s.takeBeat n m v).captureOffset n v)
    have hframe : s.RecordsMove ((s.takeBeat n m v).captureOffset n v).formAlarm := by
      obtain ⟨-, h⟩ | ⟨-, h⟩ := captureOffset_cases n v (s.takeBeat n m v) <;> rw [h] at hclock hscanner hrecorder hcracks ⊢ <;>
        exact .of_same hclock hscanner hrecorder hcracks
    exact hframe
  | expire n p _ =>
    obtain ⟨hclock, hscanner, hrecorder, hcracks, -⟩ := formAlarm_keeps (s.expire n p)
    exact .of_same hclock hscanner hrecorder hcracks
  | compose c => exact State.RecordsKept.records (compose_keeps c s).1
  | control | trip | servo | seq | line | strap | record => exact .of_same rfl rfl rfl rfl

theorem retain_of_tag {tag : Half × Half} (h : s.startUp.tag = some tag) : s.retain tag = s := if_pos h

/-! ## The applied period (R51, R55) -/

theorem newCycle_period (points : List ScanPoint) (window now period : Nat) (offsets : List Int) (c : Clock) :
    period - period / 64 ≤ (c.newCycle points window now period offsets).applied
      ∧ (c.newCycle points window now period offsets).applied ≤ period + period / 64 := by
  obtain ⟨hlow, hhigh⟩ := trimOf_mem period offsets
  simp only [Clock.newCycle]
  omega

theorem State.PeriodLaw.same (h : s.PeriodLaw) (hnominal : t.clock.nominal = s.clock.nominal) (happlied : t.clock.applied = s.clock.applied) :
    t.PeriodLaw := by
  unfold State.PeriodLaw
  rwa [hnominal, happlied]

theorem periodLaw_kept : Kept (fun _ => True) State.PeriodLaw := by
  refine ⟨fun s _ h => h, fun s _ h => ?_, fun s _ _ => ⟨Nat.sub_le 0 _, Nat.zero_le _⟩, fun s _ _ => ⟨Nat.sub_le 0 _, Nat.zero_le _⟩,
    fun s image code _ h _ _ => ?_, fun s image first _ _ _ _ => ?_, fun s t _ h hmove => ?_⟩
  · have hadvance : s.advance.clock.nominal = s.clock.nominal ∧ s.advance.clock.applied = s.clock.applied := by
      unfold State.advance Clock.advance
      dsimp only
      repeat' split
      all_goals exact ⟨rfl, rfl⟩
    exact h.same hadvance.1 hadvance.2
  · rw [failStartUp_eq]
    exact h
  · obtain ⟨hclock, -⟩ := startedUp_tables (imageOf image) first s
    unfold State.PeriodLaw
    rw [hclock]
    exact ⟨Nat.sub_le _ _, Nat.le_add_right _ _⟩
  · obtain hclock | hclock := hmove.records.clock
    · exact h.same (by rw [hclock]) (by rw [hclock])
    · unfold State.PeriodLaw
      rw [hclock]
      exact newCycle_period _ _ _ _ _ s.clock

/-! ## The bins and the missed count (R89) -/

theorem State.CycleLaw.same (h : s.CycleLaw) (hsettings : t.settings = s.settings) (hrecorder : t.recorder = s.recorder) : t.CycleLaw := by
  unfold State.CycleLaw
  rwa [hsettings, hrecorder]

theorem cycleLaw_of_cleared (h : s.recorder = Recorder.cleared) : s.CycleLaw := by
  intro k c r _ hr _ _ _ _
  rw [h] at hr ⊢
  rw [List.eq_of_mem_replicate (List.mem_of_getElem? hr)]
  simp [Channel.cleared, Recorder.cleared]

/-- R66: with no constants taken no channel is enabled. -/
theorem cycleLaw_of_none (h : s.settings = Settings.none) : s.CycleLaw := by
  intro k c r hc _ henabled _ _ _
  rw [h] at hc
  rw [List.eq_of_mem_replicate (List.mem_of_getElem? hc)] at henabled
  contradiction

/-- R85, R88, R89: the close of an enabled channel adds one to one of its bins or to its missed count, as long as none is full. -/
theorem close_sum {c : ChannelConst} {r : Channel} (henabled : c.enabled = true) (hlength : r.bins.length = 16)
    (hmissed : (r.close c).missed < 4294967295) (hbins : ∀ b ∈ (r.close c).bins, b < 4294967295) :
    r.missed < 4294967295 ∧ (∀ b ∈ r.bins, b < 4294967295) ∧ (r.close c).bins.sum + (r.close c).missed = r.bins.sum + r.missed + 1 := by
  by_cases hs : 1 ≤ r.samples
  · have hmissed' : (r.close c).missed = r.missed := by rw [close_of_sampled henabled hs]; rfl
    rw [hmissed'] at hmissed ⊢
    rw [close_bins_of_sampled henabled hs] at hbins ⊢
    have hbin := binOf_le c.binWidth r.range
    have hold : ∀ b ∈ r.bins, b < 4294967295 := by
      intro b hb
      obtain ⟨i, hi⟩ := List.mem_iff_getElem?.mp hb
      have hnew := hbins _ (List.mem_of_getElem? (getElem?_modify_satAdd 4294967295 (binOf c.binWidth r.range) hi))
      split at hnew <;> omega
    refine ⟨hmissed, hold, ?_⟩
    rw [modify_satAdd_sum _ _ (by omega) hold]
    omega
  · rw [close_of_missed henabled hs] at hmissed hbins ⊢
    refine ⟨by dsimp only at hmissed; omega, hbins, ?_⟩
    dsimp only at hmissed ⊢
    omega

/-- R83 to R89: what the recorder does to itself keeps the law of its counters. -/
theorem State.RecorderMove.cycleLaw {r : Recorder} (hmove : s.RecorderMove r) (hsized : s.Sized) (h : s.CycleLaw)
    (hsettings : t.settings = s.settings) (hrecorder : t.recorder = r) : t.CycleLaw := by
  intro k c x hc hx henabled htotal hmissed hbins
  rw [hsettings] at hc
  rw [hrecorder] at hx htotal ⊢
  cases hmove with
  | take channel code =>
    unfold Recorder.take at hx htotal ⊢
    dsimp only at hx htotal ⊢
    split at hx
    next hopen =>
      rw [if_pos hopen] at htotal ⊢
      rw [List.getElem?_modify, Option.map_eq_map, Option.map_eq_some_iff] at hx
      obtain ⟨y, hy, rfl⟩ := hx
      have hframe (x : Int) : (if channel = k then y.credit x else y).bins = y.bins
          ∧ (if channel = k then y.credit x else y).missed = y.missed := by split <;> exact ⟨rfl, rfl⟩
      obtain ⟨hbins', hmissed'⟩ := hframe (strainOf (s.settings.channels.getD channel ChannelConst.unused) code)
      rw [hbins'] at hbins ⊢
      rw [hmissed'] at hmissed ⊢
      exact h k c y hc hy henabled htotal hmissed hbins
    next hclosed =>
      rw [if_neg hclosed] at htotal ⊢
      exact h k c x hc hx henabled htotal hmissed hbins
  | close =>
    rw [Recorder.mark, List.getElem?_zipWith, hc] at hx
    obtain ⟨-, ⟨-, hlengths⟩, -⟩ := (sized_iff.mp hsized).2
    cases hy : s.recorder.channels[k]? with
    | none => rw [hy] at hx; contradiction
    | some y =>
      rw [hy] at hx
      obtain rfl := Option.some.inj hx
      obtain ⟨hmissed', hbins', hsum⟩ := close_sum henabled (hlengths y (List.mem_of_getElem? hy)) hmissed hbins
      have hnext := nextTotal_eq_min s.recorder
      change s.recorder.nextTotal < 4294967295 at htotal
      show _ = s.recorder.nextTotal
      have hold := h k c y hc hy henabled (by omega) hmissed' hbins'
      omega
  | steady => exact h k c x hc hx henabled htotal hmissed hbins

theorem State.Works.cycleLaw (hworks : s.Works t) (hsized : s.Sized) (h : s.CycleLaw) : t.CycleLaw := by
  refine (hworks.induction (P := fun u => u.Sized ∧ u.CycleLaw) (fun u v hu hmove => ⟨sized_kept.move u v trivial hu.1 hmove, ?_⟩)
    ⟨hsized, h⟩).2
  obtain hrecorder | hrecorder := hmove.records.recorder
  · exact hu.2.same hmove.settings hrecorder
  · exact hrecorder.cycleLaw hu.1 hu.2 hmove.settings rfl

/-- Settles O25: the counters by the step's cases, since the records may stand under another table; the applied period as a law. -/
theorem everyStepKeepsTheCycleLaw : Obligations.EveryStepKeepsTheCycleLaw := by
  refine ⟨fun s t hsized h hstep htag => ?_, fun s t h hstep => periodLaw_kept.step_alone h hstep⟩
  obtain ⟨-, rfl⟩ | ⟨i, rest, hpending, hexec⟩ := step_cases hstep
  · exact h
  have hsized' : State.Sized { s with pending := rest } := hsized
  have h' : State.CycleLaw { s with pending := rest } := h
  obtain ⟨-, rfl⟩ | ⟨-, rfl⟩ | ⟨image, p, rfl, hreading, ⟨code, hfault, hw⟩ | ⟨hgood, hw⟩⟩ | hw := exec_cases hexec
  · exact cycleLaw_of_none rfl
  · exact cycleLaw_of_none rfl
  · refine hw.cycleLaw (sized_kept.fail _ image code trivial hsized' hreading hfault) ?_
    rw [failStartUp_eq]
    exact h'
  · refine hw.cycleLaw (sized_kept.start _ image p trivial hsized' hreading hgood) (cycleLaw_of_cleared ?_)
    obtain ⟨-, -, hrecorder, -⟩ := startedUp_tables (imageOf image) p { s with pending := rest }
    rw [hrecorder]
    obtain ⟨htag', -⟩ | ⟨-, hcleared⟩ := retain_cases (tagOf (imageOf image)) { s with pending := rest }
    · exact absurd htag' (htag image p rest hpending)
    · rw [hcleared]
  · exact hw.cycleLaw hsized' h'

/-! ## Confirmed sites (R95) -/

/-- A site stands CONFIRMED or CRITICAL, and CRITICAL where `r` is. -/
def Site.StaysConfirmed (r v : Site) : Prop :=
  (v.state = .confirmed ∨ v.state = .critical) ∧ (r.state = .critical → v.state = .critical)

theorem Site.StaysConfirmed.of_state {r v w : Site} (h : r.StaysConfirmed v) (hstate : w.state = v.state) : r.StaysConfirmed w := by
  unfold Site.StaysConfirmed
  rwa [hstate]

/-- R98, R103, R108: an evaluation leaves a CONFIRMED site CONFIRMED or CRITICAL, and a CRITICAL one CRITICAL. -/
theorem evaluateActive_staysConfirmed {r v : Site} (c : SiteConst) (sig : RangesClosed) (h : r.StaysConfirmed v) :
    r.StaysConfirmed (v.evaluateActive c sig).1 := by
  unfold Site.evaluateActive
  split
  · obtain ⟨hstate, hcritical⟩ := h
    unfold Site.evaluate
    dsimp only
    generalize conditionOf c sig.total v = cond
    have hcaptured : ((v.takeBaseline cond).capture c sig).state = v.state :=
      (capture_state c sig _).trans (takeBaseline_state cond v)
    generalize (v.takeBaseline cond).capture c sig = w at hcaptured
    have hjudge : w.judge c sig.total cond (w.ladderEvidence cond) (w.strainEvidence c sig) = w.judgeConfirmed c cond := by
      unfold Site.judge
      rw [hcaptured]
      obtain h | h := hstate <;> rw [h]
    rw [← hcaptured] at hstate hcritical
    obtain ⟨hstate', hcritical'⟩ := judgeConfirmed_state c cond w hstate
    rw [hjudge]
    exact ⟨hstate', fun hr => hcritical' (hcritical hr)⟩
  · exact h

/-- The site at place `k` stands CONFIRMED or CRITICAL, and CRITICAL where `r` is. -/
def State.HoldsConfirmed (k : Nat) (r : Site) (s : State) : Prop := ∃ v, s.cracks.sites[k]? = some v ∧ r.StaysConfirmed v

theorem State.SitesMove.holdsConfirmed {k : Nat} {r : Site} {m : Cracks} (hmove : s.SitesMove m) (hsized : s.Sized)
    (h : s.HoldsConfirmed k r) : ∃ v, m.sites[k]? = some v ∧ r.StaysConfirmed v := by
  obtain ⟨v, hv, hstays⟩ := h
  obtain ⟨-, -, -, hlength, -, -, -, -, -, hconsts⟩ := sized_iff.mp hsized
  obtain ⟨hk, -⟩ := List.getElem?_eq_some_iff.mp hv
  have hc : s.settings.sites[k]? = some (s.settings.sites[k]) := List.getElem?_eq_getElem (by omega)
  obtain hmove | ⟨sig, rfl⟩ := hmove
  · cases hmove with
    | rebase =>
      refine ⟨v.rebase s.settings.sites[k], ?_, hstays.of_state (rebase_state _ v).1⟩
      simp [Cracks.rebase, List.getElem?_zipWith, hc, hv]
    | handOff i reading =>
      refine ⟨if i = k then v.handOff reading s.recorder.total else v, by simp [List.getElem?_modify, hv], ?_⟩
      split
      · exact hstays.of_state rfl
      · exact hstays
  · exact ⟨_, Cracks.evaluate_getElem? _ sig _ hc hv, evaluateActive_staysConfirmed _ sig hstays⟩

theorem State.Works.holdsConfirmed {k : Nat} {r : Site} (hworks : s.Works t) (hsized : s.Sized) (h : s.HoldsConfirmed k r) :
    t.HoldsConfirmed k r := by
  refine (hworks.induction (P := fun u => u.Sized ∧ u.HoldsConfirmed k r)
    (fun u v hu hmove => ⟨sized_kept.move u v trivial hu.1 hmove, ?_⟩) ⟨hsized, h⟩).2
  obtain hcracks | hcracks := hmove.records.sites
  · unfold State.HoldsConfirmed
    rw [hcracks]
    exact hu.2
  · exact hcracks.holdsConfirmed hu.1 hu.2

/-- Settles O28: each way in which a step changes the site records, a clear of the retained records left out. -/
theorem confirmedSitesStayConfirmed : Obligations.ConfirmedSitesStayConfirmed := by
  intro s t k r hsized hr hstate hstep hpower htag
  suffices h : t.HoldsConfirmed k r by
    obtain ⟨v, hv, hconfirmed, hcritical⟩ := h
    exact ⟨v, hv, hconfirmed, hcritical⟩
  have h : s.HoldsConfirmed k r := ⟨r, hr, hstate, fun h => h⟩
  obtain ⟨-, rfl⟩ | ⟨i, rest, hpending, hexec⟩ := step_cases hstep
  · exact h
  have hsized' : State.Sized { s with pending := rest } := hsized
  have h' : State.HoldsConfirmed k r { s with pending := rest } := h
  obtain ⟨rfl, -⟩ | ⟨-, rfl⟩ | ⟨image, p, rfl, hreading, ⟨code, hfault, hw⟩ | ⟨hgood, hw⟩⟩ | hw := exec_cases hexec
  · exact absurd hpending (hpower rest)
  · exact h
  · refine hw.holdsConfirmed (sized_kept.fail _ image code trivial hsized' hreading hfault) ?_
    rw [failStartUp_eq]
    exact h'
  · refine hw.holdsConfirmed (sized_kept.start _ image p trivial hsized' hreading hgood) ?_
    obtain ⟨-, -, -, hsites, -⟩ := startedUp_tables (imageOf image) p { s with pending := rest }
    unfold State.HoldsConfirmed
    rw [hsites, retain_of_tag (s := { s with pending := rest }) (htag image p rest hpending)]
    exact h'
  · exact hw.holdsConfirmed hsized' h'

end Sys2Proof.Machine
end

section
/-! O32: the requests of the scan points, the idle converter and the accumulator (R65, R69, R71). -/

namespace Sys2Proof.Machine

variable {s t : State}

/-- The law of the scanner. -/
structure Scanner.Lawful (z : Scanner) : Prop where
  serves : ∀ k, z.serves k = true → (z.request k).waits = false
  idle : z.converter = .idle → (∀ x ∈ z.chains, x.waits = false) ∧ ∀ x ∈ z.ladders, x = false
  low : -32768 * (z.converter.sample : Int) ≤ z.accumulator
  high : z.accumulator ≤ 32767 * (z.converter.sample : Int)

theorem scannerLaw_iff : s.ScannerLaw ↔ s.scanner.Lawful :=
  ⟨fun ⟨hserves, hidle, hlow, hhigh⟩ => ⟨hserves, hidle, hlow, hhigh⟩, fun ⟨hserves, hidle, hlow, hhigh⟩ => ⟨hserves, hidle, hlow, hhigh⟩⟩

/-! ## Requests -/

theorem serves_iff {z : Scanner} {k : Nat} : z.serves k = true ↔ ∃ r n us carried, z.converter = .chain k r n us carried := by
  unfold Scanner.serves
  cases h : z.converter with
  | chain p r n us carried =>
    simp only [decide_eq_true_eq, Converter.chain.injEq]
    exact ⟨fun hp => ⟨r, n, us, carried, hp, rfl, rfl, rfl, rfl⟩, fun ⟨_, _, _, _, hp, _⟩ => hp⟩
  | idle | ladder => simp

/-- The request of a point as its place in the table is written. -/
theorem getD_set_waits (l : List ChainRequest) (k j : Nat) (x : ChainRequest) :
    ((l.set k x).getD j .none).waits = true → (j = k ∧ x.waits = true) ∨ (j ≠ k ∧ (l.getD j .none).waits = true) := by
  rw [List.getD_eq_getElem?_getD, List.getD_eq_getElem?_getD, List.getElem?_set]
  by_cases hk : k = j
  · subst hk
    by_cases hlt : k < l.length <;> simp [hlt, ChainRequest.waits]
  · simp [hk, Ne.symm hk]

theorem not_waits_set_none (l : List ChainRequest) (k : Nat) : ((l.set k .none).getD k .none).waits = false := by
  rw [← Bool.not_eq_true]
  intro h
  obtain ⟨-, h⟩ | ⟨h, -⟩ := getD_set_waits l k k .none h
  · contradiction
  · exact h rfl

theorem accumulator_of_idle {z : Scanner} (h : z.Lawful) (hidle : z.converter = .idle) : z.accumulator = 0 := by
  have hlow := h.low
  have hhigh := h.high
  rw [hidle] at hlow hhigh
  simp only [Converter.sample] at hlow hhigh
  omega

/-- R73: a chain begins on an accumulator that holds nothing. -/
theorem beginChain_lawful (c : Settings) (k : Nat) {z : Scanner} (hsum : z.accumulator = 0) : (z.beginChain c k).Lawful := by
  refine ⟨fun j hj => ?_, fun hidle => by simp [Scanner.beginChain] at hidle, ?_, ?_⟩
  · obtain ⟨r, n, us, carried, hconverter⟩ := serves_iff.mp hj
    obtain rfl : k = j := by
      simp only [Scanner.beginChain, Converter.chain.injEq] at hconverter
      exact hconverter.1
    exact not_waits_set_none z.chains k
  · show -32768 * ((0 : Nat) : Int) ≤ z.accumulator
    omega
  · show z.accumulator ≤ 32767 * ((0 : Nat) : Int)
    omega

/-- R77: a ladder read begins on an accumulator that holds nothing. -/
theorem beginLadder_lawful (c : Settings) (i : Nat) {z : Scanner} (hsum : z.accumulator = 0) : (z.beginLadder c i).Lawful := by
  refine ⟨fun j hj => ?_, fun hidle => by simp [Scanner.beginLadder] at hidle, ?_, ?_⟩
  · obtain ⟨r, n, us, carried, hconverter⟩ := serves_iff.mp hj
    simp [Scanner.beginLadder] at hconverter
  · show -32768 * ((0 : Nat) : Int) ≤ z.accumulator
    omega
  · show z.accumulator ≤ 32767 * ((0 : Nat) : Int)
    omega

/-- R71: the arbiter leaves no work behind an idle converter. -/
theorem choose_lawful (c : Settings) {z : Scanner} (hsum : z.accumulator = 0) : (z.choose c).Lawful := by
  obtain ⟨k, -, h⟩ | ⟨-, i, -, h⟩ | ⟨hchains, hladders, h⟩ := choose_cases c z <;> rw [h]
  · exact beginChain_lawful c k hsum
  · exact beginLadder_lawful c i hsum
  · refine ⟨fun j hj => ?_, fun _ => ⟨fun x hx => ?_, fun x hx => ?_⟩, ?_, ?_⟩
    · obtain ⟨r, n, us, carried, hconverter⟩ := serves_iff.mp hj
      contradiction
    · exact lowest_eq_none hchains x hx
    · exact lowest_eq_none hladders x hx
    · show -32768 * ((0 : Nat) : Int) ≤ z.accumulator
      omega
    · show z.accumulator ≤ 32767 * ((0 : Nat) : Int)
      omega

theorem fire_lawful (c : Settings) (k : Nat) (atMark : Bool) {z : Scanner} (h : z.Lawful) : (z.fire c k atMark).Lawful := by
  obtain ⟨-, h'⟩ | ⟨hwaits, hserves, ⟨hidle, h'⟩ | ⟨hbusy, h'⟩⟩ := fire_cases c k atMark z <;> rw [h']
  · exact ⟨h.serves, h.idle, h.low, h.high⟩
  · have hsum := accumulator_of_idle h hidle
    exact beginChain_lawful c k hsum
  · refine ⟨fun j hj => ?_, fun hidle => absurd hidle hbusy, h.low, h.high⟩
    have hj' : z.serves j = true := hj
    rw [← Bool.not_eq_true]
    intro hwaiting
    obtain ⟨rfl, -⟩ | ⟨-, hold⟩ := getD_set_waits z.chains k j _ hwaiting
    · rw [hserves] at hj'
      contradiction
    · rw [show (z.chains.getD j .none).waits = false from h.serves j hj'] at hold
      contradiction

theorem post_lawful (c : Settings) (i : Nat) {z : Scanner} (h : z.Lawful) : (z.post c i).Lawful := by
  obtain ⟨-, h'⟩ | ⟨-, ⟨hidle, h'⟩ | ⟨hbusy, h'⟩⟩ := post_cases c z i <;> rw [h']
  · exact ⟨h.serves, h.idle, h.low, h.high⟩
  · have hsum := accumulator_of_idle h hidle
    exact beginLadder_lawful c i hsum
  · exact ⟨h.serves, fun hidle => absurd hidle hbusy, h.low, h.high⟩

theorem carry_waits (x : ChainRequest) : x.carry.waits = x.waits := by cases x <;> rfl

theorem complete_sample {x : Converter} (k : Nat) (h : x ≠ .idle) : (x.complete k).sample = x.sample + k := by
  cases x with
  | idle => exact absurd rfl h
  | chain | ladder => rfl

theorem State.ScannerMove.lawful {z : Scanner} (hmove : s.ScannerMove z) (h : s.scanner.Lawful) : z.Lawful := by
  cases hmove with
  | mark =>
    refine ⟨fun k hk => ?_, fun hidle => ?_, h.low, h.high⟩
    · have hold := h.serves k hk
      unfold Scanner.request at hold ⊢
      rw [List.getD_eq_getElem?_getD] at hold ⊢
      rw [Scanner.mark, List.getElem?_map]
      cases hx : s.scanner.chains[k]? with
      | none => rfl
      | some x =>
        rw [hx] at hold
        exact (carry_waits x).trans hold
    · obtain ⟨hchains, hladders⟩ := h.idle hidle
      refine ⟨fun x hx => ?_, hladders⟩
      obtain ⟨y, hy, rfl⟩ := List.mem_map.mp hx
      exact (carry_waits y).trans (hchains y hy)
  | fire k atMark => exact fire_lawful s.settings k atMark h
  | post i => exact post_lawful s.settings i h
  | samples codes hbusy =>
    have hsample := complete_sample codes.length hbusy
    have hsum := accumulate_eq codes s.scanner
    obtain ⟨hsumLow, hsumHigh⟩ := sum_samples_mem codes
    have hlow := h.low
    have hhigh := h.high
    refine ⟨fun k hk => h.serves k ?_, fun hidle => ?_, ?_, ?_⟩
    · obtain ⟨r, n, us, carried, hconverter⟩ := serves_iff.mp hk
      unfold Scanner.takeSamples Converter.complete at hconverter
      refine serves_iff.mpr ?_
      cases hc : s.scanner.converter with
      | idle => exact absurd hc hbusy
      | chain p r' n' us' carried' =>
        simp only [hc, Converter.chain.injEq] at hconverter
        exact ⟨r', n', us', carried', by rw [hconverter.1]⟩
      | ladder => simp [hc] at hconverter
    · have hidle : s.scanner.converter.complete codes.length = .idle := hidle
      cases hc : s.scanner.converter with
      | idle => exact absurd hc hbusy
      | chain | ladder => simp [hc, Converter.complete] at hidle
    · show -32768 * ((s.scanner.converter.complete codes.length).sample : Int) ≤ s.scanner.accumulate codes
      rw [hsample, hsum]
      push_cast
      linarith
    · show s.scanner.accumulate codes ≤ 32767 * ((s.scanner.converter.complete codes.length).sample : Int)
      rw [hsample, hsum]
      push_cast
      linarith
  | record k r sample us carried hserves =>
    obtain ⟨next, -, h'⟩ | ⟨-, h'⟩ := afterRecord_cases s.settings k r carried s.scanner <;> rw [h']
    · refine ⟨fun j hj => h.serves j ?_, fun hidle => by simp at hidle, le_rfl, le_rfl⟩
      obtain ⟨r', n', us', carried', hconverter⟩ := serves_iff.mp hj
      simp only [Converter.chain.injEq] at hconverter
      exact serves_iff.mpr ⟨r, sample, us, carried, by rw [hserves, hconverter.1]⟩
    · exact choose_lawful s.settings rfl
  | ladder => exact choose_lawful s.settings rfl

theorem Converter.advance_eq_idle {x : Converter} : x.advance = .idle ↔ x = .idle := by cases x <;> simp [Converter.advance]

theorem advance_serves {z : Scanner} {k : Nat} : Scanner.serves { z with converter := z.converter.advance } k = z.serves k := by
  unfold Scanner.serves
  cases z.converter <;> rfl

theorem reset_scanner_lawful : Scanner.reset.Lawful :=
  ⟨fun k hk => by simp [Scanner.serves, Scanner.reset] at hk,
    fun _ => ⟨fun x hx => by rw [List.eq_of_mem_replicate hx]; rfl, fun x hx => List.eq_of_mem_replicate hx⟩, le_rfl, le_rfl⟩

theorem scannerLaw_kept : Kept (fun _ => True) fun s => s.scanner.Lawful := by
  refine ⟨fun s _ h => h, fun s _ h => ?_, fun s _ _ => reset_scanner_lawful, fun s _ _ => reset_scanner_lawful, fun s image code _ h _ _ => ?_,
    fun s image first _ h _ _ => ?_, fun s t _ h hmove => ?_⟩
  · refine ⟨fun k hk => h.serves k (advance_serves.symm.trans hk), fun hidle => h.idle (Converter.advance_eq_idle.mp hidle), ?_, ?_⟩
    · show -32768 * (s.scanner.converter.advance.sample : Int) ≤ _
      rw [Converter.advance_sample]
      exact h.low
    · show _ ≤ 32767 * (s.scanner.converter.advance.sample : Int)
      rw [Converter.advance_sample]
      exact h.high
  · rw [failStartUp_eq]
    exact h
  · obtain ⟨-, hscanner, -⟩ := startedUp_tables (imageOf image) first s
    show (s.startedUp (imageOf image) first).scanner.Lawful
    rw [hscanner]
    exact readied_scanner_keeps _ first s (fun z k b hz => fire_lawful _ k b hz) h
  · obtain hscanner | hscanner := hmove.records.scanner
    · show t.scanner.Lawful
      rwa [hscanner]
    · exact hscanner.lawful h

/-- Settles O32: the law of the scanner is kept by every step, whatever the sizes of its tables. -/
theorem everyStepKeepsTheScannerLaw : Obligations.EveryStepKeepsTheScannerLaw := by
  intro s t _ h hstep
  exact scannerLaw_iff.mpr (scannerLaw_kept.step_alone (scannerLaw_iff.mp h) hstep)

end Sys2Proof.Machine
end

section
/-! O1 to O3: the command at the front, the completion of every command, and what a microsecond brings (R51, R64, R116, R131, R150, R151,
R156). -/

namespace Sys2Proof.Machine

variable {s t : State}

/-- Settles O1: the step's first case. -/
theorem stepRunsTheFrontCommand : Obligations.StepRunsTheFrontCommand := by
  intro c rest s hpending
  unfold step
  rw [hpending]

/-! ## Every command completes (O2) -/

theorem exec_completes (i : Instr) (s : State) : ∃ t, exec i s = .next t := by
  cases i <;> exact ⟨_, rfl⟩

/-- The queue and the timebase are no command's. -/
def State.SameQueue (s t : State) : Prop := t.pending = s.pending ∧ t.now = s.now

theorem State.SameQueue.trans {u : State} (h : s.SameQueue t) (k : t.SameQueue u) : s.SameQueue u :=
  ⟨k.1.trans h.1, k.2.trans h.2⟩

theorem State.RecordsKept.sameQueue (h : s.RecordsKept t) : s.SameQueue t := by
  obtain ⟨-, -, -, -, -, -, -, hnow, hpending⟩ := h
  exact ⟨hpending, hnow⟩

theorem formAlarm_sameQueue (s : State) : s.SameQueue s.formAlarm := by
  obtain ⟨-, -, -, -, -, -, -, hnow, hpending⟩ := formAlarm_keeps s
  exact ⟨hpending, hnow⟩

theorem putCracks_sameQueue (k : Cracks) (s : State) : s.SameQueue (s.putCracks k) := by
  obtain ⟨-, h⟩ | ⟨-, h⟩ := putCracks_cases k s <;> rw [h]
  · exact ⟨rfl, rfl⟩
  · exact formAlarm_sameQueue { s with cracks := k, line := { s.line with prompt := true } }

theorem State.Move.sameQueue (h : s.Move t) : s.SameQueue t := by
  cases h with
  | change m _ =>
    obtain h | ⟨-, -, h⟩ := changeMode_cases m s <;> rw [h] <;> exact ⟨rfl, rfl⟩
  | judge sig _ => exact putCracks_sameQueue _ s
  | hear n m v _ =>
    refine State.SameQueue.trans ?_ (formAlarm_sameQueue _)
    obtain ⟨-, h⟩ | ⟨-, h⟩ := captureOffset_cases n v (s.takeBeat n m v) <;> rw [h] <;> exact ⟨rfl, rfl⟩
  | expire n p _ => exact formAlarm_sameQueue (s.expire n p)
  | compose c => exact State.RecordsKept.sameQueue (compose_keeps c s).1
  | control | trip | servo | seq | line | scanner | recorder | cracks | clock | strap | record => exact ⟨rfl, rfl⟩

theorem State.Works.sameQueue (h : s.Works t) : s.SameQueue t :=
  h.induction (P := s.SameQueue) (fun _ _ hu huv => hu.trans huv.sameQueue) ⟨rfl, rfl⟩

theorem startedUp_sameQueue (m : List Byte) (first : Nat) (s : State) : s.SameQueue (s.startedUp m first) := by
  have hready : s.SameQueue (s.readied m first) := by
    unfold State.readied
    rw [fireStarting_scanner_alone]
    obtain ⟨-, h⟩ | ⟨-, h⟩ := retain_cases (tagOf m) s <;> rw [h] <;> exact ⟨rfl, rfl⟩
  have hput := hready.trans (putCracks_sameQueue (s.readied m first).formed _)
  rw [startedUp_eq]
  exact ⟨(State.enterMode_pending _ _).trans hput.1, (State.enterMode_now _ _).trans hput.2⟩

/-- Settles O2: every command has an outcome, and no way of reaching it touches the queue or the timebase. -/
theorem everyCommandCompletes : Obligations.EveryCommandCompletes := by
  intro i s
  obtain ⟨t, hexec⟩ := exec_completes i s
  suffices h : s.SameQueue t from ⟨t, hexec, h⟩
  obtain ⟨-, rfl⟩ | ⟨-, rfl⟩ | ⟨image, p, -, -, ⟨code, -, hw⟩ | ⟨-, hw⟩⟩ | hw := exec_cases hexec
  · exact ⟨rfl, rfl⟩
  · exact ⟨rfl, rfl⟩
  · rw [failStartUp_eq] at hw
    exact State.SameQueue.trans ⟨rfl, rfl⟩ hw.sameQueue
  · exact (startedUp_sameQueue _ p s).trans hw.sameQueue
  · exact hw.sameQueue

/-! ## What falls due (O3) -/

theorem markDue_iff : s.markDue = true ↔ s.running = true ∧ s.clock.applied ≤ s.clock.phase + 1 := by simp [State.markDue]

theorem mem_pointsAt {c : Clock} {phase k : Nat} : k ∈ c.pointsAt phase ↔ c.times[k]? = some (some phase) := by
  simp only [Clock.pointsAt, List.mem_filter, List.mem_range, decide_eq_true_eq]
  refine ⟨fun h => h.2, fun h => ⟨?_, h⟩⟩
  obtain ⟨hk, -⟩ := List.getElem?_eq_some_iff.mp h
  exact hk

/-- R51, R64: the mark falls due with the points of fraction 0. -/
theorem mem_dueMark {i : Instr} : i ∈ s.dueMark ↔ s.markDue = true
    ∧ (i = .cycleMark (Config.freeBit s.now) (Config.freeNat s.now 0) ∨ ∃ k, s.clock.times[k]? = some (some 0) ∧ i = .scanPointFire k) := by
  unfold State.dueMark
  split
  next h => simp [h, State.markPoints, mem_pointsAt, eq_comm]
  next h => simp [h]

/-- R64: the points whose time comes within the cycle. -/
theorem mem_duePoints {i : Instr} : i ∈ s.duePoints ↔ s.running = true ∧ s.markDue = false
    ∧ ∃ k, s.clock.times[k]? = some (some (s.clock.phase + 1)) ∧ i = .scanPointFire k := by
  unfold State.duePoints
  split
  next h =>
    simp only [Bool.and_eq_true, Bool.not_eq_true'] at h
    simp [h, mem_pointsAt, eq_comm]
  next h =>
    simp only [Bool.and_eq_true, Bool.not_eq_true'] at h
    simp only [List.not_mem_nil, false_iff]
    exact fun ⟨hrun, hdue, _⟩ => h ⟨hrun, hdue⟩

/-- R116: the expiry of each entry falls due at its age. -/
theorem mem_dueExpiries {i : Instr} : i ∈ s.dueExpiries ↔ ∃ (k : Nat) (e : Peer), s.peers.entries[k]? = some e
    ∧ ((i = .peerStale (k + 1) ∧ e.state = .fresh ∧ e.ageUs = s.settings.staleMs * 1000)
      ∨ (i = .peerLost (k + 1) ∧ e.state = .stale ∧ e.ageUs = s.settings.lostMs * 1000)) := by
  have hone (k : Nat) (e : Peer) : i ∈ dueExpiry s.settings (k + 1) e ↔
      (i = .peerStale (k + 1) ∧ e.state = .fresh ∧ e.ageUs = s.settings.staleMs * 1000)
        ∨ (i = .peerLost (k + 1) ∧ e.state = .stale ∧ e.ageUs = s.settings.lostMs * 1000) := by
    unfold dueExpiry
    split
    next h => simp [h]
    next h =>
      split
      next h' => simp [h']
      next h' => simp [h, h']
  unfold State.dueExpiries
  simp only [List.mem_flatten, List.mem_map, Prod.exists, ← hone]
  constructor
  · rintro ⟨_, ⟨e, k, hmem, rfl⟩, hi⟩
    exact ⟨k, e, List.mem_zipIdx_iff_getElem?.mp hmem, hi⟩
  · rintro ⟨k, e, hget, hi⟩
    exact ⟨_, ⟨e, k, List.mem_zipIdx_iff_getElem?.mpr hget, rfl⟩, hi⟩

theorem mem_control_due {c : Control} {i : Instr} : i ∈ c.due ↔ c.release = some 0 ∧ i = .lockstepRelease := by
  unfold Control.due
  split <;> simp [*]

theorem mem_transmitter_due {x : Transmitter} {i : Instr} : i ∈ x.due ↔
    (i = .transmitComplete ∧ ∃ wire, x = .sending wire 0) ∨ (i = .jamEnd ∧ x = .jam 0) ∨ (i = .backoffEnd ∧ x = .backoff 0) := by
  unfold Transmitter.due
  split <;> simp_all

theorem mem_dueInterval {u : LineUnit} {i : Instr} :
    i ∈ u.dueInterval ↔ u.line.composes = true ∧ (∃ n, u.intervalUs = some n ∧ 1000000 ≤ n) ∧ i = .intervalBeat := by
  unfold LineUnit.dueInterval LineUnit.intervalOver
  cases u.intervalUs with
  | none => simp
  | some n =>
    by_cases h : u.line.composes = true <;> by_cases hn : 1000000 ≤ n <;> simp [h, hn, Config.intervalUs]

theorem composes_iff (l : LineState) : l.composes = true ↔ l = .active ∨ l = .stuck := by cases l <;> simp [LineState.composes]

/-- The entries after a microsecond, as their ages are written. -/
theorem advance_entries_getElem? {k : Nat} {e : Peer} (h : s.peers.entries[k]? = some e) :
    s.advance.peers.entries[k]? = some e.advance := by
  rw [State.advance_peers]
  simp [h]

theorem peer_advance_state (e : Peer) : e.advance.state = e.state := by
  unfold Peer.advance
  split <;> rfl

theorem peer_advance_age {e : Peer} (h : e.state ≠ .empty) : e.advance.ageUs = min 65535000 (e.ageUs + 1) := by
  rw [Peer.advance, if_neg h]
  rfl

/-- R116: the expiries that fall due of an entry. -/
theorem expiry_due_iff {k : Nat} {e : Peer} (h : s.peers.entries[k]? = some e) :
    (.peerStale (k + 1) ∈ s.due ↔ e.state = .fresh ∧ min 65535000 (e.ageUs + 1) = s.settings.staleMs * 1000)
      ∧ (.peerLost (k + 1) ∈ s.due ↔ e.state = .stale ∧ min 65535000 (e.ageUs + 1) = s.settings.lostMs * 1000) := by
  have hget := advance_entries_getElem? h
  have hage {p : PeerState} (hp : p ≠ .empty) (he : e.state = p) : e.advance.ageUs = min 65535000 (e.ageUs + 1) :=
    peer_advance_age (he ▸ hp)
  simp only [mem_due, mem_dueMark, mem_duePoints, mem_dueExpiries, mem_control_due, mem_transmitter_due, mem_dueInterval, reduceCtorEq,
    and_false, exists_false, or_false, false_or, false_and, Instr.peerStale.injEq, Instr.peerLost.injEq, Nat.add_right_cancel_iff,
    State.advance_settings]
  constructor
  · constructor
    · rintro ⟨j, e', he', rfl, hfresh, hdue⟩
      obtain rfl := Option.some.inj (he'.symm.trans hget)
      rw [peer_advance_state] at hfresh
      rw [hage (by decide) hfresh] at hdue
      exact ⟨hfresh, hdue⟩
    · rintro ⟨hfresh, hdue⟩
      exact ⟨k, _, hget, rfl, (peer_advance_state e).trans hfresh, (hage (by decide) hfresh).trans hdue⟩
  · constructor
    · rintro ⟨j, e', he', rfl, hstale, hdue⟩
      obtain rfl := Option.some.inj (he'.symm.trans hget)
      rw [peer_advance_state] at hstale
      rw [hage (by decide) hstale] at hdue
      exact ⟨hstale, hdue⟩
    · rintro ⟨hstale, hdue⟩
      exact ⟨k, _, hget, rfl, (peer_advance_state e).trans hstale, (hage (by decide) hstale).trans hdue⟩

theorem advance_sending_iff {x : Transmitter} : (∃ wire, x.advance = .sending wire 0) ↔ ∃ wire n, x = .sending wire n ∧ n ≤ 1 := by
  cases x <;> simp [Transmitter.advance, Nat.sub_eq_zero_iff_le]

theorem advance_jam_iff {x : Transmitter} : x.advance = .jam 0 ↔ ∃ n, x = .jam n ∧ n ≤ 1 := by
  cases x <;> simp [Transmitter.advance, Nat.sub_eq_zero_iff_le]

theorem advance_backoff_iff {x : Transmitter} : x.advance = .backoff 0 ↔ ∃ n, x = .backoff n ∧ n ≤ 1 := by
  cases x <;> simp [Transmitter.advance, Nat.sub_eq_zero_iff_le]

theorem advance_release_iff {c : Control} : c.advance.release = some 0 ↔ ∃ n, c.release = some n ∧ n ≤ 1 := by
  simp [Control.advance, Nat.sub_eq_zero_iff_le]

theorem advance_interval (u : LineUnit) :
    u.advance.intervalUs = if u.line.composes then u.intervalUs.map (· + 1) else u.intervalUs := rfl

/-- The commands that fall due, by kind. -/
theorem interval_due_iff : .intervalBeat ∈ s.due ↔ (s.line.line = .active ∨ s.line.line = .stuck)
    ∧ ∃ n, s.line.intervalUs = some n ∧ 999999 ≤ n := by
  simp only [mem_due, mem_dueMark, mem_duePoints, mem_dueExpiries, mem_control_due, mem_transmitter_due, mem_dueInterval, reduceCtorEq,
    and_false, exists_false, or_false, false_or, false_and, and_true]
  show s.line.line.composes = true ∧ _ ↔ _
  rw [← composes_iff]
  refine and_congr_right fun hcomposes => ?_
  rw [State.advance_line, advance_interval, if_pos hcomposes]
  cases s.line.intervalUs with
  | none => simp
  | some n => simp

/-- Settles O3: the state after the microsecond field by field, and the queue by the kinds of what falls due. -/
theorem anEmptyQueueLetsAMicrosecondPass : Obligations.AnEmptyQueueLetsAMicrosecondPass := by
  intro s hpending composes lastPhase
  have hstep : step s = .next s.microsecond := by
    unfold step
    rw [hpending]
  have hcomposes : composes ↔ s.line.line.composes = true := (composes_iff _).symm
  have hlast : lastPhase ↔ s.markDue = true := markDue_iff.symm
  refine ⟨s.microsecond, hstep, rfl, rfl, rfl, rfl, rfl, rfl, rfl, ?_, rfl, ?_, ?_, ?_, ?_, ?_, ?_, ?_⟩
  · show (if s.running then s.clock.advance else s.clock) = _
    unfold Clock.advance
    by_cases hrun : s.running = true <;> by_cases hphase : s.clock.phase + 1 < s.clock.applied <;> simp [hrun, hphase]
  · show ({ s.scanner with converter := s.scanner.converter.advance } : Scanner) = _
    cases s.scanner.converter <;> rfl
  · show ({ s.startUp with loader := s.startUp.loader.advance } : StartUp) = _
    cases s.startUp.loader <;> rfl
  · have hline : s.microsecond.line = { s.line with transmitter := s.line.transmitter.advance, intervalUs := s.microsecond.line.intervalUs } := rfl
    rw [hline]
    cases s.line.transmitter <;> rfl
  · intro h
    show s.line.advance.intervalUs = _
    rw [advance_interval, if_pos (hcomposes.mp h)]
  · intro h
    show s.line.advance.intervalUs = _
    rw [advance_interval, if_neg fun h' => h (hcomposes.mpr h')]
  · show (∃ first site, _ ∈ s.due) ↔ _
    rw [hlast]
    simp [mem_due, mem_dueMark, mem_duePoints, mem_dueExpiries, mem_control_due, mem_transmitter_due, mem_dueInterval]
  refine ⟨fun k => ?_, fun k e he => expiry_due_iff he, ?_, ?_, ?_, ?_, interval_due_iff, fun i hi => ?_⟩
  · show _ ∈ s.due ↔ _
    rw [hlast]
    simp only [mem_due, mem_dueMark, mem_duePoints, mem_dueExpiries, mem_control_due, mem_transmitter_due, mem_dueInterval, reduceCtorEq,
      and_false, exists_false, or_false, false_or, false_and, Instr.scanPointFire.injEq, exists_eq_right', markDue_iff]
    by_cases hdue : s.markDue = true
    · have hrun := (markDue_iff.mp hdue).1
      simp [hrun, hdue, (markDue_iff.mp hdue).2]
    · simp only [Bool.not_eq_true] at hdue
      have hlate : s.running = true → ¬ s.clock.applied ≤ s.clock.phase + 1 := fun hrun hle => by
        rw [markDue_iff.mpr ⟨hrun, hle⟩] at hdue
        contradiction
      simp only [hdue]
      tauto
  · show _ ∈ s.due ↔ _
    rw [← advance_release_iff]
    simp [mem_due, mem_dueMark, mem_duePoints, mem_dueExpiries, mem_control_due, mem_transmitter_due, mem_dueInterval]
  · show _ ∈ s.due ↔ _
    rw [← advance_sending_iff]
    simp [mem_due, mem_dueMark, mem_duePoints, mem_dueExpiries, mem_control_due, mem_transmitter_due, mem_dueInterval, LineUnit.advance]
  · show _ ∈ s.due ↔ _
    rw [← advance_jam_iff]
    simp [mem_due, mem_dueMark, mem_duePoints, mem_dueExpiries, mem_control_due, mem_transmitter_due, mem_dueInterval, LineUnit.advance]
  · show _ ∈ s.due ↔ _
    rw [← advance_backoff_iff]
    simp [mem_due, mem_dueMark, mem_duePoints, mem_dueExpiries, mem_control_due, mem_transmitter_due, mem_dueInterval, LineUnit.advance]
  · have hi : i ∈ s.due := hi
    rw [mem_due, mem_dueMark, mem_duePoints, mem_dueExpiries, mem_control_due, mem_transmitter_due, mem_dueInterval] at hi
    obtain ⟨-, rfl | ⟨k, -, rfl⟩⟩ | ⟨-, -, k, -, rfl⟩ | ⟨k, e, -, ⟨rfl, -⟩ | ⟨rfl, -⟩⟩ | ⟨-, rfl⟩ | (⟨rfl, -⟩ | ⟨rfl, -⟩ | ⟨rfl, -⟩)
      | ⟨-, -, rfl⟩ := hi <;> simp

end Sys2Proof.Machine
end

section
/-! O4, O5, O9, O35 and O59: the resets, the straps and the read command, the tick at rest, the expiries that find nothing to answer, and
the laws at reset. -/

namespace Sys2Proof.Machine

variable {s t : State}

/-! ## Resets and straps -/

/-- Settles O4: both resets write the state out. -/
theorem resetsClearAllButTheRetainedRecords : Obligations.ResetsClearAllButTheRetainedRecords := by
  refine ⟨fun s => ⟨s.poweredOn, rfl, rfl, rfl, rfl, rfl, rfl, rfl, rfl, rfl, rfl, rfl, fun r hr => ?_, rfl, rfl, fun r hr => ?_, rfl, rfl,
    fun e he => ?_, rfl, rfl, rfl, ?_⟩, fun s => ⟨s.pinReset, s.poweredOn, rfl, rfl, rfl⟩⟩
  · exact List.eq_of_mem_replicate hr
  · exact List.eq_of_mem_replicate hr
  · exact List.eq_of_mem_replicate he
  · exact afterReset_sized s _ _ cleared_sized (by simp [Cracks.cleared])

theorem resetRelease_eq (straps : BitVec 5) (s : State) : exec (.resetRelease straps) s = .next (if s.startUp.loader = .inReset then
      { s with startUp := { s.startUp with
        loader := if frameStation straps.toNat then .reading 0 else .badStation, station := straps.toNat } }
    else s) := rfl

theorem frameStation_iff (n : Nat) : frameStation n = true ↔ 1 ≤ n ∧ n ≤ 16 := by simp [frameStation]

/-- R165: the read command and the address as bits, most significant first. -/
theorem spiCommand_bit (bit : Nat) : (spiCommand.flatMap fun x => (dataBits x).reverse)[bit]?
    = if bit < 32 then some (Nat.testBit 0x03000000 (31 - bit)) else none := by
  have hall : ∀ b < 32, (spiCommand.flatMap fun x => (dataBits x).reverse)[b]? = some (Nat.testBit 0x03000000 (31 - b)) := by decide
  split
  next h => exact hall bit h
  next h => exact List.getElem?_eq_none (by simpa [spiCommand] using h)

/-- Settles O5: the strap reading, and the bits of the read by their number. -/
theorem releaseReadsTheStrapsOnce : Obligations.ReleaseReadsTheStrapsOnce := by
  refine ⟨fun straps again s hreset => ?_, fun s us k hreading hus hk => ?_, fun s k hread => ?_⟩
  · refine ⟨_, by rw [resetRelease_eq, if_pos hreset], ?_, ?_, fun hbad image p => ?_⟩
    · simp only [frameStation_iff]
    · rw [resetRelease_eq, if_neg]
      split <;> simp
    · have hstation : ¬ frameStation straps.toNat = true := by
        rw [frameStation_iff]
        omega
      have hloader : (if frameStation straps.toNat = true then Loader.reading 0 else .badStation).isReading = false := by
        rw [if_neg hstation]
        rfl
      show Host.Outcome.next (if _ then _ else _) = _
      rw [hloader]
      rfl
  · have hbit : s.startUp.loader.spiBit k = some (2 * us + k / 2) := by
      rw [hreading, Loader.spiBit, if_pos ⟨hus, hk⟩]
    refine ⟨?_, ?_⟩
    · unfold State.spiClock
      rw [hbit, Option.isSome_some, Bool.true_and, decide_eq_decide]
      omega
    · unfold State.spiSent
      rw [hbit]
      exact spiCommand_bit _
  · have hbit : s.startUp.loader.spiBit k = none := by
      unfold Loader.spiBit
      split
      next us hreading =>
        have hus := hread us hreading
        exact if_neg fun h => absurd h.1 (by simpa [Config.imageReadUs] using hus)
      all_goals rfl
    exact ⟨by unfold State.spiClock; rw [hbit]; rfl, by unfold State.spiSent; rw [hbit]; rfl⟩

/-! ## The tick at rest (O9) -/

/-- The state after the blocks of `l` have taken a tick in STANDBY or TRIPPED. -/
def State.rested (l : List TickBlock) (rawL rawD : Half) (s : State) : State :=
  { s with
    servo := if .servo ∈ l then s.sampled rawL rawD else s.servo
    seq := if .sequencer ∈ l then { s.seq with envelope := 0, clean := false } else s.seq
    recorder := if .recorder ∈ l then { s.recorder with steady := false } else s.recorder }

theorem sequenceTick_at_rest (h : s.control.mode = .standby ∨ s.control.mode = .tripped) :
    s.sequenceTick = { s with seq := { s.seq with envelope := 0, clean := false } } := by
  unfold State.sequenceTick Sequencer.tick
  obtain h | h := h <;> rw [h] <;>
    simp [Sequencer.envelopeStep, Sequencer.cleanStep, Sequencer.timeStep, State.withSequencer]

theorem steadyTick_of_not_run (h : s.control.mode ≠ .run) : s.steadyTick = { s with recorder := { s.recorder with steady := false } } := by
  unfold State.steadyTick State.steadyNow
  simp [h]

theorem allBlocks_at_rest (l : List TickBlock) (rawL rawD : Half) (h : s.control.mode = .standby ∨ s.control.mode = .tripped) :
    s.allBlocks l rawL rawD = s.rested l rawL rawD := by
  have hnotrun : s.control.mode ≠ .run := by obtain h | h := h <;> simp [h]
  induction l generalizing s with
  | nil => simp [State.allBlocks, State.rested]
  | cons b l ih =>
    rw [allBlocks_cons]
    cases b with
    | servo =>
      have hload : s.blockTick rawL rawD .servo = { s with servo := s.sampled rawL rawD } := by
        show s.loadTick rawL rawD = _
        unfold State.loadTick
        obtain h | h := h <;> rw [h]
      rw [hload, ih (s := { s with servo := s.sampled rawL rawD }) h hnotrun]
      unfold State.rested State.sampled
      simp
    | control =>
      have hfraction : s.blockTick rawL rawD .control = s :=
        fractionTick_of_other (by obtain h | h := h <;> simp [h]) (by obtain h | h := h <;> simp [h])
      rw [hfraction, ih h hnotrun]
      unfold State.rested
      simp
    | sequencer =>
      have hsequence : s.blockTick rawL rawD .sequencer = { s with seq := { s.seq with envelope := 0, clean := false } } :=
        sequenceTick_at_rest h
      rw [hsequence, ih (s := { s with seq := { s.seq with envelope := 0, clean := false } }) h hnotrun]
      unfold State.rested State.sampled
      simp
    | recorder =>
      have hsteady : s.blockTick rawL rawD .recorder = { s with recorder := { s.recorder with steady := false } } :=
        steadyTick_of_not_run hnotrun
      rw [hsteady, ih (s := { s with recorder := { s.recorder with steady := false } }) h hnotrun]
      unfold State.rested State.sampled
      simp

/-- R3, R32, R58: with the clock stopped the recorder alone takes a tick. -/
theorem allBlocks_stopped (l : List TickBlock) (rawL rawD : Half) (h : s.control.mode = .start ∨ s.control.mode = .cfgFault) :
    s.allBlocks l rawL rawD = { s with recorder := if .recorder ∈ l then { s.recorder with steady := false } else s.recorder } := by
  have hnotrun : s.control.mode ≠ .run := by obtain h | h := h <;> simp [h]
  induction l generalizing s with
  | nil => simp [State.allBlocks]
  | cons b l ih =>
    rw [allBlocks_cons]
    cases b with
    | servo =>
      have hload : s.blockTick rawL rawD .servo = s := by
        show s.loadTick rawL rawD = _
        unfold State.loadTick
        obtain h | h := h <;> rw [h]
      rw [hload, ih h hnotrun]
      simp
    | control =>
      have hfraction : s.blockTick rawL rawD .control = s :=
        fractionTick_of_other (by obtain h | h := h <;> simp [h]) (by obtain h | h := h <;> simp [h])
      rw [hfraction, ih h hnotrun]
      simp
    | sequencer =>
      have hsequence : s.blockTick rawL rawD .sequencer = s := by
        show s.sequenceTick = _
        unfold State.sequenceTick Sequencer.tick
        obtain h | h := h <;> rw [h] <;> rfl
      rw [hsequence, ih h hnotrun]
      simp
    | recorder =>
      have hsteady : s.blockTick rawL rawD .recorder = { s with recorder := { s.recorder with steady := false } } :=
        steadyTick_of_not_run hnotrun
      rw [hsteady, ih (s := { s with recorder := { s.recorder with steady := false } }) h hnotrun]
      simp

theorem mem_tickOrder (order : Nat) (b : TickBlock) : b ∈ tickOrder order := by
  rw [(tickOrder_perm order).mem_iff]
  cases b <;> decide

theorem execServoTick_eq (order : Nat) (rawL rawD : Half) (s : State) :
    exec (.servoTick order rawL rawD) s = .next ((s.allBlocks (tickOrder order) rawL rawD).noteMove.settle) := rfl

theorem noteMove_of_other (hd : s.control.mode ≠ .descent) (ha : s.control.mode ≠ .ascent) : s.noteMove = s := by
  unfold State.noteMove
  rw [if_neg]
  exact fun h => h.1.elim hd ha

theorem settle_of_spent (h : s.line.prompt = false) : s.settle = s := by
  unfold State.settle
  rw [h]
  rfl

theorem reduceCode_eq (code : Half) (zero gain : Int) :
    reduceCode (codeValue code) zero gain = max (-32768) (min 32767 (Int.tdiv ((code.toInt - zero) * gain) 4096)) := by
  rw [reduceCode, clamp_eq_max_min (by decide), codeValue_eq_toInt]
  rfl

/-- Settles O9: every order of the blocks comes to the same state. -/
theorem aTickAtRestSamplesAlone : Obligations.ATickAtRestSamplesAlone := by
  intro order rawL rawD s hprompt
  constructor
  · intro h
    have hrested : s.rested (tickOrder order) rawL rawD = { s with
        servo := s.sampled rawL rawD
        seq := { s.seq with envelope := 0, clean := false }
        recorder := { s.recorder with steady := false } } := by
      simp [State.rested, mem_tickOrder]
    rw [execServoTick_eq, allBlocks_at_rest _ rawL rawD h, hrested,
      noteMove_of_other (by obtain h | h := h <;> simp [h]) (by obtain h | h := h <;> simp [h]), settle_of_spent]
    · simp only [State.sampled, reduceCode_eq]
    · exact hprompt
  · intro h
    rw [execServoTick_eq, allBlocks_stopped _ rawL rawD h, if_pos (mem_tickOrder order _),
      noteMove_of_other (by obtain h | h := h <;> simp [h]) (by obtain h | h := h <;> simp [h]), settle_of_spent]
    exact hprompt

/-! ## Expiries (O35) -/

/-- R118: under the law of G a forming of it finds it as it is. -/
theorem formAlarm_of_groupLaw (h : s.GroupLaw) : s.formAlarm = s := by
  obtain ⟨hlevel, hcounted, hattained⟩ := h
  obtain ⟨hlevel', hcounted', hattained'⟩ := formAlarm_spec s.peers s.settings.group s.cracks.level
  have hsame : s.peers.formAlarm s.settings.group s.cracks.level = s.peers.groupAlarm := by
    refine le_antisymm ?_ ?_
    · obtain heq | ⟨e, he, heq⟩ := hattained'
      · exact heq.trans_le hlevel
      · exact heq.ge.trans (hcounted e he)
    · obtain heq | ⟨e, he, heq⟩ := hattained
      · exact heq.trans_le hlevel'
      · exact heq.ge.trans (hcounted' e he)
  unfold State.formAlarm
  dsimp only
  rw [if_pos hsame]

/-- An entry replaced by one that counts alike, with the same own level, moves no G. -/
theorem setEntry_groupLaw {n : Nat} {e : Peer} (h : s.GroupLaw) (hn : n - 1 < s.peers.entries.length)
    (hcounted : e.counted s.settings.group = (s.peers.entry n).counted s.settings.group) (hlevel : e.ownLevel = (s.peers.entry n).ownLevel) :
    State.GroupLaw { s with peers := s.peers.setEntry n e } := by
  have hentry : s.peers.entries[n - 1] = s.peers.entry n := by
    rw [PeerTable.entry, List.getD_eq_getElem?_getD, List.getElem?_eq_getElem hn, Option.getD_some]
  obtain ⟨hown, hall, hattained⟩ := h
  refine ⟨hown, fun x hx => ?_, hattained.imp_right fun ⟨x, hx, heq⟩ => ?_⟩
  · obtain ⟨hmem, hc⟩ := List.mem_filter.mp hx
    obtain hmem | rfl := mem_setEntry hmem
    · exact hall x (List.mem_filter.mpr ⟨hmem, hc⟩)
    · show x.ownLevel ≤ s.peers.groupAlarm
      rw [hlevel]
      refine hall _ (List.mem_filter.mpr ⟨hentry ▸ List.getElem_mem hn, hcounted.symm.trans hc⟩)
  · obtain ⟨hmem, hc⟩ := List.mem_filter.mp hx
    obtain ⟨i, hi, rfl⟩ := List.getElem_of_mem hmem
    by_cases hin : i = n - 1
    · subst hin
      rw [hentry] at hc heq
      exact ⟨e, List.mem_filter.mpr ⟨List.mem_set hn e, hcounted.trans hc⟩, hlevel.trans heq⟩
    · refine ⟨_, List.mem_filter.mpr ⟨?_, hc⟩, heq⟩
      refine List.mem_of_getElem? (i := i) ?_
      show (s.peers.entries.set (n - 1) e)[i]? = _
      rw [List.getElem?_set_ne (Ne.symm hin), List.getElem?_eq_getElem hi]

theorem peer_expires_iff (p : PeerState) (ms : Nat) (e : Peer) : e.expires p ms = true ↔ e.state = p ∧ ms * 1000 ≤ e.ageUs := by
  simp [Peer.expires]

theorem execPeerStale_eq (n : Nat) (s : State) : exec (.peerStale n) s = .next
    (if frameStation n && (s.peers.entry n).expires .fresh s.settings.staleMs then (s.expire n .stale).formAlarm.examineBarrier.settle else s) := rfl

theorem execPeerLost_eq (n : Nat) (s : State) : exec (.peerLost n) s = .next
    (if frameStation n && (s.peers.entry n).expires .stale s.settings.lostMs then (s.losePeer n).settle else s) := rfl

theorem expires_guard_false {n ms : Nat} {p : PeerState} (h : (s.peers.entry n).state ≠ p ∨ (s.peers.entry n).ageUs < ms * 1000) :
    ¬ (frameStation n && (s.peers.entry n).expires p ms) = true := by
  simp only [Bool.and_eq_true, peer_expires_iff]
  rintro ⟨-, hstate, hage⟩
  obtain h | h := h
  · exact h hstate
  · omega

/-- Settles O35: each expiry by its guard; G stands under its law. -/
theorem expiriesChangeTheirOwnStateAlone : Obligations.ExpiriesChangeTheirOwnStateAlone := by
  refine ⟨fun n s hlow hhigh hfresh hage hlength hgroup hbarrier hprompt => ?_, fun n s h => ?_, fun n s h => ?_, fun s hm hout => ?_, fun s h => ?_⟩
  · have hguard : (frameStation n && (s.peers.entry n).expires .fresh s.settings.staleMs) = true := by
      rw [Bool.and_eq_true, frameStation_iff, peer_expires_iff]
      exact ⟨⟨hlow, hhigh⟩, hfresh, hage⟩
    have hlaw : (s.expire n .stale).GroupLaw :=
      setEntry_groupLaw hgroup (by omega) (by simp [Peer.counted, hfresh]) rfl
    rw [execPeerStale_eq, if_pos hguard, formAlarm_of_groupLaw hlaw, examineBarrier_of_not_barrier, settle_of_spent]
    · rfl
    · exact hprompt
    · exact hbarrier
  · rw [execPeerStale_eq, if_neg (expires_guard_false h)]
  · rw [execPeerLost_eq, if_neg (expires_guard_false h)]
  · show Host.Outcome.next (if _ then _ else _) = _
    rw [if_pos ⟨hm, hout⟩]
  · show Host.Outcome.next (if _ then _ else _) = _
    rw [if_neg]
    rintro ⟨hm, hout⟩
    obtain ⟨hd, ha⟩ | h := h
    · exact hm.elim hd ha
    · exact h hout

/-! ## The laws at reset (O59) -/

/-- Settles O59: the power-on reset of any state is the reset, and the laws hold of it. -/
theorem theLawsHoldAtReset : Obligations.TheLawsHoldAtReset := by
  have hempty (e : Peer) (he : e ∈ State.reset.peers.entries) : e.state = .empty := by
    rw [List.eq_of_mem_replicate he]
    rfl
  have hrest : State.reset.ValveAtRest := fun _ => ⟨rfl, rfl, rfl, rfl, rfl⟩
  refine ⟨afterReset_sized State.reset _ none cleared_sized (by simp [Cracks.cleared]), ⟨fun _ => by simp [State.reset, StartUp.reset], fun _ => rfl⟩,
    fun _ => ⟨rfl, rfl, rfl, rfl, rfl, rfl, hempty, rfl, rfl⟩, fun _ => rfl, ⟨le_rfl, le_rfl⟩, fun h => Bool.noConfusion h, ?_, ?_, hrest, hrest.valveLaw,
    ?_, ?_, ?_, scannerLaw_iff.mpr reset_scanner_lawful, cycleLaw_of_none rfl, ⟨rfl, rfl⟩,
    groupLaw_of_none rfl hempty, ?_, ?_, lineLaw_iff.mpr reset_lawful, rfl⟩
  · exact ⟨Nat.zero_le _, fun h => by simp [State.reset, Control.reset] at h, fun _ => rfl⟩
  · exact ⟨rfl, rfl⟩
  · simp [State.IntegratorLaw, State.reset, Servo.reset, Settings.none]
  · exact ⟨Nat.zero_le _, fun _ => rfl, fun step h => by simp [State.reset, Sequencer.reset] at h⟩
  · exact ⟨Nat.zero_le _, Nat.zero_le _⟩
  · simp [State.AlarmPinLaw, State.reset, Control.reset, PeerTable.reset]
  · exact fun h => by simp [State.reset, Control.reset] at h

end Sys2Proof.Machine
end

section
/-! O6 and O7: the end of start-up in CFG_FAULT and in STANDBY (R144, R165 to R169). -/

namespace Sys2Proof.Machine

variable {s t : State}

/-! ## The bit rate (R144) -/

/-- R144, R166: an image that fails after CHECKSUM gives its own bit rate. -/
theorem lineBitUs_of_fault {m : List Byte} {code : FaultCode} (h : imageFault m = some code) :
    lineBitUs m = if code = .noImage ∨ code = .length ∨ code = .checksum then 4 else
      match byteAt m 5 with | 2 => 2 | 3 => 1 | _ => 4 := by
  obtain ⟨⟨c, b⟩, hfind, rfl⟩ := Option.map_eq_some_iff.mp h
  have hmem := List.mem_of_find?_eq_some hfind
  have hb : b = true := List.find?_some (p := Prod.snd) hfind
  unfold lineBitUs
  by_cases hearly : (failsNoImage m || failsLength m || failsChecksum m) = true
  · rw [if_pos hearly, if_pos]
    simp only [imageFault, imageChecks, List.find?_cons] at h
    by_cases hnone : failsNoImage m = true
    · simp_all
    by_cases hlength : failsLength m = true
    · simp_all
    · simp_all
  · have hlate : ¬(c = .noImage ∨ c = .length ∨ c = .checksum) := by
      rintro (rfl | rfl | rfl) <;> simp [imageChecks] at hmem <;> simp_all
    rw [if_neg hearly, if_neg hlate]
    unfold bitUsOf
    split <;> simp_all

theorem lineBitUs_of_good {m : List Byte} (h : imageFault m = none) :
    lineBitUs m = match byteAt m 5 with | 1 => 4 | 2 => 2 | _ => 1 := by
  obtain ⟨-, -, -, htiming, -⟩ := checks_of_good h
  rw [imageFault_eq_none] at h
  simp only [imageChecks, List.forall_mem_cons] at h
  obtain ⟨hnone, hlength, hsum, -⟩ := h
  simp only [failsTiming, outside, Bool.or_eq_false_iff, decide_eq_false_iff_not] at htiming
  obtain hrate | hrate | hrate : byteAt m 5 = 1 ∨ byteAt m 5 = 2 ∨ byteAt m 5 = 3 := by omega
  all_goals simp [lineBitUs, hnone, hlength, hsum, hrate, bitUsOf]

/-! ## A BEAT on an ACTIVE line -/

/-- R149, R150, R156: a BEAT composed on an ACTIVE line. -/
theorem compose_on_active (c : Cause) (h : s.line.line = .active) :
    (s.compose c).line.beatSlot = some ((s.compose c).shown c s.servo.clampFlag) ∧ (s.compose c).line.intervalUs = some 0
      ∧ (s.compose c).line.transmitter = (if s.line.transmitter = .idle then .waitGap else s.line.transmitter)
      ∧ s.line.Kept (s.compose c).line := by
  obtain ⟨hkept, -, hactive⟩ := compose_reportsWith c s s ⟨rfl, rfl, rfl, rfl, rfl, rfl, rfl, rfl, rfl⟩ rfl rfl rfl rfl
  rw [if_pos (.inl h)] at hactive
  obtain ⟨hbeat, hinterval, -, -, htransmitter⟩ := hactive
  rw [h] at htransmitter
  exact ⟨hbeat, hinterval, by simpa using htransmitter, hkept⟩

theorem compose_clampFlag (c : Cause) (h : s.line.line = .active) : (s.compose c).servo.clampFlag = false := by
  unfold State.compose
  rw [h]
  rfl

theorem settle_of_caused (h : s.line.prompt = true) : s.settle = s.compose .prompt := by
  unfold State.settle
  rw [h]
  rfl

/-! ## CFG_FAULT (O6) -/

theorem execImageReadComplete_of_fault {image : List Byte} {p : Nat} {code : FaultCode} (hreading : s.startUp.loader.isReading = true)
    (h : imageFault (imageOf image) = some code) :
    exec (.imageReadComplete image p) s = .next (s.failStartUp code (lineBitUs (imageOf image))).settle := by
  show Host.Outcome.next (if _ then _ else _) = _
  rw [if_pos hreading]
  dsimp only
  rw [h]

/-- Settles O6: CFG_FAULT entered on a line just opened, and its BEAT. -/
theorem aFailedImageEndsInCfgFault : Obligations.AFailedImageEndsInCfgFault := by
  intro image p s code hawaits hfault
  obtain ⟨hreading, -, hcontrol, hline, hclock, -, hpeers, hsettings, hservo, -⟩ := hawaits
  have hbits := lineBitUs_of_fault hfault
  rw [execImageReadComplete_of_fault hreading hfault, failStartUp_eq]
  generalize lineBitUs (imageOf image) = bits at hbits
  rw [settle_of_caused rfl]
  obtain ⟨⟨hclock', hscanner', hrecorder', hcracks', hpeers', hstartUp', hsettings', -⟩, hcontrol', hseq', hservo'⟩ := compose_keeps .prompt
    (State.enterMode .cfgFault { s with startUp := { s.startUp with loader := .ended, fault := code }, line := s.line.open bits })
  obtain ⟨hbeat, hinterval, htransmitter, hline', -, hbits', hassembler', -⟩ := compose_on_active .prompt
    (s := State.enterMode .cfgFault { s with startUp := { s.startUp with loader := .ended, fault := code }, line := s.line.open bits }) rfl
  have hclamp : (State.enterMode .cfgFault
      { s with startUp := { s.startUp with loader := .ended, fault := code }, line := s.line.open bits }).servo.clampFlag = false := by
    show s.servo.clampFlag = false
    rw [hservo]
    rfl
  have hlevel : s.peers.groupAlarm = 0 := by rw [hpeers]; rfl
  refine ⟨_, rfl, ?_, hstartUp', hsettings', ?_, hseq', hrecorder', hcracks', hclock', hscanner', hpeers', hline', htransmitter, hassembler',
    hbits'.trans hbits, hinterval, ?_⟩
  · rw [hcontrol', State.enterMode_control, hcontrol]
    show Control.enter _ s.peers.groupAlarm .cfgFault Control.reset = _
    rw [hlevel]
    rfl
  · exact hservo'.trans (by rw [compose_clampFlag _ rfl, hservo]; rfl)
  · refine ⟨_, hbeat, by rw [hclamp], rfl, ?_⟩
    unfold State.shown
    rw [hcontrol', hsettings', hclock', hservo', hpeers', hstartUp', State.enterMode_control, State.enterMode_settings,
      State.enterMode_clock, State.enterMode_servo, State.enterMode_peers, State.enterMode_startUp]
    dsimp only
    rw [hcontrol, hsettings, hclock, hservo, hlevel]
    exact ⟨rfl, rfl, rfl, rfl, rfl, rfl, rfl, rfl, rfl, rfl⟩

end Sys2Proof.Machine
end

section
/-! O7: the end of start-up in STANDBY, with the first firings and the trip of an asserted cutoff (R24, R50, R63, R64, R168, R169). -/

namespace Sys2Proof.Machine

variable {s t : State}

/-! ## The first firings (R64, R78) -/

/-- A point that fires at the start of the clock. -/
def Settings.FiresAtStart (c : Settings) (k : Nat) : Prop := ∃ head, c.points[k]? = some { fraction := some 0, head := some head }

theorem firesAtStart_iff {c : Settings} {k : Nat} :
    c.FiresAtStart k ↔ k < c.points.length ∧ (pointAt c k).fires = true ∧ (pointAt c k).fraction = some 0 := by
  unfold pointAt
  rw [List.getD_eq_getElem?_getD]
  constructor
  · rintro ⟨head, hget⟩
    obtain ⟨hk, -⟩ := List.getElem?_eq_some_iff.mp hget
    rw [hget]
    exact ⟨hk, rfl, rfl⟩
  · rintro ⟨hk, hfires, hfraction⟩
    rw [List.getElem?_eq_getElem hk, Option.getD_some] at hfires hfraction
    obtain ⟨head, hhead⟩ := Option.isSome_iff_exists.mp (Bool.and_eq_true _ _ ▸ hfires).2
    refine ⟨head, ?_⟩
    rw [List.getElem?_eq_getElem hk, ← hhead, ← hfraction]

theorem mem_startingPoints {c : Settings} {first k : Nat} : k ∈ startingPoints c first ↔ c.FiresAtStart k := by
  have hdue (j : Nat) : j ∈ (List.range c.points.length).filter (fun k => (pointAt c k).fires && decide ((pointAt c k).fraction = some 0))
      ↔ c.FiresAtStart j := by
    simp [firesAtStart_iff]
  unfold startingPoints
  dsimp only
  split
  next hfirst =>
    rw [(List.perm_cons_erase hfirst).mem_iff.symm, hdue]
  next => exact hdue k

theorem startingPoints_nodup (c : Settings) (first : Nat) : (startingPoints c first).Nodup := by
  have hdue : ((List.range c.points.length).filter fun k => (pointAt c k).fires && decide ((pointAt c k).fraction = some 0)).Nodup :=
    List.nodup_range.filter _
  unfold startingPoints
  dsimp only
  split
  next hfirst => exact (List.perm_cons_erase hfirst).nodup_iff.mp hdue
  next => exact hdue

/-- R72: of the points that fire, the one named goes first where it is among them. -/
theorem startingPoints_head {c : Settings} {first b : Nat} {l : List Nat} (h : startingPoints c first = b :: l) (hfires : c.FiresAtStart first) :
    b = first := by
  have hmem : first ∈ (List.range c.points.length).filter (fun k => (pointAt c k).fires && decide ((pointAt c k).fraction = some 0)) := by
    simpa [firesAtStart_iff] using hfires
  unfold startingPoints at h
  dsimp only at h
  rw [if_pos hmem] at h
  exact (List.cons.inj h).1.symm

/-- The requests of the points of `l`, put as they wait, not carried. -/
def waitingAt (l : List Nat) (chains : List ChainRequest) : List ChainRequest :=
  l.foldl (fun c k => c.set k (.pending false false)) chains

theorem waitingAt_getElem? {l : List Nat} {chains : List ChainRequest} {k : Nat} (hk : k < chains.length) :
    (waitingAt l chains)[k]? = if k ∈ l then some (.pending false false) else chains[k]? := by
  induction l generalizing chains with
  | nil => simp [waitingAt]
  | cons j l ih =>
    have hstep : waitingAt (j :: l) chains = waitingAt l (chains.set j (.pending false false)) := rfl
    rw [hstep, ih (by simpa using hk), List.getElem?_set]
    by_cases hj : j = k
    · subst hj
      simp [hk]
    · simp [hj, Ne.symm hj]

theorem waitingAt_length (l : List Nat) (chains : List ChainRequest) : (waitingAt l chains).length = chains.length := by
  induction l generalizing chains with
  | nil => rfl
  | cons j l ih => exact (ih _).trans (List.length_set ..)

/-- R64, R69: behind a chain in service the points that fire wait, each with its own request. -/
theorem firePoints_behind {l : List Nat} {u : State} (hphase : u.clock.phase = 0) (hbusy : u.scanner.converter ≠ .idle)
    (hfree : ∀ k ∈ l, (u.scanner.request k).waits = false ∧ u.scanner.serves k = false) (hnodup : l.Nodup) :
    (l.foldl State.firePoint u).scanner = { u.scanner with chains := waitingAt l u.scanner.chains } := by
  induction l generalizing u with
  | nil => rfl
  | cons k l ih =>
    obtain ⟨hk, hnodup⟩ := List.nodup_cons.mp hnodup
    obtain ⟨hwaits, hserves⟩ := hfree k (by simp)
    have hfire : u.firePoint k = { u with scanner := { u.scanner with chains := u.scanner.chains.set k (.pending false false) } } := by
      unfold State.firePoint State.firesAtMark
      rw [hphase]
      obtain ⟨h | h, -⟩ | ⟨-, -, ⟨h, -⟩ | ⟨-, h⟩⟩ := fire_cases u.settings k false u.scanner
      · rw [hwaits] at h; contradiction
      · rw [hserves] at h; contradiction
      · exact absurd h hbusy
      · simp [h]
    rw [List.foldl_cons, hfire, ih (by exact hphase) (by exact hbusy) ?_ hnodup]
    · rfl
    · intro j hj
      obtain ⟨hwaits', hserves'⟩ := hfree j (by simp [hj])
      refine ⟨?_, hserves'⟩
      rw [← Bool.not_eq_true]
      intro hwaiting
      obtain ⟨rfl, -⟩ | ⟨-, hold⟩ := getD_set_waits _ k j _ hwaiting
      · exact hk hj
      · exact Bool.false_ne_true (hwaits'.symm.trans hold)

/-- R72, R78: on a scanner just reset one of the points that fire goes into service, and the others wait. -/
theorem fireStarting_of_reset (first : Nat) (hphase : s.clock.phase = 0) (hreset : s.scanner = Scanner.reset)
    (hpoints : s.settings.points.length = 8) (hfires : ∃ k, s.settings.FiresAtStart k) :
    ∃ b head, s.settings.points[b]? = some { fraction := some 0, head := some head } ∧ (s.settings.FiresAtStart first → b = first)
      ∧ (s.fireStarting first).scanner = { s.scanner with
          converter := .chain b head 0 0 false, input := (recordAt s.settings head).channel, chains := (s.fireStarting first).scanner.chains }
      ∧ (s.fireStarting first).scanner.chains.length = 8
      ∧ ∀ (k : Nat) (x : ChainRequest), (s.fireStarting first).scanner.chains[k]? = some x →
          (x = .pending false false ∧ s.settings.FiresAtStart k ∧ k ≠ b) ∨ (x = .none ∧ ¬ (s.settings.FiresAtStart k ∧ k ≠ b)) := by
  obtain ⟨k₀, hk₀⟩ := hfires
  obtain ⟨b, l, hlist⟩ := List.exists_cons_of_ne_nil (List.ne_nil_of_mem (mem_startingPoints (first := first).mpr hk₀))
  have hmem (k : Nat) : s.settings.FiresAtStart k ↔ k = b ∨ k ∈ l := by
    rw [← mem_startingPoints (first := first), hlist, List.mem_cons]
  obtain ⟨head, hb⟩ := (hmem b).mpr (.inl rfl)
  have hnodup := startingPoints_nodup s.settings first
  rw [hlist, List.nodup_cons] at hnodup
  obtain ⟨hbl, hnodup⟩ := hnodup
  have hlt : b < 8 := hpoints ▸ (List.getElem?_eq_some_iff.mp hb).1
  have hhead : (pointAt s.settings b).head = some head := by
    unfold pointAt
    rw [List.getD_eq_getElem?_getD, hb]
    rfl
  have hset : ∀ b < 8, Scanner.reset.chains.set b .none = Scanner.reset.chains := by decide
  have hbegun : (s.firePoint b).scanner = { s.scanner with
      converter := .chain b head 0 0 false, input := (recordAt s.settings head).channel } := by
    unfold State.firePoint State.firesAtMark
    rw [hphase, hreset]
    simp only [ne_eq, not_true_eq_false, decide_false, Bool.and_false]
    obtain ⟨h | h, -⟩ | ⟨-, -, ⟨-, h⟩ | ⟨h, -⟩⟩ := fire_cases s.settings b false Scanner.reset
    · rw [Scanner.request, Scanner.reset, List.getD_eq_getElem?_getD, List.getElem?_replicate_of_lt hlt] at h
      contradiction
    · contradiction
    · have hpending : (Scanner.reset.chains.set b (.pending false false))[b]? = some (.pending false false) :=
        List.getElem?_set_self (by simpa [Scanner.reset] using hlt)
      rw [h, beginChain_of_pending s.settings { Scanner.reset with chains := Scanner.reset.chains.set b (.pending false false) } hpending hhead,
        List.set_set, hset b hlt]
      rfl
    · exact absurd rfl h
  have hframe : (s.firePoint b).settings = s.settings ∧ (s.firePoint b).clock = s.clock := ⟨rfl, rfl⟩
  have hall : (s.fireStarting first).scanner
      = { (s.firePoint b).scanner with chains := waitingAt l (s.firePoint b).scanner.chains } := by
    unfold State.fireStarting
    rw [hlist, List.foldl_cons]
    refine firePoints_behind (by rw [hframe.2, hphase]) (by rw [hbegun]; simp) (fun k hk => ?_) hnodup
    have hne : b ≠ k := fun h => hbl (h ▸ hk)
    rw [hbegun, hreset]
    refine ⟨?_, by simp [Scanner.serves, hne]⟩
    simp only [Scanner.request, Scanner.reset, List.getD_eq_getElem?_getD, List.getElem?_replicate]
    split <;> rfl
  refine ⟨b, head, hb, fun h => startingPoints_head hlist h, ?_, ?_, fun k x hx => ?_⟩
  · rw [hall, hbegun]
  · rw [hall]
    show (waitingAt l (s.firePoint b).scanner.chains).length = 8
    rw [waitingAt_length, hbegun, hreset]
    rfl
  · have hchains : (s.firePoint b).scanner.chains = Scanner.reset.chains := by rw [hbegun, hreset]
    rw [hall] at hx
    change (waitingAt l (s.firePoint b).scanner.chains)[k]? = some x at hx
    rw [hchains] at hx
    have hk : k < Scanner.reset.chains.length := by
      have hlength := (List.getElem?_eq_some_iff.mp hx).1
      rwa [waitingAt_length] at hlength
    rw [waitingAt_getElem? hk] at hx
    rw [hmem]
    have hkl : k ∈ l → k ≠ b := fun h h' => hbl (h' ▸ h)
    split at hx
    next h =>
      left
      exact ⟨(Option.some.inj hx).symm, .inr h, hkl h⟩
    next h =>
      right
      refine ⟨?_, by tauto⟩
      rw [Scanner.reset, List.getElem?_replicate_of_lt (by simpa [Scanner.reset] using hk)] at hx
      exact (Option.some.inj hx).symm

theorem fireStarting_of_none (first : Nat) (h : ∀ k, ¬ s.settings.FiresAtStart k) : s.fireStarting first = s := by
  have hnone : startingPoints s.settings first = [] :=
    List.eq_nil_iff_forall_not_mem.mpr fun k hk => h k (mem_startingPoints.mp hk)
  unfold State.fireStarting
  rw [hnone]
  rfl

/-! ## The blocks as STANDBY is entered -/

/-- R118: with no entry heard G is the node's own level. -/
theorem formAlarm_of_empty {p : PeerTable} (own level : Nat) (h : ∀ e ∈ p.entries, e.state = .empty) : p.formAlarm own level = level := by
  have hnone : p.countedPeers own = [] := by
    refine List.filter_eq_nil_iff.mpr fun e he => ?_
    simp [Peer.counted, h e he]
  unfold PeerTable.formAlarm
  rw [hnone]
  rfl

theorem putCracks_of_quiet (k : Cracks) (hmode : s.control.mode = .start) (hG : s.peers.groupAlarm = 0) (hlevel : s.cracks.level = 0)
    (hentries : ∀ e ∈ s.peers.entries, e.state = .empty) :
    (s.putCracks k).peers = { s.peers with groupAlarm := k.level } ∧ (s.putCracks k).line = { s.line with prompt := (s.putCracks k).line.prompt }
      := by
  obtain ⟨hsame, h⟩ | ⟨-, h⟩ := putCracks_cases k s <;> rw [h]
  · refine ⟨?_, rfl⟩
    rw [hsame, hlevel, ← hG]
  · have hform : s.peers.formAlarm s.settings.group k.level = k.level := formAlarm_of_empty _ _ hentries
    obtain ⟨-, -, -, -, hpeers, -⟩ := formAlarm_keeps { s with cracks := k, line := { s.line with prompt := true } }
    refine ⟨hpeers.trans ?_, ?_⟩
    · dsimp only
      rw [hform]
    · obtain h | h := formAlarm_of_start (s := { s with cracks := k, line := { s.line with prompt := true } }) hmode
      · rw [h]
      · rw [h]
        rfl

/-- R168, R169: the frame and the line as STANDBY is entered, before its BEAT. -/
structure State.EntersStandby (m : List Byte) (s u : State) : Prop where
  control : u.control = { Control.reset with mode := .standby, alarm := alarmPin u.cracks.level .standby }
  servo : u.servo = s.servo
  seq : u.seq = (s.retain (tagOf m)).seq
  peers : u.peers = { PeerTable.reset with groupAlarm := u.cracks.level }
  level : u.cracks.level = levelOf u.settings.sites u.cracks.sites
  sensorFault : u.cracks.sensorFault = sensorFaultOf u.settings.sites u.cracks.sites
  line : u.line = { LineUnit.reset.open (lineBitUs m) with prompt := true }
  startUp : u.startUp = { s.startUp with loader := .ended, tag := some (tagOf m) }

theorem readied_startUp (m : List Byte) (first : Nat) (s : State) :
    (s.readied m first).startUp = { s.startUp with loader := .ended, tag := some (tagOf m) } := by
  unfold State.readied
  rw [fireStarting_scanner_alone]
  obtain ⟨htag, h⟩ | ⟨-, h⟩ := retain_cases (tagOf m) s <;> rw [h]
  · show ({ s.startUp with loader := .ended } : StartUp) = _
    rw [← htag]
  · rfl

theorem startedUp_entersStandby (m : List Byte) (first : Nat) (h : s.AwaitsImage) : s.EntersStandby m (s.startedUp m first) := by
  obtain ⟨-, -, hcontrol, hline, -, -, hpeers, -, hservo, hseq, -, hlevel, -⟩ := h
  obtain ⟨hservo', hcontrol', hpeers', hsettings', hline', -, -, hseq', -, hcracks'⟩ := readied_spec m first s
  have hstartUp' := readied_startUp m first s
  have hmode : (s.readied m first).control.mode = .start := by
    rw [hcontrol', hcontrol]
    rfl
  have hquiet : (s.readied m first).cracks.level = 0 := by
    rw [hcracks']
    obtain ⟨-, h⟩ | ⟨-, h⟩ := retain_cases (tagOf m) s <;> rw [h]
    · exact hlevel
    · rfl
  have hretained : (s.readied m first).seq.softStep = none ∧ (s.readied m first).seq.envelope = 0 := by
    rw [hseq']
    obtain ⟨-, h⟩ | ⟨-, h⟩ := retain_cases (tagOf m) s <;> rw [h]
    · rw [hseq]
      exact ⟨rfl, rfl⟩
    · exact ⟨rfl, rfl⟩
  have hentries : ∀ e ∈ (s.readied m first).peers.entries, e.state = .empty := by
    rw [hpeers', hpeers]
    intro e he
    rw [List.eq_of_mem_replicate he]
    rfl
  have hG : (s.readied m first).peers.groupAlarm = 0 := by rw [hpeers', hpeers]; rfl
  rw [startedUp_eq]
  generalize s.readied m first = v at *
  obtain ⟨hputPeers, hputLine⟩ := putCracks_of_quiet v.formed hmode hG hquiet hentries
  obtain ⟨hputServo, hputSeq, hputControl⟩ := putCracks_of_start v.formed hmode
  have hputCracks := putCracks_cracks v.formed v
  have hputSettings := putCracks_settings v.formed v
  have hputStartUp := putCracks_startUp v.formed v
  generalize v.putCracks v.formed = w at *
  refine ⟨?_, ?_, ?_, ?_, ?_, ?_, ?_, ?_⟩
  · rw [State.enterMode_control, State.enterMode_cracks, hputControl, hcontrol', hcontrol, hputPeers, hputCracks]
    rfl
  · rw [State.enterMode_servo, hputServo, hservo', hservo]
    rfl
  · rw [State.enterMode_seq, hputSeq]
    obtain ⟨hsoft, henvelope⟩ := hretained
    show ({ v.seq with softStep := none, envelope := 0 } : Sequencer) = _
    rw [← hsoft, ← henvelope]
    exact hseq'
  · rw [State.enterMode_peers, State.enterMode_cracks, hputPeers, hputCracks, hpeers', hpeers]
  · rw [State.enterMode_cracks, State.enterMode_settings, hputCracks, hputSettings]
    rfl
  · rw [State.enterMode_cracks, State.enterMode_settings, hputCracks, hputSettings]
    rfl
  · rw [State.enterMode_line, hputLine, hline', hline]
  · rw [State.enterMode_startUp, hputStartUp, hstartUp']

/-! ## The two ends (O7) -/

theorem execImageReadComplete_of_good {image : List Byte} {p : Nat} (hreading : s.startUp.loader.isReading = true)
    (h : imageFault (imageOf image) = none) :
    exec (.imageReadComplete image p) s = .next (s.endStartUp (imageOf image) p).settle := by
  show Host.Outcome.next (if _ then _ else _) = _
  rw [if_pos hreading]
  dsimp only
  rw [h]

theorem reachStandby_eq (m : List Byte) (first : Nat) (s : State) : s.reachStandby m first = (s.startedUp m first).settle := rfl

/-- R156, R169: STANDBY with its BEAT. -/
theorem reachStandby_of_awaited (m : List Byte) (first : Nat) (h : s.AwaitsImage) :
    s.reachStandby m first = (s.startedUp m first).compose .prompt := by
  rw [reachStandby_eq, settle_of_caused]
  rw [(startedUp_entersStandby m first h).line]

/-- R24: the outcome of a good image, by the cutoff. -/
theorem endStartUp_of_awaited (m : List Byte) (first : Nat) (h : s.AwaitsImage) :
    (s.endStartUp m first).settle = if s.servo.cutoff then (((s.startedUp m first).compose .prompt).enterTrip .cutoff).compose .prompt
      else (s.startedUp m first).compose .prompt := by
  have henters := startedUp_entersStandby m first h
  have hservo := henters.servo
  have hcontrol := henters.control
  unfold State.endStartUp State.reportCutoff
  rw [reachStandby_of_awaited m first h]
  generalize s.startedUp m first = u at *
  obtain ⟨-, hcontrol', -, hservo'⟩ := compose_keeps .prompt u
  have hcutoff : (u.compose .prompt).servo.cutoff = s.servo.cutoff := by rw [hservo', hservo]
  rw [hcutoff]
  split
  · have htrip : (u.compose .prompt).trip .cutoff = (u.compose .prompt).enterTrip .cutoff := by
      unfold State.trip
      rw [hcontrol', hcontrol]
    rw [htrip]
    exact settle_of_caused rfl
  · exact settle_of_spent (compose_prompt _ _)

/-- R168, R169: what the end of start-up leaves, with the cutoff asserted or not: the records, the tables and the levels as STANDBY is
entered, the valve at rest, and one BEAT of the mode reached. -/
structure State.StartsUp (m : List Byte) (s u t : State) : Prop where
  mode : t.control.mode = if s.servo.cutoff then .tripped else .standby
  trip : t.control.trip = if s.servo.cutoff then .cutoff else .none
  qAcc : t.control.qAcc = 0
  release : t.control.release = none
  released : t.control.released = false
  alarm : t.control.alarm = true ↔ 2 ≤ u.cracks.level ∨ s.servo.cutoff = true
  servo : t.servo = s.servo
  seq : t.seq = (s.retain (tagOf m)).seq
  kept : u.RecordsKept t
  bitUs : t.line.bitUs = lineBitUs m
  active : t.line.line = .active
  transmitter : t.line.transmitter = .waitGap
  beat : t.line.beatSlot = some (t.shown .prompt false)

theorem endStartUp_startsUp (m : List Byte) (first : Nat) (h : s.AwaitsImage) :
    s.StartsUp m (s.startedUp m first) (s.endStartUp m first).settle := by
  have henters := startedUp_entersStandby m first h
  rw [endStartUp_of_awaited m first h]
  obtain ⟨-, -, -, -, -, -, -, -, hservo, hseq, -⟩ := h
  obtain ⟨hcontrol', hservo', hseq', hpeers', -, -, hline', -⟩ := henters
  generalize s.startedUp m first = u at *
  have hactive : u.line.line = .active := by rw [hline']; rfl
  have hclampS : s.servo.clampFlag = false := by rw [hservo]; rfl
  have hclampU : u.servo.clampFlag = false := by rw [hservo', hclampS]
  have hquiet (c : Cause) {v : State} (hv : v.servo = s.servo) (hl : v.line.line = .active) : (v.compose c).servo = s.servo := by
    obtain ⟨-, -, -, hkept⟩ := compose_keeps c v
    rw [hkept, hv, compose_clampFlag c hl, ← hclampS]
  obtain ⟨hkept, hcontrol, hseq'', -⟩ := compose_keeps .prompt u
  obtain ⟨hbeat, -, htransmitter, hline, -, hbits, -⟩ := compose_on_active .prompt hactive
  have hstandby := hquiet .prompt hservo' hactive
  have hidle : u.line.transmitter = .idle := by rw [hline']; rfl
  have hbitsU : u.line.bitUs = lineBitUs m := by rw [hline']; rfl
  rw [hclampU] at hbeat
  rw [hidle, if_pos rfl] at htransmitter
  split
  next hcutoff =>
    generalize u.compose .prompt = v at *
    have hactive' : (v.enterTrip .cutoff).line.line = .active := hline.trans hactive
    have hpeersKept := hkept
    obtain ⟨-, -, -, hcracksV, hpeersV, -⟩ := hpeersKept
    have hservoT : (v.enterTrip .cutoff).servo = s.servo := by
      show v.servo.enter .tripped = s.servo
      rw [hstandby, hservo]
      rfl
    have hcontrolT : (v.enterTrip .cutoff).control
        = { Control.reset with mode := .tripped, trip := .cutoff, alarm := alarmPin u.cracks.level .tripped } := by
      show ({ v.control.enter v.settings.lockstepTimeout v.peers.groupAlarm .tripped with trip := TripCode.cutoff } : Control) = _
      rw [hcontrol, hcontrol', hpeersV, hpeers']
      rfl
    have hseqT : (v.enterTrip .cutoff).seq = (s.retain (tagOf m)).seq := by
      show ({ v.seq with softStep := none, envelope := 0 } : Sequencer) = _
      rw [hseq'', hseq']
      obtain ⟨-, h⟩ | ⟨-, h⟩ := retain_cases (tagOf m) s <;> rw [h]
      · rw [hseq]
        rfl
      · rfl
    have hkeptT : u.RecordsKept (v.enterTrip .cutoff) := hkept
    have hwaits : (v.enterTrip .cutoff).line.transmitter = .waitGap := htransmitter
    have hbitsT : (v.enterTrip .cutoff).line.bitUs = lineBitUs m := hbits.trans hbitsU
    generalize v.enterTrip .cutoff = w at *
    obtain ⟨hkeptW, hcontrolW, hseqW, -⟩ := compose_keeps .prompt w
    obtain ⟨hbeatW, -, htransmitterW, hlineW, -, hbitsW, -⟩ := compose_on_active .prompt hactive'
    have hservoW := hquiet .prompt hservoT hactive'
    rw [hservoT, hclampS] at hbeatW
    rw [hwaits] at htransmitterW
    refine ⟨?_, ?_, ?_, ?_, ?_, ?_, hservoW, hseqW.trans hseqT, hkeptT.trans hkeptW, hbitsW.trans hbitsT, hlineW.trans hactive',
      htransmitterW, hbeatW⟩ <;> rw [hcontrolW, hcontrolT]
    · rw [hcutoff]
      rfl
    · rw [hcutoff]
      rfl
    · rfl
    · rfl
    · rfl
    · simp [alarmPin, hcutoff]
  next hcutoff =>
    refine ⟨?_, ?_, ?_, ?_, ?_, ?_, hstandby, hseq''.trans hseq', hkept, hbits.trans hbitsU, hline.trans hactive, htransmitter, hbeat⟩ <;>
      rw [hcontrol, hcontrol']
    · rw [if_neg hcutoff]
    · rw [if_neg hcutoff]
      rfl
    · rfl
    · rfl
    · rfl
    · simp [alarmPin, hcutoff]

theorem retain_recorder (tag : Half × Half) (s : State) :
    (s.retain tag).recorder = if s.startUp.tag = some tag then s.recorder else Recorder.cleared := by
  unfold State.retain
  split <;> rfl

theorem retain_sites (tag : Half × Half) (s : State) :
    (s.retain tag).cracks.sites = if s.startUp.tag = some tag then s.cracks.sites else Cracks.cleared.sites := by
  unfold State.retain
  split <;> rfl

theorem retain_seq (tag : Half × Half) (s : State) :
    (s.retain tag).seq = if s.startUp.tag = some tag then s.seq else Sequencer.reset := by
  unfold State.retain
  split <;> rfl

/-- Settles O7: the records by the tag, the blocks as STANDBY is entered, the first firings, and the BEAT of the mode reached. -/
theorem aGoodImageEndsInStandby : Obligations.AGoodImageEndsInStandby := by
  intro image p s hawaits hgood
  have ⟨hreading, _, _, _, _, hscannerS, _, _, hservo, _⟩ := hawaits
  have henters := startedUp_entersStandby (imageOf image) p hawaits
  have hstarts := endStartUp_startsUp (imageOf image) p hawaits
  have hends := endStartUp_of_awaited (imageOf image) p hawaits
  have hsettings := startedUp_settings (imageOf image) p s
  obtain ⟨hclock, hscanner, hrecorder, hsites, -⟩ := startedUp_tables (imageOf image) p s
  obtain ⟨hmode, htrip, hqAcc, hrelease, hreleased, halarm, hservoT, hseq, hkept, hbits, hactive, htransmitter, hbeat⟩ := hstarts
  obtain ⟨hclockT, hscannerT, hrecorderT, hcracksT, hpeersT, hstartUpT, hsettingsT, -⟩ := hkept
  have hreach := reachStandby_of_awaited (imageOf image) p hawaits
  have hfirings : State.readied (imageOf image) p s
      = (((s.retain (tagOf (imageOf image))).takeSettings (readSettings (imageOf image)) (lineBitUs (imageOf image)))).fireStarting p := rfl
  have hstarting : (s.retain (tagOf (imageOf image))).scanner = s.scanner := by
    obtain ⟨-, h⟩ | ⟨-, h⟩ := retain_cases (tagOf (imageOf image)) s <;> rw [h]
  rw [execImageReadComplete_of_good hreading hgood]
  generalize (s.endStartUp (imageOf image) p).settle = t at *
  have hsettingsT' := hsettingsT.trans hsettings
  have hlevel : t.cracks.level = levelOf t.settings.sites t.cracks.sites := by rw [hcracksT, hsettingsT]; exact henters.level
  have hG : t.peers.groupAlarm = t.cracks.level := by rw [hpeersT, hcracksT, henters.peers]
  refine ⟨t, rfl, hmode, htrip, hqAcc, hrelease, hreleased, hsettingsT', hstartUpT.trans henters.startUp, ?_, ?_, ?_, hlevel, hG, ?_, ?_, ?_,
    ?_, ?_, ?_, ?_, ?_, ?_, fun k point hk => ?_, ⟨fun hnone => ?_, fun hfires => ?_⟩, hbits.trans (lineBitUs_of_good hgood), ?_, ?_, ?_,
    hactive, htransmitter, ?_, _, hbeat, rfl, rfl, rfl, rfl, rfl, hG⟩
  · rw [hrecorderT, hrecorder, retain_recorder]
  · rw [hcracksT, hsites, retain_sites]
  · rw [hseq, retain_seq]
  · rw [hcracksT, hsettingsT]
    exact henters.sensorFault
  · rw [hcracksT]
    exact halarm
  · rw [hclockT, hclock]
    rfl
  · rw [hclockT, hclock, hsettingsT']
    rfl
  · rw [hclockT, hclock, hsettingsT']
    rfl
  · rw [hclockT, hclock]
    rfl
  · rw [hclockT, hclock]
    rfl
  · rw [hclockT, hclock]
    rfl
  · rw [hclockT, hclock]
    simp [Clock.started, scanTimes, readSettings]
  · rw [hsettingsT'] at hk ⊢
    rw [hclockT, hclock]
    show ((readSettings (imageOf image)).points.map (ScanPoint.time (readSettings (imageOf image)).defaultPeriod))[k]? = _
    rw [List.getElem?_map, hk]
    rfl
  · rw [hsettingsT'] at hnone
    rw [hscannerT, hscanner, hfirings, fireStarting_of_none]
    · exact hstarting
    · exact hnone
  · rw [hsettingsT'] at hfires
    obtain ⟨b, head, hb, hfirst, hserves, hlength, hchains⟩ := fireStarting_of_reset (s := (s.retain (tagOf (imageOf image))).takeSettings
      (readSettings (imageOf image)) (lineBitUs (imageOf image))) p rfl (hstarting.trans hscannerS) (by simp [State.takeSettings, readSettings]) hfires
    rw [← hfirings] at hserves hlength hchains
    rw [hsettingsT', hscannerT, hscanner]
    refine ⟨b, head, hb, hfirst, ?_, hlength, hchains⟩
    rw [← hstarting]
    exact hserves
  · rw [hservoT, hservo]
    rfl
  · rw [hservoT, hservo]
    rfl
  · rw [hservoT, hservo]
    rfl
  · have hline := henters.line
    have hservoU := henters.servo
    have hcontrolU := henters.control
    rw [hreach]
    generalize s.startedUp (imageOf image) p = u at *
    obtain ⟨hbeatU, -⟩ := compose_on_active .prompt (s := u) (by rw [hline]; rfl)
    obtain ⟨-, hcontrol, -⟩ := compose_keeps .prompt u
    have hclamp : u.servo.clampFlag = false := by rw [hservoU, hservo]; rfl
    rw [hclamp] at hbeatU
    refine ⟨_, hbeatU, rfl, rfl, ?_, fun hopen => ?_⟩
    · show (u.compose .prompt).control.mode = .standby
      rw [hcontrol, hcontrolU]
    · rw [hends, hopen]
      exact hbeatU

end Sys2Proof.Machine
end

section
/-! O10, O11, O12, O14 and O19: the load servo in a tick, the lockstep bound, and the valve pins. -/

namespace Sys2Proof.Machine

variable {s t u : State}

/-! ## The load servo beside the other blocks of a tick -/

theorem Servo.enter_of_engaged {m : Mode} (h : m.engaged = true) (v : Servo) : v.enter m = v := by
  cases m <;> simp_all [Mode.engaged, Servo.enter]

/-- R23, R24: a change to an engaged mode touches the servo under an asserted cutoff alone, and then releases it. -/
theorem changeMode_servo_of_engaged {m : Mode} (h : m.engaged = true) (s : State) :
    (s.changeMode m).servo = s.servo ∨ (s.servo.cutoff = true ∧ (s.changeMode m).servo = s.servo.enter .tripped) := by
  obtain h' | ⟨hcutoff, -, h'⟩ := changeMode_cases m s <;> rw [h']
  · exact .inl (Servo.enter_of_engaged h s.servo)
  · refine .inr ⟨hcutoff, ?_⟩
    rw [State.enterTrip_servo, State.enterMode_servo, Servo.enter_of_engaged h]

/-- The servo stands as it was, or an asserted cutoff has released it. -/
def State.LeavesServo (s t : State) : Prop :=
  t.servo = s.servo ∨ (s.servo.cutoff = true ∧ t.servo = s.servo.enter .tripped)

theorem State.LeavesServo.refl (s : State) : s.LeavesServo s := .inl rfl

theorem State.LeavesServo.trans (h : s.LeavesServo t) (k : t.LeavesServo u) : s.LeavesServo u := by
  obtain h | ⟨hcutoff, h⟩ := h
  · rwa [State.LeavesServo, h] at k
  · refine .inr ⟨hcutoff, ?_⟩
    obtain k | ⟨-, k⟩ := k <;> rw [k, h]
    rfl

theorem State.LeavesServo.of_open (h : s.LeavesServo t) (hopen : s.servo.cutoff = false) : t.servo = s.servo :=
  h.resolve_right fun k => by rw [hopen] at k; exact Bool.false_ne_true k.1

theorem fractionTick_leavesServo (s : State) : s.LeavesServo s.fractionTick := by
  by_cases hd : s.control.mode = .descent
  · rw [fractionTick_of_descent hd]
    split
    · exact changeMode_servo_of_engaged rfl (s.putQ s.descended)
    · exact .inl rfl
  by_cases ha : s.control.mode = .ascent
  · rw [fractionTick_of_ascent ha]
    split
    · exact changeMode_servo_of_engaged rfl (s.putQ s.ascended)
    · exact .inl rfl
  rw [fractionTick_of_other hd ha]
  exact .refl s

theorem withSequencer_leavesServo (r : Sequencer × Bool) (s : State) : s.LeavesServo (s.withSequencer r) := by
  unfold State.withSequencer
  split
  · obtain ⟨-, h⟩ | ⟨-, h⟩ := holdRequest_cases { s with seq := r.1 } <;> rw [h]
    · exact changeMode_servo_of_engaged (m := .hold) rfl { s with seq := r.1 }
    · exact .inl rfl
  · exact .inl rfl

/-- R3: the load servo alone works on the servo in a tick. -/
theorem blockTick_leavesServo (rawL rawD : Half) {b : TickBlock} (hb : b ≠ .servo) (s : State) :
    s.LeavesServo (s.blockTick rawL rawD b) := by
  cases b with
  | servo => exact absurd rfl hb
  | control => exact fractionTick_leavesServo s
  | sequencer => exact withSequencer_leavesServo _ s
  | recorder => exact .inl rfl

theorem allBlocks_leavesServo {l : List TickBlock} (hl : .servo ∉ l) (rawL rawD : Half) (s : State) :
    s.LeavesServo (s.allBlocks l rawL rawD) := by
  induction l generalizing s with
  | nil => exact .refl s
  | cons b l ih =>
    have ⟨hb, hl⟩ := List.ne_and_not_mem_of_not_mem_cons hl
    exact (blockTick_leavesServo rawL rawD (Ne.symm hb) s).trans (ih hl _)

theorem allBlocks_append (l₁ l₂ : List TickBlock) (rawL rawD : Half) (s : State) :
    s.allBlocks (l₁ ++ l₂) rawL rawD = (s.allBlocks l₁ rawL rawD).allBlocks l₂ rawL rawD := List.foldl_append ..

/-- R4: each block takes a tick once. -/
theorem tickOrder_split (order : Nat) (b : TickBlock) : ∃ l₁ l₂, tickOrder order = l₁ ++ b :: l₂ ∧ b ∉ l₁ ∧ b ∉ l₂ := by
  obtain ⟨l₁, l₂, h⟩ := List.append_of_mem (mem_tickOrder order b)
  have hnodup : (tickOrder order).Nodup := (tickOrder_perm order).nodup_iff.mpr (by decide)
  rw [h] at hnodup
  obtain ⟨-, hcons, hdisjoint⟩ := List.nodup_append.mp hnodup
  exact ⟨l₁, l₂, h, fun hb => hdisjoint b hb b List.mem_cons_self rfl, (List.nodup_cons.mp hcons).1⟩

/-- R4: the orders in which the load servo comes first. -/
theorem tickOrder_of_servo_first {order : Nat} (h : order % 4 = 0) : ∃ l, tickOrder order = .servo :: l ∧ .servo ∉ l := by
  obtain ⟨l, hl⟩ := tickOrder_servo_first order h
  have hnodup : (tickOrder order).Nodup := (tickOrder_perm order).nodup_iff.mpr (by decide)
  rw [hl] at hnodup
  exact ⟨l, hl, (List.nodup_cons.mp hnodup).1⟩

theorem blockTick_keepsButSteady (rawL rawD : Half) (s : State) (b : TickBlock) :
    ∃ steady, State.RecordsKept { s with recorder := { s.recorder with steady := steady } } (s.blockTick rawL rawD b) := by
  cases b with
  | servo => exact ⟨s.recorder.steady, loadTick_keeps rawL rawD s⟩
  | control => exact ⟨s.recorder.steady, fractionTick_keeps s⟩
  | sequencer => exact ⟨s.recorder.steady, sequenceTick_keeps s⟩
  | recorder => exact ⟨_, .refl s.steadyTick⟩

/-- R3: a tick works on no record but the steady flag. -/
theorem allBlocks_keepsButSteady (l : List TickBlock) (rawL rawD : Half) (s : State) :
    ∃ steady, State.RecordsKept { s with recorder := { s.recorder with steady := steady } } (s.allBlocks l rawL rawD) := by
  induction l generalizing s with
  | nil => exact ⟨s.recorder.steady, .refl s⟩
  | cons b l ih =>
    obtain ⟨_, hclock, hscanner, hrecorder, hcracks, hpeers, hstart, hsettings, hnow, hpending⟩ := blockTick_keepsButSteady rawL rawD s b
    obtain ⟨steady, hclock', hscanner', hrecorder', hcracks', hpeers', hstart', hsettings', hnow', hpending'⟩ := ih (s.blockTick rawL rawD b)
    refine ⟨steady, hclock'.trans hclock, hscanner'.trans hscanner, hrecorder'.trans ?_, hcracks'.trans hcracks, hpeers'.trans hpeers,
      hstart'.trans hstart, hsettings'.trans hsettings, hnow'.trans hnow, hpending'.trans hpending⟩
    rw [hrecorder]

/-! ## Engaged modes in a tick -/

theorem changeMode_engaged_of_open {m : Mode} (hopen : s.servo.cutoff = false) : (s.changeMode m).control.mode = m := by
  rw [changeMode_of_open m hopen, State.enterMode_control]
  rfl

/-- R130, R138: but for a trip no block moves the frame into or out of the engaged modes. -/
theorem blockTick_engaged (rawL rawD : Half) {b : TickBlock} (hb : b ≠ .servo) (hopen : s.servo.cutoff = false) :
    (s.blockTick rawL rawD b).control.mode.engaged = s.control.mode.engaged := by
  cases b with
  | servo => exact absurd rfl hb
  | control =>
    show s.fractionTick.control.mode.engaged = _
    by_cases hd : s.control.mode = .descent
    · rw [fractionTick_of_descent hd, hd]
      split
      · rw [changeMode_engaged_of_open (s := s.putQ s.descended) hopen]
        rfl
      · rw [State.putQ_control, hd]
    by_cases ha : s.control.mode = .ascent
    · rw [fractionTick_of_ascent ha, ha]
      split
      · rw [changeMode_engaged_of_open (s := s.putQ s.ascended) hopen]
        rfl
      · rw [State.putQ_control, ha]
    rw [fractionTick_of_other hd ha]
  | sequencer =>
    show s.sequenceTick.control.mode.engaged = _
    by_cases hm : s.control.mode = .run
    · obtain ⟨-, -, h⟩ | ⟨-, h⟩ := sequenceTick_control_of_run hm hopen <;> rw [h]
      rw [hm]
      rfl
    · rw [sequenceTick_control_of_not_run hm]
  | recorder => rfl

theorem allBlocks_engaged {l : List TickBlock} (hl : .servo ∉ l) (rawL rawD : Half) (hopen : s.servo.cutoff = false) :
    (s.allBlocks l rawL rawD).control.mode.engaged = s.control.mode.engaged := by
  induction l generalizing s with
  | nil => rfl
  | cons b l ih =>
    have ⟨hb, hl⟩ := List.ne_and_not_mem_of_not_mem_cons hl
    have hservo := (blockTick_leavesServo rawL rawD (Ne.symm hb) s).of_open hopen
    exact (ih hl (by rw [hservo, hopen])).trans (blockTick_engaged rawL rawD (Ne.symm hb) hopen)

/-- R3, R139: a frame that is not engaged is moved by no block. -/
theorem blockTick_control_of_not_engaged (rawL rawD : Half) (b : TickBlock) (h : s.control.mode.engaged = false) :
    (s.blockTick rawL rawD b).control = s.control := by
  have hne (m : Mode) (hm : m.engaged = true) : s.control.mode ≠ m := by
    rintro rfl
    rw [h] at hm
    exact Bool.false_ne_true hm
  cases b with
  | servo =>
    show (s.loadTick rawL rawD).control = _
    obtain ⟨-, h'⟩ | ⟨-, h'⟩ | ⟨he, -⟩ := loadTick_cases rawL rawD s
    · rw [h']
    · rw [h']
    · rw [h] at he
      exact absurd he Bool.false_ne_true
  | control => exact congrArg State.control (fractionTick_of_other (hne .descent rfl) (hne .ascent rfl))
  | sequencer => exact sequenceTick_control_of_not_run (hne .run rfl)
  | recorder => rfl

theorem allBlocks_control_of_not_engaged (l : List TickBlock) (rawL rawD : Half) (h : s.control.mode.engaged = false) :
    (s.allBlocks l rawL rawD).control = s.control := by
  induction l generalizing s with
  | nil => rfl
  | cons b l ih =>
    have hb := blockTick_control_of_not_engaged rawL rawD b h
    exact (ih (by rw [hb, h])).trans hb

/-! ## What the load servo leaves (O12) -/

theorem State.commandClamped_mem (h : s.settings.loadMin ≤ s.settings.loadMax) :
    s.settings.loadMin ≤ s.commandClamped ∧ s.commandClamped ≤ s.settings.loadMax := clamp_mem h _

/-- R13: an engaged tick uses the command it forms. -/
theorem loadTick_command_of_engaged (rawL rawD : Half) (h : s.control.mode.engaged = true) :
    (s.loadTick rawL rawD).servo.command = s.commandClamped := by
  obtain ⟨hstopped, -⟩ | ⟨hrest, -⟩ | ⟨-, h'⟩ := loadTick_cases rawL rawD s
  · exact absurd (running_of_engaged h) (by simp [hstopped])
  · obtain hrest | hrest := hrest <;> · rw [hrest] at h; exact absurd h Bool.false_ne_true
  · rw [h']
    obtain ⟨cause, -, h'⟩ | ⟨-, h'⟩ := engagedTick_cases rawL rawD s h <;> rw [h'] <;> rfl

theorem loadTick_of_not_engaged (rawL rawD : Half) (h : s.control.mode.engaged = false) :
    (s.loadTick rawL rawD).servo.command = s.servo.command ∧ (s.loadTick rawL rawD).servo.buffer = s.servo.buffer := by
  obtain ⟨-, h'⟩ | ⟨-, h'⟩ | ⟨he, -⟩ := loadTick_cases rawL rawD s
  · rw [h']; exact ⟨rfl, rfl⟩
  · rw [h']; exact ⟨rfl, rfl⟩
  · rw [h] at he
    exact absurd he Bool.false_ne_true

/-- R17, R19: the duty stands for a drive within −Umax..Umax, or the valve is released. -/
theorem loadTick_buffer_of_engaged (rawL rawD : Half) (h : s.control.mode.engaged = true) (humax : s.settings.umax ≤ 2047) :
    (s.loadTick rawL rawD).servo.buffer = .idle
      ∨ ∃ d, (s.loadTick rawL rawD).servo.buffer = .drive d ∧ 2048 ≤ d + s.settings.umax ∧ d ≤ 2048 + s.settings.umax := by
  obtain ⟨hstopped, -⟩ | ⟨hrest, -⟩ | ⟨-, h'⟩ := loadTick_cases rawL rawD s
  · exact absurd (running_of_engaged h) (by simp [hstopped])
  · obtain hrest | hrest := hrest <;> · rw [hrest] at h; exact absurd h Bool.false_ne_true
  · rw [h']
    obtain ⟨cause, -, h'⟩ | ⟨-, h'⟩ := engagedTick_cases rawL rawD s h <;> rw [h']
    · exact .inl rfl
    · obtain ⟨hlow, hhigh⟩ := valveDrive_mem s.settings ((s.measured rawL rawD).command - (s.measured rawL rawD).load)
        (integratorAfter s.settings ((s.measured rawL rawD).command - (s.measured rawL rawD).load) (s.measured rawL rawD).integ)
      exact .inr ⟨_, rfl, dutyOf_mem s.settings.inverted hlow hhigh humax⟩

/-- The end of the tick leaves the servo but for the clamp flag. -/
theorem noteMove_settle_servo (s : State) : s.servo.Kept s.noteMove.settle.servo := by
  obtain ⟨-, -, -, hservo⟩ := settle_keeps s.noteMove
  obtain ⟨-, h⟩ | ⟨-, h⟩ := noteMove_cases s <;> rwa [h] at hservo ⊢

theorem State.LeavesServo.command (h : s.LeavesServo t) : t.servo.command = s.servo.command := by
  obtain h | ⟨-, h⟩ := h <;> rw [h]
  rfl

theorem State.LeavesServo.buffer (h : s.LeavesServo t) : t.servo.buffer = s.servo.buffer ∨ t.servo.buffer = .idle := by
  obtain h | ⟨-, h⟩ := h <;> rw [h]
  · exact .inl rfl
  · exact .inr rfl

/-- Settles O12: the blocks before and after the load servo leave the command, and leave the buffer or release it. -/
theorem everyTickKeepsTheServoLaws : Obligations.EveryTickKeepsTheServoLaws := by
  intro order rawL rawD s t hle humax hexec
  obtain ⟨l₁, l₂, horder, h₁, h₂⟩ := tickOrder_split order .servo
  rw [execServoTick_eq, horder, allBlocks_append, allBlocks_cons] at hexec
  cases hexec
  have hbefore := allBlocks_leavesServo h₁ rawL rawD s
  have hsettings := (allBlocks_tickMoves l₁ rawL rawD s).settings
  have hopened (hopen : s.servo.cutoff = false) := allBlocks_engaged (s := s) h₁ rawL rawD hopen
  have hrests (h : s.control.mode.engaged = false) := allBlocks_control_of_not_engaged (s := s) l₁ rawL rawD h
  generalize s.allBlocks l₁ rawL rawD = u at hbefore hsettings hopened hrests ⊢
  have hafter := allBlocks_leavesServo h₂ rawL rawD (u.blockTick rawL rawD .servo)
  have hcommand := (noteMove_settle_servo ((u.blockTick rawL rawD .servo).allBlocks l₂ rawL rawD))
  generalize (u.blockTick rawL rawD .servo).allBlocks l₂ rawL rawD = v at hafter hcommand ⊢
  unfold Servo.Kept at hcommand
  rw [hcommand]
  show _ ∧ (_ → v.servo.command = _) ∧ (v.servo.command = _ ∨ _) ∧ (v.servo.buffer = _ ∨ v.servo.buffer = _ ∨ _)
  rw [hafter.command]
  have hmem (he : u.control.mode.engaged = true) : s.settings.loadMin ≤ (u.loadTick rawL rawD).servo.command
      ∧ (u.loadTick rawL rawD).servo.command ≤ s.settings.loadMax := by
    rw [loadTick_command_of_engaged rawL rawD he, ← hsettings]
    exact u.commandClamped_mem (by rwa [hsettings])
  have hstays (he : u.control.mode.engaged = false) : (u.loadTick rawL rawD).servo.command = s.servo.command :=
    (loadTick_of_not_engaged rawL rawD he).1.trans hbefore.command
  refine ⟨fun he hopen => hmem (by rw [hopened hopen, he]), fun he => hstays (by rw [hrests he, he]), ?_, ?_⟩
  · cases he : u.control.mode.engaged
    · exact .inl (hstays he)
    · exact .inr (hmem he)
  · obtain hbuffer | hbuffer := hafter.buffer
    · have hload : u.blockTick rawL rawD .servo = u.loadTick rawL rawD := rfl
      rw [hbuffer, hload]
      cases he : u.control.mode.engaged
      · rw [(loadTick_of_not_engaged rawL rawD he).2]
        exact hbefore.buffer.imp_right .inl
      · rw [← hsettings] at humax ⊢
        exact .inr (loadTick_buffer_of_engaged rawL rawD he humax)
    · exact .inr (.inl hbuffer)

end Sys2Proof.Machine
end

section
/-! O14, O10, O11 and O19: the lockstep bound, the engaged tick, and the valve pins. -/

namespace Sys2Proof.Machine

variable {s t u : State}

/-! ## The lockstep bound (O14) -/

/-- R122: what a counted engaged entry offers is among the offers. -/
theorem offer_mem {p : PeerTable} {own : Nat} {e : Peer} (he : e ∈ p.entries) (hcounted : e.counted own = true)
    (hengaged : e.mode.engaged = true) : e.offer ∈ p.offers own :=
  List.mem_map_of_mem (List.mem_filter.mpr ⟨List.mem_filter.mpr ⟨he, hcounted⟩, hengaged⟩)

theorem le_largestOffer {p : PeerTable} {own n : Nat} (h : n ∈ p.offers own) : ∃ m, p.largestOffer own = some m ∧ n ≤ m := by
  cases hmax : p.largestOffer own with
  | none =>
    rw [PeerTable.largestOffer, List.max?_eq_none_iff] at hmax
    rw [hmax] at h
    exact absurd h List.not_mem_nil
  | some m => exact ⟨m, rfl, (List.max?_eq_some_iff.mp hmax).2 n h⟩

theorem smallestOffer_le {p : PeerTable} {own n : Nat} (h : n ∈ p.offers own) : ∃ m, p.smallestOffer own = some m ∧ m ≤ n := by
  cases hmin : p.smallestOffer own with
  | none =>
    rw [PeerTable.smallestOffer, List.min?_eq_none_iff] at hmin
    rw [hmin] at h
    exact absurd h List.not_mem_nil
  | some m => exact ⟨m, rfl, (List.min?_eq_some_iff.mp hmin).2 n h⟩

theorem Peer.offer_eq (e : Peer) :
    e.offer = if e.mode = .run ∨ e.mode = .hold then 1024 else if e.mode = .parked then 0 else e.q := by
  unfold Peer.offer
  cases e.mode <;> rfl

theorem peer_counted_iff {own : Nat} {e : Peer} :
    e.counted own = true ↔ (e.state = .fresh ∨ e.state = .stale) ∧ e.group = own ∧ own ≠ 0 := by
  simp [Peer.counted, and_assoc]

/-- The mode controller's outcome of a tick that completes. -/
theorem servoTick_outcome {order : Nat} {rawL rawD : Half} (h : exec (.servoTick order rawL rawD) s = .next t) :
    s.TickOutcome order t.control := by
  cases h
  rw [noteMove_settle_control]
  exact allBlocks_control_cases order rawL rawD s

/-- R128: the fraction of DESCENT stops at the band below the largest offer. -/
theorem descended_offer {n : Nat} (hreleased : s.control.released = false) (h : n ∈ s.peers.offers s.settings.group) :
    s.descended = s.control.qAcc ∨ (n - s.settings.band) * 4000 ≤ s.descended := by
  obtain ⟨m, hmax, hle⟩ := le_largestOffer h
  have hband : (n - s.settings.band) * 4000 ≤ (m - s.settings.band) * 4000 := by omega
  rw [State.descended, hreleased, hmax, descentStep_eq, lockstepFloor_eq]
  simp only [Bool.false_eq_true, if_false]
  split <;> omega

/-- R128: the fraction of ASCENT stops at the band above the smallest offer. -/
theorem ascended_offer {n : Nat} (hreleased : s.control.released = false) (h : n ∈ s.peers.offers s.settings.group) :
    s.ascended = s.control.qAcc ∨ s.ascended ≤ (n + s.settings.band) * 4000 := by
  obtain ⟨m, hmin, hle⟩ := smallestOffer_le h
  have hband : (m + s.settings.band) * 4000 ≤ (n + s.settings.band) * 4000 := by omega
  rw [State.ascended, hreleased, hmin, ascentStep_eq, lockstepCeiling_eq]
  simp only [Bool.false_eq_true, if_false]
  split <;> omega

/-- Settles O14: the tick's outcome at the mode controller, against the bound that the offers give. -/
theorem ticksKeepTheLockstepBound : Obligations.TicksKeepTheLockstepBound := by
  intro order rawL rawD s t e hopen hq he hstate hgroup hown hengaged hexec htrip offered before after
  have hoffer : offered ∈ s.peers.offers s.settings.group := by
    show (if _ then _ else _) ∈ _
    rw [← Peer.offer_eq]
    exact offer_mem he (peer_counted_iff.mpr ⟨hstate, hgroup, hown⟩) hengaged
  have houtcome := servoTick_outcome hexec
  generalize offered = n at hoffer ⊢
  have hbefore : before = s.control.qAcc / 4000 := rfl
  have hafter : after = t.control.qAcc / 4000 := rfl
  constructor
  · intro hm
    have hdescent := (houtcome.of_descent hopen hm).resolve_left htrip
    have hle := descended_le s
    have hbound (hreleased : s.control.released = false) := descended_offer hreleased hoffer
    split at hdescent
    · obtain ⟨-, hzero⟩ := hdescent
      refine ⟨by omega, fun hreleased => ?_⟩
      obtain hsame | hbound := hbound hreleased <;> omega
    · obtain ⟨-, hstep⟩ := hdescent
      refine ⟨by omega, fun hreleased => ?_⟩
      obtain hsame | hbound := hbound hreleased <;> omega
  · intro hm
    have hascent := (houtcome.of_ascent hopen hm).resolve_left htrip
    have hle : s.control.qAcc ≤ s.ascended := (ascentStep_spec _ _ _).1
    have hbound (hreleased : s.control.released = false) := ascended_offer hreleased hoffer
    split at hascent
    · obtain ⟨hfull, -⟩ := hascent
      refine ⟨by omega, fun hreleased => ?_⟩
      obtain hsame | hbound := hbound hreleased <;> omega
    · obtain ⟨-, hstep⟩ := hascent
      refine ⟨by omega, fun hreleased => ?_⟩
      obtain hsame | hbound := hbound hreleased <;> omega

/-! ## The engaged tick (O10, O11) -/

/-- R13: the command between the load limits. -/
theorem commandClamped_eq (h : s.settings.loadMin ≤ s.settings.loadMax) :
    s.commandClamped = max s.settings.loadMin (min s.settings.loadMax s.commandRaw) := clamp_eq_max_min h _

/-- R6, R13, R14, R26: the measurement in the words of the rules. -/
theorem measured_eq (rawL rawD : Half) (h : s.settings.loadMin ≤ s.settings.loadMax) :
    let command := max s.settings.loadMin (min s.settings.loadMax s.commandRaw)
    let load := max (-32768) (min 32767 (Int.tdiv ((rawL.toInt - s.settings.zeroLoad) * s.settings.gainLoad) 4096))
    s.measured rawL rawD = { s.servo with
      load := load
      disp := max (-32768) (min 32767 (Int.tdiv ((rawD.toInt - s.settings.zeroDisp) * s.settings.gainDisp) 4096))
      command := command
      clampFlag := s.servo.clampFlag || decide (command ≠ s.commandRaw)
      tracking := if s.settings.errLimit < (command - load).natAbs then s.servo.tracking + 1 else 0 } := by
  simp only [← reduceCode_eq, ← commandClamped_eq h]
  rfl

/-- R16: the integrator keeps its value where the drive is saturated in the direction of the error. -/
theorem integratorAfter_eq (c : Settings) (e acc : Int) :
    integratorAfter c e acc =
      if c.umax < (Int.tdiv (c.kp * e) 256 + Int.tdiv (acc + c.ki * e) 256).natAbs ∧ e ≠ 0
          ∧ (0 < e ↔ 0 < Int.tdiv (c.kp * e) 256 + Int.tdiv (acc + c.ki * e) 256) then acc
      else max (-((c.imax : Int) * 256)) (min ((c.imax : Int) * 256) (acc + c.ki * e)) := by
  have hclamp : clamp (-((c.imax * 256 : Nat) : Int)) ((c.imax * 256 : Nat) : Int) (acc + c.ki * e)
      = max (-((c.imax : Int) * 256)) (min ((c.imax : Int) * 256) (acc + c.ki * e)) := by
    rw [clamp_eq_max_min (by omega)]
    push_cast
    rfl
  unfold integratorAfter
  dsimp only
  rw [hclamp, proportional, divZ, divZ]
  generalize Int.tdiv (c.kp * e) 256 + Int.tdiv (acc + c.ki * e) 256 = cand
  refine if_congr ?_ rfl rfl
  omega

/-- R15 to R19: the drive in the words of the rules. -/
theorem drive_eq (c : Settings) (v : Servo) :
    let e := v.command - v.load
    let integ := integratorAfter c e v.integ
    let drive := max (-(c.umax : Int)) (min c.umax (Int.tdiv (c.kp * e) 256 + Int.tdiv integ 256))
    v.drive c = { v with integ := integ, buffer := .drive (if c.inverted then 2048 - drive else 2048 + drive).toNat } := by
  intro e integ drive
  have hdrive : valveDrive c e integ = drive := clamp_eq_max_min (by omega) _
  rw [← hdrive]
  rfl

/-- R27: the first cause of the checks that fail. -/
theorem failedCheck_of_cause {c : Settings} {load disp : Int} {n : Nat} {cause : TripCode}
    (h : ((load < c.tripMin ∨ c.tripMax < load) ∧ cause = .overload)
      ∨ (¬ (load < c.tripMin ∨ c.tripMax < load) ∧ (disp < c.dispMin ∨ c.dispMax < disp) ∧ cause = .dispLimit)
      ∨ (¬ (load < c.tripMin ∨ c.tripMax < load) ∧ ¬ (disp < c.dispMin ∨ c.dispMax < disp) ∧ max 1 c.errTicks ≤ n ∧ cause = .tracking)) :
    failedCheck c load disp n = some cause := by
  unfold failedCheck
  obtain ⟨hload, rfl⟩ | ⟨hload, hdisp, rfl⟩ | ⟨hload, hdisp, hcount, rfl⟩ := h
  · rw [if_pos hload]
  · rw [if_neg hload, if_pos hdisp]
  · rw [if_neg hload, if_neg hdisp, if_pos hcount]

theorem failedCheck_eq_none {c : Settings} {load disp : Int} {n : Nat} (h₁ : c.tripMin ≤ load) (h₂ : load ≤ c.tripMax)
    (h₃ : c.dispMin ≤ disp) (h₄ : disp ≤ c.dispMax) (h₅ : n < max 1 c.errTicks) : failedCheck c load disp n = none := by
  unfold failedCheck
  rw [if_neg (by omega), if_neg (by omega), if_neg (by omega)]

/-- R27: the load servo's tick with a failed check, and without one. -/
theorem loadTick_of_failed {rawL rawD : Half} {cause : TripCode} (he : s.control.mode.engaged = true)
    (h : failedCheck s.settings (s.measured rawL rawD).load (s.measured rawL rawD).disp (s.measured rawL rawD).tracking = some cause) :
    s.loadTick rawL rawD = State.enterTrip cause { s with servo := (s.measured rawL rawD).release } := by
  obtain ⟨hstopped, -⟩ | ⟨hrest, -⟩ | ⟨-, h'⟩ := loadTick_cases rawL rawD s
  · exact absurd (running_of_engaged he) (by simp [hstopped])
  · obtain hrest | hrest := hrest <;> · rw [hrest] at he; exact absurd he Bool.false_ne_true
  · obtain ⟨cause', hcause, h''⟩ | ⟨hnone, -⟩ := engagedTick_cases rawL rawD s he
    · rw [h] at hcause
      rw [h', h'', Option.some.inj hcause]
    · rw [h] at hnone
      exact absurd hnone (Option.some_ne_none _)

theorem loadTick_of_passed {rawL rawD : Half} (he : s.control.mode.engaged = true)
    (h : failedCheck s.settings (s.measured rawL rawD).load (s.measured rawL rawD).disp (s.measured rawL rawD).tracking = none) :
    s.loadTick rawL rawD = { s with servo := (s.measured rawL rawD).drive s.settings } := by
  obtain ⟨hstopped, -⟩ | ⟨hrest, -⟩ | ⟨-, h'⟩ := loadTick_cases rawL rawD s
  · exact absurd (running_of_engaged he) (by simp [hstopped])
  · obtain hrest | hrest := hrest <;> · rw [hrest] at he; exact absurd he Bool.false_ne_true
  · obtain ⟨cause', hcause, -⟩ | ⟨-, h''⟩ := engagedTick_cases rawL rawD s he
    · rw [h] at hcause
      exact absurd hcause.symm (Option.some_ne_none _)
    · rw [h', h'']

/-- The end of an event with a PROMPT cause. -/
theorem settle_of_prompt (h : s.line.prompt = true) : s.settle = s.compose .prompt := if_pos h

/-- R14, R156: what an event with a PROMPT cause reports at its end. -/
theorem settle_reportsWith (h : u.line = { s.line with prompt := true }) : s.ReportsWith .prompt u.servo.clampFlag u.settle := by
  rw [settle_of_prompt (by rw [h])]
  refine compose_reportsWith .prompt s u ?_ ?_ ?_ ?_ ?_ <;> rw [h]
  exact ⟨rfl, rfl, rfl, rfl, rfl, rfl, rfl, rfl, rfl⟩

/-- A BEAT that reports shows the state that it leaves. -/
theorem State.ReportsWith.beat {cause : Cause} {clamped : Bool} (h : s.ReportsWith cause clamped t)
    (hline : s.line.line = .active ∨ s.line.line = .stuck) : t.line.beatSlot = some (t.shown cause clamped) := by
  obtain ⟨-, -, h⟩ := h
  rw [if_pos hline] at h
  exact h.1

/-- The state after a tick in which the load servo comes first and trips the frame, before its BEAT. -/
def State.trippedBy (cause : TripCode) (rawL rawD : Half) (s : State) : State :=
  { State.enterTrip cause { s with servo := (s.measured rawL rawD).release } with
    seq := { s.seq with envelope := 0, softStep := none, clean := false }
    recorder := { s.recorder with steady := false } }

/-- R27, R139: the other blocks take a tick after the load servo's trip in TRIPPED. -/
theorem execServoTick_of_failed {order : Nat} {rawL rawD : Half} {cause : TripCode} (horder : order % 4 = 0)
    (he : s.control.mode.engaged = true)
    (h : failedCheck s.settings (s.measured rawL rawD).load (s.measured rawL rawD).disp (s.measured rawL rawD).tracking = some cause) :
    exec (.servoTick order rawL rawD) s = .next (s.trippedBy cause rawL rawD).settle := by
  obtain ⟨l, hl, hservo⟩ := tickOrder_of_servo_first horder
  have hmem (b : TickBlock) (hb : b ≠ .servo) : b ∈ l := by
    have hmem := mem_tickOrder order b
    rw [hl] at hmem
    exact (List.mem_cons.mp hmem).resolve_left hb
  have htrip : s.blockTick rawL rawD .servo = State.enterTrip cause { s with servo := (s.measured rawL rawD).release } :=
    loadTick_of_failed he h
  have hmode : (s.blockTick rawL rawD .servo).control.mode = .tripped := by rw [htrip]; rfl
  have hrested : (s.blockTick rawL rawD .servo).rested l rawL rawD = s.trippedBy cause rawL rawD := by
    unfold State.rested
    rw [if_neg hservo, if_pos (hmem _ (by decide)), if_pos (hmem _ (by decide)), htrip]
    rfl
  rw [execServoTick_eq, hl, allBlocks_cons, allBlocks_at_rest l rawL rawD (.inr hmode), hrested, noteMove_of_other]
  all_goals exact Mode.noConfusion

/-- Settles O11: the load servo's trip, and its BEAT. -/
theorem aFailedCheckTripsTheFrame : Obligations.AFailedCheckTripsTheFrame := by
  intro order rawL rawD s cause horder he hlimits set command load disp count overload outside hcause
  have hmeasured := measured_eq (s := s) rawL rawD hlimits
  have hfailed : failedCheck s.settings (s.measured rawL rawD).load (s.measured rawL rawD).disp (s.measured rawL rawD).tracking
      = some cause := by
    rw [hmeasured]
    exact failedCheck_of_cause hcause
  have hreports := settle_reportsWith (s := s) (u := s.trippedBy cause rawL rawD) rfl
  obtain ⟨hrecords, hcontrol, hseq, hservo⟩ := settle_keeps (s.trippedBy cause rawL rawD)
  refine ⟨_, execServoTick_of_failed horder he hfailed, ?_⟩
  have htripped : (s.trippedBy cause rawL rawD).servo = (s.measured rawL rawD).enter .tripped := rfl
  have hclamp : (s.trippedBy cause rawL rawD).servo.clampFlag = (s.servo.clampFlag || decide (command ≠ s.commandRaw)) := by
    rw [htripped, hmeasured]
    rfl
  have hrest : State.RecordsKeptButSteady s (s.trippedBy cause rawL rawD) := .refl _
  have hcontrol' : (s.trippedBy cause rawL rawD).control
      = { s.control with mode := .tripped, trip := cause, qAcc := 0, release := none, released := false, alarm := true } := by
    show ({ s.control.enter s.settings.lockstepTimeout s.peers.groupAlarm .tripped with trip := cause } : Control) = _
    simp [Control.enter, qAtEntry, releaseAtEntry, alarmPin]
  rw [htripped, hmeasured] at hservo
  rw [hclamp] at hreports
  rw [hcontrol'] at hcontrol
  replace hrecords := hrest.trans hrecords
  generalize (s.trippedBy cause rawL rawD).settle = t at hreports hrecords hcontrol hseq hservo ⊢
  refine ⟨hcontrol, hservo, hseq, hrecords, hreports, fun hline => ⟨_, hreports.beat hline, rfl, ?_, ?_, ?_, ?_, ?_⟩⟩
  · exact congrArg Control.mode hcontrol
  · exact congrArg Servo.load hservo
  · exact congrArg Servo.disp hservo
  · exact congrArg Servo.command hservo
  · obtain ⟨-, hduplicate, -⟩ := hreports.1
    simp only [State.shown, hcontrol, hduplicate]
    rfl

/-- R14: a composition clears the clamp flag, which its BEAT carries; with none the flag stands. -/
theorem settle_clampFlag (s : State) : s.settle.servo.clampFlag = s.servo.clampFlag
    ∨ (s.settle.servo.clampFlag = false ∧ ∃ b, s.settle.line.beatSlot = some b ∧ b.cause = .prompt
        ∧ b.flags.clamped = s.servo.clampFlag) := by
  obtain ⟨-, h⟩ | ⟨-, h⟩ := settle_cases s
  · rw [h]
    unfold State.compose
    split
    · refine .inr ⟨rfl, s.snapshot .prompt, ?_, rfl, ?_⟩
      · unfold LineUnit.wake
        split <;> rfl
      · rw [snapshot_shown]
        rfl
    · exact .inl rfl
  · rw [h]
    exact .inl rfl

/-- R8: outside a started CYCLE there is no wave. -/
theorem waveAndAmplitude_of_no_cycle (h : s.seq.state ≠ .active ∨ s.seq.started = false ∨ s.segment.isCycle = false) :
    s.waveAndAmplitude = (0, 0) := by
  unfold State.waveAndAmplitude
  unfold Segment.isCycle at h
  split
  · rw [if_neg]
    rintro ⟨hactive, hstarted⟩
    simp_all
  · rfl

theorem waveAndAmplitude_of_cycle {mean a per n soft shape} (hactive : s.seq.state = .active) (hstarted : s.seq.started = true)
    (hbody : s.segment.body = .cycle mean a per shape n soft) :
    s.waveAndAmplitude = (waveOf shape s.clock.phase s.clock.applied, a) := by
  unfold State.waveAndAmplitude
  rw [hbody]
  exact if_pos ⟨hactive, hstarted⟩

/-- Settles O10: the load servo drives the valve, and the other blocks leave the servo and the records. -/
theorem anEngagedTickDrivesTheValve : Obligations.AnEngagedTickDrivesTheValve := by
  intro order rawL rawD s horder he hopen hlimits set q amplitude mean raw command load disp e count p new candidate integ u
    hload₁ hload₂ hdisp₁ hdisp₂ hcount
  obtain ⟨l, hl, hservo⟩ := tickOrder_of_servo_first horder
  have hmeasured := measured_eq (s := s) rawL rawD hlimits
  have hpassed : failedCheck s.settings (s.measured rawL rawD).load (s.measured rawL rawD).disp (s.measured rawL rawD).tracking = none := by
    rw [hmeasured]
    exact failedCheck_eq_none hload₁ hload₂ hdisp₁ hdisp₂ hcount
  have hdrive : s.blockTick rawL rawD .servo = { s with servo := (s.measured rawL rawD).drive s.settings } :=
    loadTick_of_passed he hpassed
  have hdriven : (s.measured rawL rawD).drive s.settings = { s.servo with
      load := load, disp := disp, command := command, integ := integ, tracking := count
      buffer := .drive (if set.inverted then 2048 - u else 2048 + u).toNat
      clampFlag := s.servo.clampFlag || decide (command ≠ raw) } := by
    rw [drive_eq s.settings (s.measured rawL rawD)]
    simp only [integratorAfter_eq]
    rw [hmeasured]
    rfl
  have hstart : ({ s with servo := (s.measured rawL rawD).drive s.settings } : State).servo.cutoff = false := hopen
  have hrest := (allBlocks_leavesServo hservo rawL rawD { s with servo := (s.measured rawL rawD).drive s.settings }).of_open hstart
  have hengaged := allBlocks_engaged hservo rawL rawD hstart
  obtain ⟨_, hrecords⟩ := allBlocks_keepsButSteady l rawL rawD { s with servo := (s.measured rawL rawD).drive s.settings }
  rw [execServoTick_eq, hl, allBlocks_cons, hdrive]
  generalize State.allBlocks l rawL rawD { s with servo := (s.measured rawL rawD).drive s.settings } = v at hrest hengaged hrecords ⊢
  have hnoted : v.noteMove.servo = v.servo := by obtain ⟨-, h⟩ | ⟨-, h⟩ := noteMove_cases v <;> rw [h]
  have hkept := noteMove_settle_servo v
  have hcontrol := noteMove_settle_control v
  have hclamp := settle_clampFlag v.noteMove
  have hrecords' : v.RecordsKept v.noteMove.settle := by
    obtain ⟨hsettle, -⟩ := settle_keeps v.noteMove
    obtain ⟨-, h⟩ | ⟨-, h⟩ := noteMove_cases v <;> rw [h] at hsettle ⊢ <;> exact hsettle
  obtain ⟨hclock, hscanner, -, hcracks, hpeers, -, hsettings, -, -⟩ := hrecords.trans hrecords'
  rw [hrest, hdriven] at hkept
  rw [hnoted, hrest, hdriven] at hclamp
  generalize v.noteMove.settle = t at hkept hcontrol hclamp hclock hscanner hcracks hpeers hsettings ⊢
  refine ⟨t, rfl, hkept, hclamp, ?_, waveAndAmplitude_of_no_cycle, hclock, hscanner, hcracks, hpeers, hsettings, ?_⟩
  · exact fun _ _ _ _ _ _ hactive hstarted hbody => waveAndAmplitude_of_cycle hactive hstarted hbody
  · rw [hcontrol, hengaged, he]

/-! ## The valve pins (O19) -/

/-- R20, R22: a carrier start takes the buffer, and a duty asserts the enable. -/
theorem carrier_eq (v : Servo) : v.carrier = { v with output := v.buffer, enable := v.enable || decide (v.buffer ≠ .idle) } := by
  unfold Servo.carrier
  split
  next h => simp [h]
  next d h => simp [h]

theorem execCutoffAssert_eq (s : State) : exec .cutoffAssert s = .next (if s.control.mode.watchesCutoff = true then
    (State.trip .cutoff { s with servo := { s.servo with cutoff := true } }).settle
    else State.settle { s with servo := { s.servo with cutoff := true } }) := by
  show Host.Outcome.next (State.settle (if _ then _ else _)) = _
  split <;> rfl

theorem watchesCutoff_iff (m : Mode) : m.watchesCutoff = true ↔ m = .standby ∨ m.engaged = true := by
  simp [Mode.watchesCutoff]

theorem trip_of_watchesCutoff (code : TripCode) (h : s.control.mode.watchesCutoff = true) : s.trip code = s.enterTrip code := by
  unfold State.trip
  cases hm : s.control.mode <;> simp_all [Mode.watchesCutoff, Mode.engaged]

/-- R23: an asserted cutoff holds both pins released. -/
theorem pins_of_cutoff (h : s.servo.cutoff = true) : s.enablePin = false ∧ ∀ k, s.pwmLevel k = s.settings.idleHigh := by
  unfold State.enablePin State.pwmLevel State.pwmDuty
  rw [h]
  simp

/-- Settles O19: the carrier start by the buffer, the cutoff by the mode it finds. -/
theorem theValvePinsFollowTheBufferAndTheCutoff : Obligations.TheValvePinsFollowTheBufferAndTheCutoff := by
  refine ⟨fun s => ⟨_, rfl, ?_, fun hopen => ⟨?_, fun k _ => ?_⟩⟩, fun s hprompt => ⟨?_, rfl⟩⟩
  · rw [carrier_eq]
  · show (s.servo.carrier.enable && !s.servo.carrier.cutoff) = s.servo.carrier.enable
    rw [carrier_eq]
    simp [hopen]
  · show State.pwmLevel { s with servo := s.servo.carrier } k = _
    unfold State.pwmLevel State.pwmDuty
    rw [carrier_eq]
    simp only [hopen]
    rfl
  · rw [execCutoffAssert_eq]
    by_cases hm : s.control.mode.watchesCutoff = true
    · have hprompted := settle_reportsWith (s := s) (u := State.enterTrip .cutoff { s with servo := { s.servo with cutoff := true } }) rfl
      obtain ⟨hrecords, hcontrol, hseq, hservo⟩ := settle_keeps (State.enterTrip .cutoff { s with servo := { s.servo with cutoff := true } })
      rw [if_pos hm, trip_of_watchesCutoff (s := { s with servo := { s.servo with cutoff := true } }) _ hm]
      generalize State.settle (State.enterTrip .cutoff { s with servo := { s.servo with cutoff := true } }) = t at hprompted hrecords hcontrol hseq hservo ⊢
      have hcutoff : t.servo.cutoff = true := congrArg Servo.cutoff hservo
      obtain ⟨henable, hlevel⟩ := pins_of_cutoff hcutoff
      refine ⟨t, rfl, hcutoff, henable, hlevel, ?_⟩
      rw [if_pos ((watchesCutoff_iff _).mp hm)]
      refine ⟨hcontrol.trans ?_, hservo, hseq, hrecords, hprompted⟩
      simp [Control.enter, qAtEntry, releaseAtEntry, alarmPin]
    · rw [if_neg hm, settle_of_spent (s := { s with servo := { s.servo with cutoff := true } }) hprompt]
      obtain ⟨henable, hlevel⟩ := pins_of_cutoff (s := { s with servo := { s.servo with cutoff := true } }) rfl
      refine ⟨_, rfl, rfl, henable, hlevel, ?_⟩
      rw [if_neg (mt (watchesCutoff_iff _).mpr hm)]

end Sys2Proof.Machine
end

section
/-! The sequencer's part of a servo tick, for O15, O16 and O17. -/

namespace Sys2Proof.Machine

variable {s t u : State} {q p : Sequencer} {tab : List Segment}

/-! ## What starts, ends and segment time leave of the envelope -/

/-- Of the envelope's state a sequencer that works without a mark changes nothing, and it sets no clean flag. -/
structure Sequencer.KeepsEnvelope (p q : Sequencer) : Prop where
  envelope : q.envelope = p.envelope
  softStep : q.softStep = p.softStep
  clean : q.clean = true → p.clean = true

theorem Sequencer.KeepsEnvelope.refl (q : Sequencer) : q.KeepsEnvelope q := ⟨rfl, rfl, id⟩

theorem Sequencer.KeepsEnvelope.trans {r : Sequencer} (h : p.KeepsEnvelope q) (k : q.KeepsEnvelope r) : p.KeepsEnvelope r :=
  ⟨k.envelope.trans h.envelope, k.softStep.trans h.softStep, h.clean ∘ k.clean⟩

theorem start_keepsEnvelope (tab : List Segment) (m : Mode) (q : Sequencer) : q.KeepsEnvelope (q.start tab false m) := by
  unfold Sequencer.start
  repeat' split
  all_goals first | exact .refl q | exact ⟨rfl, rfl, id⟩ | contradiction

theorem moveTo_keepsEnvelope (tab : List Segment) (k : Nat) (q : Sequencer) : q.KeepsEnvelope (q.moveTo tab k) :=
  ⟨rfl, rfl, fun h => absurd h Bool.false_ne_true⟩

theorem passOn_keepsEnvelope (tab : List Segment) (m : Mode) (q : Sequencer) : q.KeepsEnvelope (q.passOn tab false m).1 := by
  obtain ⟨-, h⟩ | ⟨k, -, -, h⟩ | ⟨k, -, -, h⟩ := passOn_cases tab false m q <;> rw [h]
  · exact ⟨rfl, rfl, id⟩
  · exact moveTo_keepsEnvelope tab k q
  · exact (moveTo_keepsEnvelope tab k q).trans (start_keepsEnvelope tab m _)

theorem finish_keepsEnvelope (tab : List Segment) (m : Mode) (met : Bool) (q : Sequencer) :
    q.KeepsEnvelope (q.finish tab false m met).1 := by
  obtain ⟨-, -, h⟩ | ⟨-, h⟩ := finish_cases tab false m met q <;> rw [h]
  · exact ⟨rfl, rfl, id⟩
  · exact passOn_keepsEnvelope tab m q

/-! ## Segment time -/

/-- The time of a RAMP or a DWELL, in milliseconds. -/
def Segment.time (g : Segment) : Option Nat :=
  match g.body with
  | .ramp _ ms => some ms
  | .dwell ms => some ms
  | _ => none

/-- R34, R35: the sequencer with a tick of segment time taken, at a RAMP with its B. -/
def Sequencer.timed (g : Segment) (q : Sequencer) : Sequencer :=
  match g.body with
  | .ramp target ms => { q with elapsed := q.elapsed + 1, base := rampBase q.rampStart target (q.elapsed + 1) ms }
  | .dwell _ => { q with elapsed := q.elapsed + 1 }
  | _ => q

theorem segment_time_isSome_iff (g : Segment) :
    g.time.isSome = true ↔ (∃ target ms, g.body = .ramp target ms) ∨ ∃ ms, g.body = .dwell ms := by
  unfold Segment.time
  cases g.body <;> simp

theorem timed_keepsEnvelope (g : Segment) (q : Sequencer) : q.KeepsEnvelope (q.timed g) := by
  unfold Sequencer.timed
  split
  · exact ⟨rfl, rfl, id⟩
  · exact ⟨rfl, rfl, id⟩
  · exact .refl q

theorem timed_place (g : Segment) (q : Sequencer) : (q.timed g).index = q.index ∧ (q.timed g).state = q.state
    ∧ (q.timed g).started = q.started := by
  unfold Sequencer.timed
  split <;> exact ⟨rfl, rfl, rfl⟩

/-- R35: segment time runs at a started RAMP or DWELL in RUN, and its last tick ends the segment. -/
theorem timeStep_of_time {ms : Nat} (met : Bool) (hactive : q.state = .active) (hstarted : q.started = true)
    (htime : (segmentAt tab q.index).time = some ms) :
    q.timeStep tab .run met = if q.elapsed + 1 = 4 * ms then (q.timed (segmentAt tab q.index)).finish tab false .run met
      else (q.timed (segmentAt tab q.index), false) := by
  unfold Segment.time at htime
  unfold Sequencer.timeStep Sequencer.timed
  rw [if_pos ⟨rfl, hactive, hstarted⟩]
  cases hbody : (segmentAt tab q.index).body <;> rw [hbody] at htime
  case ramp | dwell => cases htime; rfl
  case none | cycle => exact absurd htime.symm (Option.some_ne_none _)

/-- R35: anywhere else it stands. -/
theorem timeStep_of_still {m : Mode} (met : Bool)
    (h : m = .run → q.state = .active → q.started = true → (segmentAt tab q.index).time = none) :
    q.timeStep tab m met = (q, false) := by
  unfold Sequencer.timeStep
  split
  next hat =>
    obtain ⟨hm, hactive, hstarted⟩ := hat
    have htime := h hm hactive hstarted
    unfold Segment.time at htime
    cases hbody : (segmentAt tab q.index).body <;> simp_all
  next => rfl

/-! ## The step of the envelope -/

/-- R43, R44: in RUN and ASCENT the envelope rises, by a soft start's step while one is in progress. -/
theorem envelopeStep_of_rising (rate : Nat) {m : Mode} (hm : m = .run ∨ m = .ascent) (q : Sequencer) :
    (∀ step, q.softStep = some step → (q.envelopeStep rate m).envelope = min 4096000 (q.envelope + step)
        ∧ (q.envelopeStep rate m).softStep = if 4096000 ≤ q.envelope + step then none else some step)
      ∧ (q.softStep = none → (q.envelopeStep rate m).envelope = min 4096000 (q.envelope + rate)
          ∧ (q.envelopeStep rate m).softStep = none) := by
  have hstep : q.envelopeStep rate m = q.envelopeStep rate .run := by obtain rfl | rfl := hm <;> rfl
  rw [hstep]
  refine ⟨fun step hsoft => ?_, fun hsoft => ?_⟩
  · by_cases hfull : 4096000 ≤ q.envelope + step
    · simp [Sequencer.envelopeStep, Config.accFull, hsoft, hfull]
    · simp [Sequencer.envelopeStep, Config.accFull, hsoft, hfull, Nat.le_of_not_le hfull]
  · simp [Sequencer.envelopeStep, Config.accFull, hsoft]

/-- R43: a rising envelope stays full. -/
theorem envelopeStep_full (rate : Nat) {m : Mode} (hm : m = .run ∨ m = .ascent) (h : 4096000 ≤ q.envelope) :
    4096000 ≤ (q.envelopeStep rate m).envelope := by
  obtain ⟨hsoft, hnone⟩ := envelopeStep_of_rising rate hm q
  cases hs : q.softStep with
  | none => rw [(hnone hs).1]; omega
  | some step => rw [(hsoft step hs).1]; omega

/-- R37, R43: the sequencer with the tick's step of the envelope and of the clean flag taken. -/
def State.stepped (s : State) : Sequencer :=
  (s.seq.envelopeStep s.settings.holdRate s.control.mode).cleanStep s.control.mode s.q

theorem Sequencer.Stands.refl (q : Sequencer) : q.Stands q := rfl

theorem Sequencer.Stands.trans {r : Sequencer} (h : p.Stands q) (k : q.Stands r) : p.Stands r := by
  unfold Sequencer.Stands at h k ⊢
  rw [k, h]

theorem envelopeStep_stands (rate : Nat) (m : Mode) (q : Sequencer) : q.Stands (q.envelopeStep rate m) := by
  unfold Sequencer.Stands
  unfold Sequencer.envelopeStep
  repeat' split
  all_goals rfl

theorem stepped_stands (s : State) : s.seq.Stands s.stepped := by
  have h := envelopeStep_stands s.settings.holdRate s.control.mode s.seq
  unfold Sequencer.Stands at h ⊢
  unfold State.stepped Sequencer.cleanStep
  rw [h]

theorem stepped_envelope (s : State) : s.stepped.envelope = (s.seq.envelopeStep s.settings.holdRate s.control.mode).envelope := rfl

theorem stepped_softStep (s : State) : s.stepped.softStep = (s.seq.envelopeStep s.settings.holdRate s.control.mode).softStep := rfl

theorem full_le_h_iff (q : Sequencer) : Config.full ≤ q.h ↔ 4096000 ≤ q.envelope := by
  unfold Sequencer.h Config.full Config.accUnit
  omega

theorem full_le_q_iff (s : State) : Config.full ≤ s.q ↔ 4096000 ≤ s.control.qAcc := by
  unfold State.q Config.full Config.accUnit
  omega

/-- R37: the clean flag lasts in RUN alone, at the full envelope and the full fraction. -/
theorem stepped_clean_iff (s : State) : s.stepped.clean = true
    ↔ s.seq.clean = true ∧ 4096000 ≤ s.stepped.envelope ∧ 4096000 ≤ s.control.qAcc ∧ s.control.mode = .run := by
  have hclean : (s.seq.envelopeStep s.settings.holdRate s.control.mode).clean = s.seq.clean := by rw [envelopeStep_keeps]
  show ((s.seq.envelopeStep s.settings.holdRate s.control.mode).clean && _ && _ && _) = true ↔ _
  rw [hclean]
  simp only [Bool.and_eq_true, decide_eq_true_eq, full_le_h_iff, full_le_q_iff, and_assoc]
  rfl

/-! ## The sequencer's block -/

theorem tick_eq (h : s.running = true) :
    s.seq.tick s.settings.segments s.settings.holdRate s.control.mode s.q s.barrierMet
      = s.stepped.timeStep s.settings.segments s.control.mode s.barrierMet := by
  unfold State.running at h
  unfold Sequencer.tick State.stepped
  cases hm : s.control.mode <;> simp_all

theorem stepped_place (s : State) : s.stepped.state = s.seq.state ∧ s.stepped.started = s.seq.started
    ∧ s.stepped.elapsed = s.seq.elapsed ∧ s.stepped.index = s.seq.index := by
  have h := stepped_stands s
  unfold Sequencer.Stands at h
  rw [h]
  exact ⟨rfl, rfl, rfl, rfl⟩

theorem stepped_segment (s : State) : segmentAt s.settings.segments s.stepped.index = s.segment := by
  obtain ⟨-, -, -, hindex⟩ := stepped_place s
  rw [hindex, State.segment]

/-- A tick that takes no segment time. -/
theorem sequenceTick_of_still (hrunning : s.running = true)
    (h : s.control.mode = .run → s.seq.state = .active → s.seq.started = true → s.segment.time = none) :
    s.sequenceTick = { s with seq := s.stepped } := by
  obtain ⟨hstate, hstarted, -, -⟩ := stepped_place s
  rw [State.sequenceTick, tick_eq hrunning, timeStep_of_still]
  · rfl
  · rwa [hstate, hstarted, stepped_segment]

/-- R35: a tick of segment time that does not end its segment. -/
theorem sequenceTick_of_timed {ms : Nat} (hm : s.control.mode = .run) (hactive : s.seq.state = .active)
    (hstarted : s.seq.started = true) (htime : s.segment.time = some ms) (hgoes : s.seq.elapsed + 1 ≠ 4 * ms) :
    s.sequenceTick = { s with seq := s.stepped.timed s.segment } := by
  have hrunning : s.running = true := by rw [State.running, hm]
  obtain ⟨hstate, hstart, helapsed, -⟩ := stepped_place s
  rw [State.sequenceTick, tick_eq hrunning, hm, timeStep_of_time s.barrierMet (hstate.trans hactive) (hstart.trans hstarted)
    (by rw [stepped_segment, htime]), helapsed, if_neg hgoes, stepped_segment]
  rfl

/-- R35, R38: the last tick of its time. -/
theorem sequenceTick_of_end {ms : Nat} (hm : s.control.mode = .run) (hactive : s.seq.state = .active)
    (hstarted : s.seq.started = true) (htime : s.segment.time = some ms) (hends : s.seq.elapsed + 1 = 4 * ms) :
    s.sequenceTick = s.withSequencer ((s.stepped.timed s.segment).finish s.settings.segments false .run s.barrierMet) := by
  have hrunning : s.running = true := by rw [State.running, hm]
  obtain ⟨hstate, hstart, helapsed, -⟩ := stepped_place s
  rw [State.sequenceTick, tick_eq hrunning, hm, timeStep_of_time s.barrierMet (hstate.trans hactive) (hstart.trans hstarted)
    (by rw [stepped_segment, htime]), helapsed, if_pos hends, stepped_segment]

/-- R138: in RUN the sequencer's request is taken. -/
theorem withSequencer_of_run (r : Sequencer × Bool) (hm : s.control.mode = .run) (hopen : s.servo.cutoff = false) :
    s.withSequencer r = if r.2 = true then State.enterMode .hold { s with seq := r.1 } else { s with seq := r.1 } := by
  unfold State.withSequencer
  refine if_congr Iff.rfl ?_ rfl
  rw [State.holdRequest, if_pos hm, changeMode_of_open (s := { s with seq := r.1 }) _ hopen]

/-- R45, R138: what a tick of RUN leaves of the envelope's state. -/
theorem sequenceTick_of_run (hm : s.control.mode = .run) (hopen : s.servo.cutoff = false) :
    s.sequenceTick.seq.envelope = s.stepped.envelope ∧ (s.sequenceTick.seq.clean = true → s.stepped.clean = true)
      ∧ ((s.sequenceTick.control.mode = .run ∧ s.sequenceTick.seq.softStep = s.stepped.softStep)
          ∨ (s.sequenceTick.control.mode = .hold ∧ s.sequenceTick.seq.softStep = none)) := by
  have hrunning : s.running = true := by rw [State.running, hm]
  by_cases hat : s.seq.state = .active ∧ s.seq.started = true ∧ s.segment.time ≠ none
  · obtain ⟨hactive, hstarted, htime⟩ := hat
    obtain ⟨ms, htime⟩ := Option.ne_none_iff_exists'.mp htime
    by_cases hends : s.seq.elapsed + 1 = 4 * ms
    · rw [sequenceTick_of_end hm hactive hstarted htime hends, withSequencer_of_run _ hm hopen]
      obtain ⟨henvelope, hsoft, hclean⟩ := (timed_keepsEnvelope s.segment s.stepped).trans
        (finish_keepsEnvelope s.settings.segments .run s.barrierMet (s.stepped.timed s.segment))
      split
      · exact ⟨henvelope, hclean, .inr ⟨rfl, rfl⟩⟩
      · exact ⟨henvelope, hclean, .inl ⟨hm, hsoft⟩⟩
    · rw [sequenceTick_of_timed hm hactive hstarted htime hends]
      obtain ⟨henvelope, hsoft, hclean⟩ := timed_keepsEnvelope s.segment s.stepped
      exact ⟨henvelope, hclean, .inl ⟨hm, hsoft⟩⟩
  · rw [sequenceTick_of_still hrunning fun _ hactive hstarted => by_contra fun htime => hat ⟨hactive, hstarted, htime⟩]
    exact ⟨rfl, id, .inl ⟨hm, rfl⟩⟩

end Sys2Proof.Machine
end

section
/-! O15: a tick's step of the envelope and of the flags. -/

namespace Sys2Proof.Machine

variable {s t u : State} {q p : Sequencer} {order : Nat} {rawL rawD : Half}

/-! ## The frame after a tick -/

/-- But for a trip the frame comes out of a tick as the mode controller and the sequencer leave it, in their order. -/
def State.FrameOutcome (order : Nat) (s t : State) : Prop :=
  t.control.mode = .tripped ∨ (controlFirst order ∧ t.control = s.fractionTick.sequenceTick.control ∧ t.seq = s.fractionTick.sequenceTick.seq)
    ∨ (¬ controlFirst order ∧ t.control = s.sequenceTick.fractionTick.control ∧ t.seq = s.sequenceTick.fractionTick.seq)

theorem noteMove_settle_seq (s : State) : s.noteMove.settle.seq = s.seq := by
  obtain ⟨-, -, hseq, -⟩ := settle_keeps s.noteMove
  rw [hseq]
  obtain ⟨-, h⟩ | ⟨-, h⟩ := noteMove_cases s <;> rw [h]

theorem servoTick_frameOutcome (order : Nat) (rawL rawD : Half) (s : State) :
    s.FrameOutcome order (s.allBlocks (tickOrder order) rawL rawD).noteMove.settle := by
  unfold State.FrameOutcome
  rw [noteMove_settle_control, noteMove_settle_seq]
  obtain htrip | hsame := allBlocks_tripped_or_sameFrame (tickOrder order) rawL rawD (.refl s)
  · exact .inl htrip
  · obtain ⟨hfirst, hblocks⟩ | ⟨hfirst, hblocks⟩ := tickOrder_filter_movesFrame order <;> rw [hblocks] at hsame
    · exact .inr (.inl ⟨hfirst, hsame.control, hsame.seq⟩)
    · exact .inr (.inr ⟨hfirst, hsame.control, hsame.seq⟩)

/-- R130: what the mode controller's part of a tick does to the mode and to the sequencer. -/
theorem fractionTick_seq_cases (hopen : s.servo.cutoff = false) :
    (s.fractionTick.control.mode = s.control.mode ∧ s.fractionTick.seq = s.seq)
      ∨ (s.control.mode = .descent ∧ s.fractionTick.control.mode = .parked ∧ s.fractionTick.seq = { s.seq with softStep := none })
      ∨ (s.control.mode = .ascent ∧ s.fractionTick.control.mode = .run ∧ s.fractionTick.seq = s.seq.enter s.settings.segments .run) := by
  by_cases hd : s.control.mode = .descent
  · rw [fractionTick_of_descent hd]
    split
    · rw [changeMode_of_open (s := s.putQ s.descended) _ hopen]
      exact .inr (.inl ⟨hd, rfl, rfl⟩)
    · exact .inl ⟨rfl, rfl⟩
  by_cases ha : s.control.mode = .ascent
  · rw [fractionTick_of_ascent ha]
    split
    · rw [changeMode_of_open (s := s.putQ s.ascended) _ hopen]
      exact .inr (.inr ⟨ha, rfl, rfl⟩)
    · exact .inl ⟨rfl, rfl⟩
  rw [fractionTick_of_other hd ha]
  exact .inl ⟨rfl, rfl⟩

theorem fractionTick_settings (s : State) : s.fractionTick.settings = s.settings := (fractionTick_tickMoves s).settings

theorem fractionTick_open (hopen : s.servo.cutoff = false) : s.fractionTick.servo.cutoff = false := by
  rw [(fractionTick_leavesServo s).of_open hopen, hopen]

/-- R48: an entry to RUN that starts the position steps no envelope. -/
theorem enterRun_keepsEnvelope (tab : List Segment) (q : Sequencer) : q.KeepsEnvelope (q.enter tab .run) := by
  unfold Sequencer.enter
  dsimp only
  split
  · exact start_keepsEnvelope tab .run q
  · exact .refl q

/-! ## The envelope after a tick -/

/-- R43: the step of the envelope reads of the sequencer the envelope and the soft start alone. -/
theorem envelopeStep_congr (rate : Nat) (m : Mode) (henvelope : q.envelope = p.envelope) (hsoft : q.softStep = p.softStep) :
    (q.envelopeStep rate m).envelope = (p.envelopeStep rate m).envelope
      ∧ (q.envelopeStep rate m).softStep = (p.envelopeStep rate m).softStep := by
  unfold Sequencer.envelopeStep
  rw [hsoft, henvelope]
  repeat' split
  all_goals exact ⟨by first | rfl | exact henvelope, by first | rfl | exact hsoft⟩

/-- What a tick that does not trip leaves of the envelope's state (R37, R43, R45). -/
structure State.StepsEnvelope (s t : State) : Prop where
  envelope : t.seq.envelope = s.stepped.envelope
  softStep : t.seq.softStep
    = if t.control.mode = s.control.mode ∨ t.control.mode = .run ∨ t.control.mode = .ascent then s.stepped.softStep else none
  clean : t.seq.clean = true → s.stepped.clean = true ∨ (s.seq.clean = true ∧ s.control.mode = .ascent ∧ t.control.mode ≠ .ascent)

/-- R37: outside RUN the sequencer's part of a tick steps the envelope and the clean flag alone. -/
theorem sequenceTick_of_running (hrunning : s.running = true) (hm : s.control.mode ≠ .run) :
    s.sequenceTick = { s with seq := s.stepped } := sequenceTick_of_still hrunning fun h => absurd h hm

/-- R138: a tick of RUN leaves RUN or HOLD, with the envelope stepped. -/
theorem State.FrameOutcome.of_run (h : s.FrameOutcome order t) (hopen : s.servo.cutoff = false) (hm : s.control.mode = .run)
    (htrip : t.control.mode ≠ .tripped) : t.control = s.sequenceTick.control ∧ t.seq = s.sequenceTick.seq := by
  have hfraction : s.fractionTick = s := fractionTick_of_other (by simp [hm]) (by simp [hm])
  obtain ⟨-, -, hmodes⟩ := sequenceTick_of_run hm hopen
  have hlast : s.sequenceTick.fractionTick = s.sequenceTick := by
    obtain ⟨hmode, -⟩ | ⟨hmode, -⟩ := hmodes <;> exact fractionTick_of_other (by simp [hmode]) (by simp [hmode])
  rw [State.FrameOutcome, hfraction, hlast] at h
  obtain h | ⟨-, hcontrol, hseq⟩ | ⟨-, hcontrol, hseq⟩ := h
  · exact absurd h htrip
  · exact ⟨hcontrol, hseq⟩
  · exact ⟨hcontrol, hseq⟩

theorem State.FrameOutcome.steps_of_run (h : s.FrameOutcome order t) (hopen : s.servo.cutoff = false) (hm : s.control.mode = .run)
    (htrip : t.control.mode ≠ .tripped) : s.StepsEnvelope t := by
  obtain ⟨hcontrol, hseq⟩ := h.of_run hopen hm htrip
  obtain ⟨henvelope, hclean, hmodes⟩ := sequenceTick_of_run hm hopen
  refine ⟨by rw [hseq, henvelope], ?_, fun hset => .inl (hclean (by rwa [hseq] at hset))⟩
  rw [hseq, hcontrol]
  obtain ⟨hmode, hsoft⟩ | ⟨hmode, hsoft⟩ := hmodes <;> rw [hmode, hsoft]
  · simp
  · simp [hm]

/-- R130: in the order in which the sequencer takes the tick first, the mode controller may end the way that it is on. -/
theorem steps_of_fraction_last (hrunning : s.running = true) (hopen : s.servo.cutoff = false) (hm : s.control.mode ≠ .run)
    (hcontrol : t.control.mode = s.sequenceTick.fractionTick.control.mode) (hseq : t.seq = s.sequenceTick.fractionTick.seq) :
    s.StepsEnvelope t := by
  rw [sequenceTick_of_running hrunning hm] at hcontrol hseq
  have hcases := fractionTick_seq_cases (s := { s with seq := s.stepped }) hopen
  rw [← hcontrol, ← hseq] at hcases
  obtain ⟨hmode, hsame⟩ | ⟨hdescent, hmode, hsame⟩ | ⟨hascent, hmode, hsame⟩ := hcases
  · refine ⟨congrArg Sequencer.envelope hsame, ?_, fun hset => .inl (by rwa [hsame] at hset)⟩
    rw [if_pos (.inl hmode), hsame]
  · refine ⟨by rw [hsame], ?_, fun hset => .inl (by rwa [hsame] at hset)⟩
    replace hdescent : s.control.mode = .descent := hdescent
    rw [hmode, hsame, hdescent]
    simp
  · obtain ⟨henvelope, hsoft, hclean⟩ := enterRun_keepsEnvelope s.settings.segments s.stepped
    refine ⟨(congrArg Sequencer.envelope hsame).trans henvelope, ?_, fun hset => .inl (hclean (by rwa [hsame] at hset))⟩
    rw [if_pos (.inr (.inl hmode)), hsame]
    exact hsoft

/-- R130: in the other order the sequencer takes the tick in the mode that the mode controller leaves. -/
theorem steps_of_fraction_first (hrunning : s.running = true) (hopen : s.servo.cutoff = false) (hm : s.control.mode ≠ .run)
    (hcontrol : t.control.mode = s.fractionTick.sequenceTick.control.mode) (hseq : t.seq = s.fractionTick.sequenceTick.seq) :
    s.StepsEnvelope t := by
  have hsettings := fractionTick_settings s
  have hopen' := fractionTick_open hopen
  have hcases := fractionTick_seq_cases hopen
  generalize s.fractionTick = u at hcontrol hseq hsettings hopen' hcases
  obtain ⟨hmode, hsame⟩ | ⟨hdescent, hmode, hsame⟩ | ⟨hascent, hmode, hsame⟩ := hcases
  · have hrunning' : u.running = true := by rwa [State.running, hmode]
    rw [sequenceTick_of_running hrunning' (by rwa [hmode])] at hcontrol hseq
    obtain ⟨henvelope, hsoft⟩ := envelopeStep_congr (q := u.seq) (p := s.seq) s.settings.holdRate s.control.mode
      (by rw [hsame]) (by rw [hsame])
    refine ⟨?_, ?_, fun hset => .inl ?_⟩
    · rw [hseq, stepped_envelope, stepped_envelope, hsettings, hmode, henvelope]
    · rw [if_pos (.inl (hcontrol.trans hmode)), hseq, stepped_softStep, stepped_softStep, hsettings, hmode, hsoft]
    · rw [hseq, stepped_clean_iff] at hset
      exact absurd (hmode.symm.trans hset.2.2.2) hm
  · have hrunning' : u.running = true := by rw [State.running, hmode]
    rw [sequenceTick_of_running hrunning' (by simp [hmode])] at hcontrol hseq
    refine ⟨?_, ?_, fun hset => .inl ?_⟩
    · rw [hseq, stepped_envelope, stepped_envelope, hmode, hdescent, hsame]
      rfl
    · have hparked : t.control.mode = .parked := hcontrol.trans hmode
      rw [hseq, stepped_softStep, hmode, hsame, hparked, hdescent]
      simp [Sequencer.envelopeStep]
    · rw [hseq, stepped_clean_iff, hmode] at hset
      exact absurd hset.2.2.2 (by simp)
  · obtain ⟨henvelope, hclean, hmodes⟩ := sequenceTick_of_run hmode hopen'
    obtain ⟨henvelope', hsoft', hclean'⟩ := enterRun_keepsEnvelope s.settings.segments s.seq
    rw [← hsame] at henvelope' hsoft' hclean'
    obtain ⟨hstep, hsoft⟩ := envelopeStep_congr (q := u.seq) (p := s.seq) s.settings.holdRate .run henvelope' hsoft'
    refine ⟨?_, ?_, fun hset => ?_⟩
    · rw [hseq, henvelope, stepped_envelope, hmode, hsettings, hstep, stepped_envelope, hascent]
      rfl
    · rw [hseq, hcontrol]
      obtain ⟨hmode', hsoft''⟩ | ⟨hmode', hsoft''⟩ := hmodes <;> rw [hmode', hsoft'']
      · rw [if_pos (.inr (.inl rfl)), stepped_softStep, hmode, hsettings, hsoft, stepped_softStep, hascent]
        rfl
      · simp [hascent]
    · rw [hseq] at hset
      refine .inr ⟨hclean' ((stepped_clean_iff u).mp (hclean hset)).1, hascent, ?_⟩
      rw [hcontrol]
      obtain ⟨hmode', -⟩ | ⟨hmode', -⟩ := hmodes <;> simp [hmode']

theorem State.FrameOutcome.steps (h : s.FrameOutcome order t) (hrunning : s.running = true) (hopen : s.servo.cutoff = false)
    (htrip : t.control.mode ≠ .tripped) : s.StepsEnvelope t := by
  by_cases hm : s.control.mode = .run
  · exact h.steps_of_run hopen hm htrip
  obtain h | ⟨-, hcontrol, hseq⟩ | ⟨-, hcontrol, hseq⟩ := h
  · exact absurd h htrip
  · exact steps_of_fraction_first hrunning hopen hm (congrArg Control.mode hcontrol) hseq
  · exact steps_of_fraction_last hrunning hopen hm (congrArg Control.mode hcontrol) hseq

/-! ## Where a tick advances no segment time -/

theorem enter_stands {m : Mode} (h : m ≠ .run) (tab : List Segment) (q : Sequencer) : q.Stands (q.enter tab m) := by
  cases m <;> first | rfl | exact absurd rfl h

/-- R35: the frame is not on its way to RUN, and in RUN stands at no started RAMP or DWELL. -/
structure State.NoSegmentTime (s : State) : Prop where
  notAscent : s.control.mode ≠ .ascent
  atRest : s.control.mode = .run → s.seq.state = .active → s.seq.started = true → s.segment.time = none

theorem State.NoSegmentTime.of_stands (h : s.NoSegmentTime) (hstands : s.seq.Stands t.seq) (hsettings : t.settings = s.settings)
    (hm : t.control.mode ≠ .ascent) (hrun : t.control.mode = .run → s.control.mode = .run) : t.NoSegmentTime := by
  unfold Sequencer.Stands at hstands
  refine ⟨hm, fun hrunning => ?_⟩
  rw [State.segment, hstands, hsettings]
  exact h.atRest (hrun hrunning)

theorem sequenceTick_of_stopped (h : s.running = false) : s.sequenceTick = s := by
  unfold State.sequenceTick Sequencer.tick
  obtain h | h := running_eq_false.mp h <;> rw [h] <;> rfl

/-- R35: there no block moves the position, nor takes the frame to RUN. -/
theorem blockTick_noSegmentTime (h : s.NoSegmentTime) (b : TickBlock) :
    s.seq.Stands (s.blockTick rawL rawD b).seq ∧ (s.blockTick rawL rawD b).control.mode ≠ .ascent
      ∧ ((s.blockTick rawL rawD b).control.mode = .run → s.control.mode = .run) := by
  cases b with
  | servo =>
    show s.seq.Stands (s.loadTick rawL rawD).seq ∧ (s.loadTick rawL rawD).control.mode ≠ _ ∧ ((s.loadTick rawL rawD).control.mode = _ → _)
    obtain ⟨-, h'⟩ | ⟨-, h'⟩ | ⟨he, h'⟩ := loadTick_cases rawL rawD s
    · rw [h']; exact ⟨.refl _, h.notAscent, id⟩
    · rw [h']; exact ⟨.refl _, h.notAscent, id⟩
    · rw [h']
      obtain ⟨cause, -, h'⟩ | ⟨-, h'⟩ := engagedTick_cases rawL rawD s he <;> rw [h']
      · exact ⟨rfl, Mode.noConfusion, Mode.noConfusion⟩
      · exact ⟨.refl _, h.notAscent, id⟩
  | control =>
    show s.seq.Stands s.fractionTick.seq ∧ s.fractionTick.control.mode ≠ _ ∧ (s.fractionTick.control.mode = _ → _)
    by_cases hd : s.control.mode = .descent
    · rw [fractionTick_of_descent hd]
      split
      · obtain h' | ⟨-, -, h'⟩ := changeMode_cases .parked (s.putQ s.descended) <;> rw [h'] <;>
          exact ⟨rfl, Mode.noConfusion, Mode.noConfusion⟩
      · exact ⟨.refl _, h.notAscent, id⟩
    · rw [fractionTick_of_other hd h.notAscent]
      exact ⟨.refl _, h.notAscent, id⟩
  | sequencer =>
    show s.seq.Stands s.sequenceTick.seq ∧ s.sequenceTick.control.mode ≠ _ ∧ (s.sequenceTick.control.mode = _ → _)
    cases hrunning : s.running with
    | false =>
      rw [sequenceTick_of_stopped hrunning]
      exact ⟨.refl _, h.notAscent, id⟩
    | true =>
      rw [sequenceTick_of_still hrunning h.atRest]
      exact ⟨stepped_stands s, h.notAscent, id⟩
  | recorder => exact ⟨.refl _, h.notAscent, id⟩

theorem allBlocks_noSegmentTime (h : s.NoSegmentTime) (l : List TickBlock) :
    s.seq.Stands (s.allBlocks l rawL rawD).seq ∧ ((s.allBlocks l rawL rawD).control.mode = .run → s.control.mode = .run) := by
  induction l generalizing s with
  | nil => exact ⟨.refl _, id⟩
  | cons b l ih =>
    obtain ⟨hstands, hascent, hrun⟩ := blockTick_noSegmentTime (rawL := rawL) (rawD := rawD) h b
    obtain ⟨hstands', hrun'⟩ := ih (h.of_stands hstands (blockTick_tickMoves rawL rawD s b).settings hascent hrun)
    exact ⟨hstands.trans hstands', hrun ∘ hrun'⟩

/-! ## The steady flag after a tick (R90) -/

theorem blockTick_recorder {b : TickBlock} (hb : b ≠ .recorder) (s : State) : (s.blockTick rawL rawD b).recorder = s.recorder := by
  cases b with
  | servo => obtain ⟨-, -, h, -⟩ := loadTick_keeps rawL rawD s; exact h
  | control => obtain ⟨-, -, h, -⟩ := fractionTick_keeps s; exact h
  | sequencer => obtain ⟨-, -, h, -⟩ := sequenceTick_keeps s; exact h
  | recorder => exact absurd rfl hb

theorem allBlocks_recorder {l : List TickBlock} (hl : .recorder ∉ l) (s : State) : (s.allBlocks l rawL rawD).recorder = s.recorder := by
  induction l generalizing s with
  | nil => rfl
  | cons b l ih =>
    have ⟨hb, hl⟩ := List.ne_and_not_mem_of_not_mem_cons hl
    exact (ih hl _).trans (blockTick_recorder (Ne.symm hb) s)

theorem steadyNow_iff (s : State) : s.steadyNow = true ↔ s.control.mode = .run ∧ 4096000 ≤ s.seq.envelope ∧ 4096000 ≤ s.control.qAcc
    ∧ s.seq.state = .active ∧ s.seq.started = true ∧ s.segment.isCycle = true := by
  unfold State.steadyNow Sequencer.atCycle State.segment
  simp only [Bool.and_eq_true, decide_eq_true_eq, full_le_h_iff, full_le_q_iff, and_assoc]

/-- The frame as the recorder finds it at its part of a tick: on the way from `s` to `t`, and but for a trip as some of the other blocks
leave it. -/
structure State.SteadyView (s t u : State) : Prop where
  blocks : ∃ l, u = s.allBlocks l rawL rawD
  fromView : u.control.mode = t.control.mode ∨ u.control.mode.tickStage < t.control.mode.tickStage
  frame : u.control.mode = .tripped ∨ ∃ l ∈ ([[], [.control], [.sequencer], [.control, .sequencer], [.sequencer, .control]] :
    List (List TickBlock)), (s.allBlocks l rawL rawD).SameFrame u

/-- R90: a tick keeps the steady flag where the recorder finds the cycle steady. -/
theorem servoTick_steady (order : Nat) (rawL rawD : Half) (s : State) :
    ∃ u, State.SteadyView (rawL := rawL) (rawD := rawD) s (s.allBlocks (tickOrder order) rawL rawD) u
      ∧ (s.allBlocks (tickOrder order) rawL rawD).recorder.steady = (s.recorder.steady && u.steadyNow) := by
  obtain ⟨l₁, l₂, horder, h₁, h₂⟩ := tickOrder_split order .recorder
  have hview : s.allBlocks (tickOrder order) rawL rawD = ((s.allBlocks l₁ rawL rawD).steadyTick).allBlocks l₂ rawL rawD := by
    rw [horder, allBlocks_append, allBlocks_cons]
    rfl
  refine ⟨s.allBlocks l₁ rawL rawD, ⟨⟨l₁, rfl⟩, ?_, ?_⟩, ?_⟩
  · rw [hview]
    obtain ⟨hm, -⟩ | ⟨hm, -⟩ := (allBlocks_tickMoves l₂ rawL rawD (s.allBlocks l₁ rawL rawD).steadyTick).control
    · exact .inl hm.symm
    · exact .inr hm
  · refine (allBlocks_tripped_or_sameFrame l₁ rawL rawD (.refl s)).imp_right fun hsame => ⟨_, ?_, hsame⟩
    have hfilter : l₁.filter TickBlock.movesFrame <+: (tickOrder order).filter TickBlock.movesFrame := by
      rw [horder, List.filter_append]
      exact List.prefix_append _ _
    obtain ⟨-, hblocks⟩ | ⟨-, hblocks⟩ := tickOrder_filter_movesFrame order <;>
      · rw [hblocks] at hfilter
        rw [← List.mem_inits] at hfilter
        revert hfilter
        generalize l₁.filter TickBlock.movesFrame = l
        simp [List.inits]
        tauto
  · rw [hview, allBlocks_recorder h₂, State.steadyTick_recorder, allBlocks_recorder h₁]

end Sys2Proof.Machine
end

section
/-! O15: a tick's step of the envelope and of the flags, assembled. -/

namespace Sys2Proof.Machine

variable {s t u : State} {q p : Sequencer} {order : Nat} {rawL rawD : Half}

/-! ## Where no started CYCLE stands after segment time -/

theorem start_not_atCycle (tab : List Segment) (m : Mode) (h : q.started = false) : (q.start tab false m).atCycle tab = false := by
  unfold Sequencer.start
  split
  next => simp [Sequencer.atCycle, h]
  next target ms hbody => simp [Sequencer.atCycle, Segment.isCycle, hbody]
  next ms hbody => simp [Sequencer.atCycle, Segment.isCycle, hbody]
  next => simp [Sequencer.atCycle]

/-- R36, R38: segment time leads to a started CYCLE by no end of a segment. -/
theorem finish_not_atCycle (tab : List Segment) (m : Mode) (met : Bool) (q : Sequencer) :
    (q.finish tab false m met).1.atCycle tab = false := by
  obtain ⟨-, -, h⟩ | ⟨-, h⟩ := finish_cases tab false m met q <;> rw [h]
  · simp [Sequencer.atCycle]
  · obtain ⟨-, h⟩ | ⟨k, -, -, h⟩ | ⟨k, -, -, h⟩ := passOn_cases tab false m q <;> rw [h]
    · simp [Sequencer.atCycle]
    · simp [Sequencer.atCycle, Sequencer.moveTo]
    · exact start_not_atCycle tab m rfl

theorem atCycle_iff (s : State) : s.seq.atCycle s.settings.segments = true
    ↔ s.seq.state = .active ∧ s.seq.started = true ∧ s.segment.isCycle = true := by
  simp [Sequencer.atCycle, State.segment, and_assoc]

theorem time_of_isCycle {g : Segment} (h : g.isCycle = true) : g.time = none := by
  unfold Segment.isCycle at h
  unfold Segment.time
  cases hbody : g.body <;> simp_all

theorem stepped_atCycle (s : State) : s.stepped.atCycle s.settings.segments = s.seq.atCycle s.settings.segments := by
  obtain ⟨hstate, hstarted, -, hindex⟩ := stepped_place s
  rw [Sequencer.atCycle, Sequencer.atCycle, hstate, hstarted, hindex]

/-- R35, R36: a tick of RUN keeps a started CYCLE, and comes to none. -/
theorem sequenceTick_atCycle (hm : s.control.mode = .run) (hopen : s.servo.cutoff = false) (hno : s.seq.atCycle s.settings.segments = false) :
    s.sequenceTick.seq.atCycle s.settings.segments = false := by
  have hrunning : s.running = true := by rw [State.running, hm]
  by_cases hat : s.seq.state = .active ∧ s.seq.started = true ∧ s.segment.time ≠ none
  · obtain ⟨hactive, hstarted, htime⟩ := hat
    obtain ⟨ms, htime⟩ := Option.ne_none_iff_exists'.mp htime
    by_cases hends : s.seq.elapsed + 1 = 4 * ms
    · rw [sequenceTick_of_end hm hactive hstarted htime hends, withSequencer_of_run _ hm hopen]
      split <;> exact finish_not_atCycle s.settings.segments .run s.barrierMet _
    · rw [sequenceTick_of_timed hm hactive hstarted htime hends]
      obtain ⟨hindex, hstate, hstarted'⟩ := timed_place s.segment s.stepped
      have hstep := stepped_atCycle s
      rw [hno] at hstep
      show (s.stepped.timed s.segment).atCycle s.settings.segments = false
      rw [Sequencer.atCycle, hindex, hstate, hstarted']
      exact hstep
  · rw [sequenceTick_of_still hrunning fun _ hactive hstarted => by_contra fun htime => hat ⟨hactive, hstarted, htime⟩]
    exact (stepped_atCycle s).trans hno

theorem sequenceTick_of_cycle (hm : s.control.mode = .run) (hat : s.seq.atCycle s.settings.segments = true) :
    s.sequenceTick = { s with seq := s.stepped } := by
  obtain ⟨-, -, hcycle⟩ := (atCycle_iff s).mp hat
  exact sequenceTick_of_still (by rw [State.running, hm]) fun _ _ _ => time_of_isCycle hcycle

/-! ## The recorder's view in RUN -/

theorem State.SameFrame.steadyNow (h : s.SameFrame u) : u.steadyNow = s.steadyNow := by
  unfold State.steadyNow State.q
  rw [h.control, h.seq, h.settings]

/-- R138: in RUN the recorder finds the frame as the tick found it, or as the sequencer leaves it. -/
theorem State.SteadyView.of_run (h : State.SteadyView (rawL := rawL) (rawD := rawD) s t u) (hm : s.control.mode = .run)
    (hopen : s.servo.cutoff = false) (htrip : t.control.mode ≠ .tripped) : s.SameFrame u ∨ s.sequenceTick.SameFrame u := by
  have hview : u.control.mode ≠ .tripped := by
    intro hu
    obtain hmode | hmode := h.fromView
    · exact htrip (hmode.symm.trans hu)
    · rw [hu] at hmode
      have hlast : t.control.mode.tickStage ≤ 3 := by cases t.control.mode <;> decide
      exact absurd hmode (Nat.not_lt.mpr hlast)
  have hfraction : s.fractionTick = s := fractionTick_of_other (by simp [hm]) (by simp [hm])
  obtain ⟨-, -, hmodes⟩ := sequenceTick_of_run hm hopen
  have hlast : s.sequenceTick.fractionTick = s.sequenceTick := by
    obtain ⟨hmode, -⟩ | ⟨hmode, -⟩ := hmodes <;> exact fractionTick_of_other (by simp [hmode]) (by simp [hmode])
  obtain ⟨l, hl, hframe⟩ := h.frame.resolve_left hview
  simp only [List.mem_cons, List.not_mem_nil, or_false] at hl
  obtain rfl | rfl | rfl | rfl | rfl := hl
  · exact .inl hframe
  · exact .inl (by rwa [allBlocks_cons, State.blockTick, hfraction] at hframe)
  · exact .inr hframe
  · exact .inr (by rwa [allBlocks_cons, State.blockTick, hfraction] at hframe)
  · refine .inr ?_
    rw [allBlocks_cons, allBlocks_cons] at hframe
    rwa [show (s.blockTick rawL rawD .sequencer).blockTick rawL rawD .control = s.sequenceTick from hlast] at hframe

/-- R90: in RUN the recorder finds no steady cycle where the envelope or the fraction is not full, or no CYCLE runs. -/
theorem State.SteadyView.not_steady (h : State.SteadyView (rawL := rawL) (rawD := rawD) s t u) (hm : s.control.mode = .run)
    (hopen : s.servo.cutoff = false) (htrip : t.control.mode ≠ .tripped)
    (hno : ¬ 4096000 ≤ s.control.qAcc ∨ s.stepped.envelope < 4096000 ∨ s.seq.atCycle s.settings.segments = false) :
    u.steadyNow = false := by
  refine Bool.eq_false_iff.mpr fun hsteady => ?_
  have hrises : s.seq.envelope < 4096000 ∨ 4096000 ≤ s.stepped.envelope := by
    refine (Nat.lt_or_ge _ _).imp_right fun hfull => ?_
    rw [stepped_envelope, hm]
    exact envelopeStep_full _ (.inl rfl) hfull
  obtain hframe | hframe := h.of_run hm hopen htrip <;> rw [hframe.steadyNow, steadyNow_iff] at hsteady
  · obtain ⟨-, henvelope, hq, hat⟩ := hsteady
    obtain hno | hno | hno := hno
    · exact hno hq
    · omega
    · rw [(atCycle_iff s).mpr hat] at hno
      exact Bool.false_ne_true hno.symm
  · obtain ⟨henvelope', -, hmodes⟩ := sequenceTick_of_run hm hopen
    have hq' : s.sequenceTick.control.qAcc = s.control.qAcc := by
      obtain ⟨-, -, hcontrol⟩ | ⟨-, hcontrol⟩ := sequenceTick_control_of_run hm hopen <;> rw [hcontrol]
      rfl
    obtain ⟨-, henvelope, hq, hat⟩ := hsteady
    obtain hno | hno | hno := hno
    · exact hno (hq' ▸ hq)
    · omega
    · have hsettings : s.sequenceTick.settings = s.settings := (withSequencer_tickMoves _ s).settings
      have hnone := sequenceTick_atCycle hm hopen hno
      rw [← hsettings, (atCycle_iff s.sequenceTick).mpr hat] at hnone
      exact Bool.false_ne_true hnone.symm

/-- R90: and finds one where all three hold before the tick. -/
theorem State.SteadyView.steady (h : State.SteadyView (rawL := rawL) (rawD := rawD) s t u) (hm : s.control.mode = .run)
    (hopen : s.servo.cutoff = false) (htrip : t.control.mode ≠ .tripped) (hq : 4096000 ≤ s.control.qAcc)
    (henvelope : 4096000 ≤ s.seq.envelope) (hat : s.seq.atCycle s.settings.segments = true) : u.steadyNow = true := by
  have hplace := (atCycle_iff s).mp hat
  obtain hframe | hframe := h.of_run hm hopen htrip <;> rw [hframe.steadyNow, steadyNow_iff]
  · exact ⟨hm, henvelope, hq, hplace⟩
  · rw [sequenceTick_of_cycle hm hat]
    refine ⟨hm, ?_, hq, (atCycle_iff { s with seq := s.stepped }).mp ((stepped_atCycle s).trans hat)⟩
    show 4096000 ≤ s.stepped.envelope
    rw [stepped_envelope, hm]
    exact envelopeStep_full _ (.inl rfl) henvelope

/-- R90: outside RUN, and in an ASCENT that lasts, the recorder finds no steady cycle. -/
theorem State.SteadyView.of_not_run (h : State.SteadyView (rawL := rawL) (rawD := rawD) s t u) (hm : s.control.mode ≠ .run)
    (hascent : s.control.mode ≠ .ascent ∨ t.control.mode = .ascent) : u.steadyNow = false := by
  refine Bool.eq_false_iff.mpr fun hsteady => ?_
  have hrun := ((steadyNow_iff u).mp hsteady).1
  obtain ha | ha := ne_or_eq s.control.mode .ascent
  · obtain ⟨l, rfl⟩ := h.blocks
    exact hm ((allBlocks_noSegmentTime ⟨ha, fun h => absurd h hm⟩ l).2 hrun)
  · have htail := h.fromView
    rw [hrun, hascent.resolve_left (not_not.mpr ha)] at htail
    exact htail.elim Mode.noConfusion (by decide)

/-! ## The flags and the envelope, block by block -/

theorem enter_clean (tab : List Segment) (m : Mode) (q : Sequencer) (h : (q.enter tab m).clean = true) : q.clean = true := by
  by_cases hm : m = .run
  · subst hm
    exact (enterRun_keepsEnvelope tab q).clean h
  · have hstands : (q.enter tab m).clean = q.clean := by cases m <;> first | rfl | exact absurd rfl hm
    rwa [hstands] at h

theorem changeMode_clean (m : Mode) (h : (s.changeMode m).seq.clean = true) : s.seq.clean = true := by
  obtain h' | ⟨-, -, h'⟩ := changeMode_cases m s <;> rw [h'] at h
  · exact enter_clean _ m s.seq h
  · exact enter_clean s.settings.segments m s.seq (enter_clean s.settings.segments .tripped _ h)

/-- A frame that comes to TRIPPED comes with the envelope at 0 and no soft start (R43, R45). -/
theorem changeMode_tripped_envelope {m : Mode} (hm : m ≠ .tripped) (h : (s.changeMode m).control.mode = .tripped) :
    (s.changeMode m).seq.envelope = 0 ∧ (s.changeMode m).seq.softStep = none := by
  obtain h' | ⟨-, -, h'⟩ := changeMode_cases m s <;> rw [h'] at h ⊢
  · exact absurd h hm
  · exact ⟨rfl, rfl⟩

theorem tick_clean (tab : List Segment) (rate : Nat) (m : Mode) (fraction : Nat) (met : Bool) (q : Sequencer)
    (h : (q.tick tab rate m fraction met).1.clean = true) : q.clean = true := by
  have hstep : ((q.envelopeStep rate m).cleanStep m fraction).clean = true → q.clean = true := by
    intro hset
    have hkept := (cleanStep_le m fraction _ hset).1
    rwa [envelopeStep_keeps] at hkept
  have htime : (((q.envelopeStep rate m).cleanStep m fraction).timeStep tab m met).1.clean = true → q.clean = true := by
    refine hstep ∘ ?_
    generalize (q.envelopeStep rate m).cleanStep m fraction = p
    unfold Sequencer.timeStep
    split
    · split
      · dsimp only
        split
        · exact (finish_keepsEnvelope tab m met _).clean
        · exact id
      · dsimp only
        split
        · exact (finish_keepsEnvelope tab m met _).clean
        · exact id
      · exact id
    · exact id
  cases m <;> first | exact h | exact htime h

theorem withSequencer_clean {r : Sequencer × Bool} (h : (s.withSequencer r).seq.clean = true) : r.1.clean = true := by
  unfold State.withSequencer at h
  split at h
  · obtain ⟨-, h'⟩ | ⟨-, h'⟩ := holdRequest_cases { s with seq := r.1 } <;> rw [h'] at h
    · exact changeMode_clean (s := { s with seq := r.1 }) .hold h
    · exact h
  · exact h

/-- R37: no block sets the clean flag. -/
theorem blockTick_clean (b : TickBlock) (h : (s.blockTick rawL rawD b).seq.clean = true) : s.seq.clean = true := by
  cases b with
  | servo =>
    change (s.loadTick rawL rawD).seq.clean = true at h
    obtain ⟨-, h'⟩ | ⟨-, h'⟩ | ⟨he, h'⟩ := loadTick_cases rawL rawD s <;> rw [h'] at h
    · exact h
    · exact h
    · obtain ⟨cause, -, h'⟩ | ⟨-, h'⟩ := engagedTick_cases rawL rawD s he <;> rw [h'] at h <;> exact h
  | control =>
    change s.fractionTick.seq.clean = true at h
    by_cases hd : s.control.mode = .descent
    · rw [fractionTick_of_descent hd] at h
      split at h
      · exact changeMode_clean (s := s.putQ s.descended) _ h
      · exact h
    by_cases ha : s.control.mode = .ascent
    · rw [fractionTick_of_ascent ha] at h
      split at h
      · exact changeMode_clean (s := s.putQ s.ascended) _ h
      · exact h
    rwa [fractionTick_of_other hd ha] at h
  | sequencer => exact tick_clean _ _ _ _ _ _ (withSequencer_clean h)
  | recorder => exact h

theorem allBlocks_clean (l : List TickBlock) (h : (s.allBlocks l rawL rawD).seq.clean = true) : s.seq.clean = true := by
  induction l generalizing s with
  | nil => exact h
  | cons b l ih => exact blockTick_clean b (ih h)

/-- R43: a frame in TRIPPED has its envelope at 0 and no soft start. -/
def State.TrippedFlat (s : State) : Prop := s.control.mode = .tripped → s.seq.envelope = 0 ∧ s.seq.softStep = none

theorem blockTick_trippedFlat (h : s.TrippedFlat) (b : TickBlock) : (s.blockTick rawL rawD b).TrippedFlat := by
  intro hm
  cases b with
  | servo =>
    change (s.loadTick rawL rawD).control.mode = .tripped at hm
    show (s.loadTick rawL rawD).seq.envelope = 0 ∧ (s.loadTick rawL rawD).seq.softStep = none
    obtain ⟨-, h'⟩ | ⟨-, h'⟩ | ⟨he, h'⟩ := loadTick_cases rawL rawD s <;> rw [h'] at hm ⊢
    · exact h hm
    · exact h hm
    · obtain ⟨cause, -, h'⟩ | ⟨-, h'⟩ := engagedTick_cases rawL rawD s he <;> rw [h'] at hm ⊢
      · exact ⟨rfl, rfl⟩
      · exact h hm
  | control =>
    change s.fractionTick.control.mode = .tripped at hm
    show s.fractionTick.seq.envelope = 0 ∧ s.fractionTick.seq.softStep = none
    by_cases hd : s.control.mode = .descent
    · rw [fractionTick_of_descent hd] at hm ⊢
      split at hm
      · rw [if_pos ‹_›]
        exact changeMode_tripped_envelope (by decide) hm
      · rw [if_neg ‹_›]
        exact h hm
    by_cases ha : s.control.mode = .ascent
    · rw [fractionTick_of_ascent ha] at hm ⊢
      split at hm
      · rw [if_pos ‹_›]
        exact changeMode_tripped_envelope (by decide) hm
      · rw [if_neg ‹_›]
        exact h hm
    rw [fractionTick_of_other hd ha] at hm ⊢
    exact h hm
  | sequencer =>
    change s.sequenceTick.control.mode = .tripped at hm
    show s.sequenceTick.seq.envelope = 0 ∧ s.sequenceTick.seq.softStep = none
    by_cases htrip : s.control.mode = .tripped
    · rw [sequenceTick_at_rest (.inr htrip)]
      exact ⟨rfl, (h htrip).2⟩
    · unfold State.sequenceTick State.withSequencer at hm ⊢
      split at hm
      · rw [if_pos ‹_›]
        generalize (s.seq.tick s.settings.segments s.settings.holdRate s.control.mode s.q s.barrierMet).1 = q at hm ⊢
        obtain ⟨-, h'⟩ | ⟨-, h'⟩ := holdRequest_cases { s with seq := q } <;> rw [h'] at hm ⊢
        · exact changeMode_tripped_envelope (by decide) hm
        · exact absurd hm htrip
      · exact absurd hm htrip
  | recorder => exact h hm

theorem allBlocks_trippedFlat (h : s.TrippedFlat) (l : List TickBlock) : (s.allBlocks l rawL rawD).TrippedFlat := by
  induction l generalizing s with
  | nil => exact h
  | cons b l ih => exact ih (blockTick_trippedFlat h b)

theorem noteMove_settle_recorder (s : State) : s.noteMove.settle.recorder = s.recorder := by
  obtain ⟨⟨-, -, hrecorder, -⟩, -⟩ := settle_keeps s.noteMove
  rw [hrecorder]
  obtain ⟨-, h⟩ | ⟨-, h⟩ := noteMove_cases s <;> rw [h]

theorem running_of_mode {m : Mode} (hm : s.control.mode = m) (h : m.engaged = true) : s.running = true :=
  running_of_engaged (by rw [hm, h])

/-- Settles O15: the envelope's step by the frame that the tick leaves, the flags by what the recorder and the sequencer find. -/
theorem ticksStepTheEnvelope : Obligations.TicksStepTheEnvelope := by
  intro order rawL rawD s hopen full atCycle
  have hat : s.seq.atCycle s.settings.segments = true ↔ atCycle := atCycle_iff s
  have hframe := servoTick_frameOutcome order rawL rawD s
  obtain ⟨view, hview, hsteady⟩ := servoTick_steady (rawL := rawL) (rawD := rawD) order s
  have hflat := allBlocks_trippedFlat (s := s) (rawL := rawL) (rawD := rawD)
  have hclean := allBlocks_clean (s := s) (rawL := rawL) (rawD := rawD) (tickOrder order)
  have hcontrol := noteMove_settle_control (s.allBlocks (tickOrder order) rawL rawD)
  have hseq := noteMove_settle_seq (s.allBlocks (tickOrder order) rawL rawD)
  refine ⟨_, rfl, ?_⟩
  rw [← noteMove_settle_recorder] at hsteady
  rw [← hseq] at hclean
  have hflat' (he : s.control.mode.engaged = true) := hflat (fun h => by rw [h] at he; exact absurd he Bool.false_ne_true) (tickOrder order)
  unfold State.TrippedFlat at hflat'
  rw [← hseq, ← hcontrol] at hflat'
  have hmode := congrArg Control.mode hcontrol
  generalize s.allBlocks (tickOrder order) rawL rawD = v at hview hmode hframe hsteady hflat' hclean ⊢
  generalize v.noteMove.settle = t at hmode hframe hsteady hflat' hclean ⊢
  have hunsteady (h : view.steadyNow = false) : t.recorder.steady = false := by rw [hsteady, h, Bool.and_false]
  refine ⟨fun ⟨htrip, he⟩ => hflat' he htrip, fun htrip => ?_, fun hm hascent => hunsteady (hview.of_not_run hm (by rwa [← hmode])),
    hclean, fun h => ?_⟩
  · have hsteps (hrunning : s.running = true) := hframe.steps hrunning hopen htrip
    have hnoclean (hrunning : s.running = true) (hm : s.control.mode ≠ .run) (ha : s.control.mode ≠ .ascent ∨ t.control.mode = .ascent) :
        t.seq.clean = false := Bool.eq_false_iff.mpr fun hset => by
      obtain hset | ⟨-, hascent, hleft⟩ := (hsteps hrunning).clean hset
      · exact hm ((stepped_clean_iff s).mp hset).2.2.2
      · exact ha.elim (fun h => h hascent) hleft
    refine ⟨?rises, ?hold, ?still, ?soft, ?run, ?ascent⟩
    case rises =>
      intro hm
      have hstep := hsteps (hm.elim (running_of_mode · rfl) (running_of_mode · rfl))
      obtain ⟨hsoft, hnone⟩ := envelopeStep_of_rising s.settings.holdRate hm s.seq
      have hgoal := hstep.softStep
      rw [hstep.envelope, stepped_envelope, hgoal, stepped_softStep]
      refine ⟨fun step hs => ⟨(hsoft step hs).1, fun hfull => ?_, fun hbelow => ?_⟩, fun hs => ⟨(hnone hs).1, ?_⟩⟩
      · rw [(hsoft step hs).2, if_pos hfull, ite_self]
      · rw [(hsoft step hs).2, if_neg (Nat.not_le.mpr hbelow)]
        refine if_congr ⟨?_, .inr⟩ rfl rfl
        rintro (h | h)
        · rwa [h]
        · exact h
      · rw [(hnone hs).2, ite_self]
    case hold =>
      intro hm
      have hrunning := running_of_mode hm rfl
      refine ⟨?_, hnoclean hrunning (by simp [hm]) (.inl (by simp [hm]))⟩
      rw [(hsteps hrunning).envelope, stepped_envelope, hm]
      rfl
    case still =>
      intro hm
      have hrunning := hm.elim (running_of_mode · rfl) (running_of_mode · rfl)
      refine ⟨?_, hnoclean hrunning (by obtain hm | hm := hm <;> simp [hm]) (.inl (by obtain hm | hm := hm <;> simp [hm]))⟩
      rw [(hsteps hrunning).envelope, stepped_envelope]
      obtain hm | hm := hm <;> rw [hm] <;> rfl
    case soft =>
      intro hm
      have hrunning := hm.elim (running_of_mode · rfl) fun hm => hm.elim (running_of_mode · rfl) (running_of_mode · rfl)
      rw [State.SoftStartFollows, (hsteps hrunning).softStep, stepped_softStep]
      refine if_congr Iff.rfl ?_ rfl
      obtain hm | hm | hm := hm <;> rw [hm] <;> rfl
    case run =>
      intro hm
      have hstep := hsteps (running_of_mode hm rfl)
      have htrip' : v.control.mode ≠ .tripped := by rwa [← hmode]
      refine ⟨fun h => ⟨?_, hunsteady (hview.not_steady hm hopen htrip' ?_)⟩, fun hq henvelope hcycle => ?_,
        fun hno => hunsteady (hview.not_steady hm hopen htrip' (.inr (.inr (Bool.eq_false_iff.mpr (mt hat.mp hno))))), fun hq henvelope hcycle => ?_⟩
      · refine Bool.eq_false_iff.mpr fun hset => ?_
        obtain hset | ⟨-, hascent, -⟩ := hstep.clean hset
        · obtain ⟨-, hfull, hq, -⟩ := (stepped_clean_iff s).mp hset
          rw [hstep.envelope] at h
          exact h.elim (fun h => h hq) (Nat.not_lt.mpr hfull)
        · rw [hm] at hascent
          exact Mode.noConfusion hascent
      · rw [hstep.envelope] at h
        exact h.imp_right .inl
      · obtain ⟨-, hseq⟩ := hframe.of_run hopen hm htrip
        rw [sequenceTick_of_cycle hm (hat.mpr hcycle)] at hseq
        rw [Bool.eq_iff_iff, hseq]
        refine (stepped_clean_iff s).trans ⟨And.left, fun hset => ⟨hset, ?_, hq, hm⟩⟩
        rwa [← hstep.envelope]
      · rw [hsteady, hview.steady hm hopen htrip' hq henvelope (hat.mpr hcycle), Bool.and_true]
    case ascent => exact fun hm hlasts => hnoclean (running_of_mode hm rfl) (by simp [hm]) (.inr hlasts)
  · rw [hsteady, Bool.and_eq_true] at h
    exact h.1

end Sys2Proof.Machine
end

section
/-! O16 and O17: segment time in a tick, and the end of a RAMP or a DWELL. -/

namespace Sys2Proof.Machine

variable {s t u : State} {q p : Sequencer} {order : Nat} {rawL rawD : Half}

/-! ## Segment time (O16) -/

/-- R34, R35: a tick of segment time that does not end its segment, kind by kind. -/
theorem sequenceTick_ticked (hm : s.control.mode = .run) (hactive : s.seq.state = .active) (hstarted : s.seq.started = true) :
    (∀ target ms, s.segment.body = .ramp target ms → s.seq.elapsed + 1 < 4 * ms →
        s.seq.Stands { s.sequenceTick.seq with elapsed := s.seq.elapsed, base := s.seq.base }
          ∧ s.sequenceTick.seq.elapsed = s.seq.elapsed + 1
          ∧ s.sequenceTick.seq.base = s.seq.rampStart + Int.tdiv ((target - s.seq.rampStart) * (s.seq.elapsed + 1 : Nat)) (4 * ms : Nat))
      ∧ ∀ ms, s.segment.body = .dwell ms → s.seq.elapsed + 1 < 4 * ms →
        s.seq.Stands { s.sequenceTick.seq with elapsed := s.seq.elapsed } ∧ s.sequenceTick.seq.elapsed = s.seq.elapsed + 1 := by
  have hstands := stepped_stands s
  unfold Sequencer.Stands at hstands
  refine ⟨fun target ms hbody hgoes => ?_, fun ms hbody hgoes => ?_⟩
  · have htime : s.segment.time = some ms := by rw [Segment.time, hbody]
    have htimed : s.stepped.timed s.segment = { s.stepped with
        elapsed := s.stepped.elapsed + 1, base := rampBase s.stepped.rampStart target (s.stepped.elapsed + 1) ms } := by
      rw [Sequencer.timed, hbody]
    rw [sequenceTick_of_timed hm hactive hstarted htime (Nat.ne_of_lt hgoes), htimed]
    dsimp only
    rw [hstands]
    exact ⟨rfl, rfl, rfl⟩
  · have htime : s.segment.time = some ms := by rw [Segment.time, hbody]
    have htimed : s.stepped.timed s.segment = { s.stepped with elapsed := s.stepped.elapsed + 1 } := by
      rw [Sequencer.timed, hbody]
    rw [sequenceTick_of_timed hm hactive hstarted htime (Nat.ne_of_lt hgoes), htimed]
    dsimp only
    rw [hstands]
    exact ⟨rfl, rfl⟩

/-- R33, R48: the entry to RUN. -/
theorem enterRun_eq (s : State) : s.seq.enter s.settings.segments .run = s.entered := by
  unfold Sequencer.enter State.entered Sequencer.start State.segment
  dsimp only
  split
  next hwaits =>
    obtain ⟨hactive, hstarted⟩ := hwaits
    cases (segmentAt s.settings.segments s.seq.index).body <;> simp [hactive, hstarted]
  next => rfl

theorem enterRun_stands (tab : List Segment) (h : p.Stands q) : (p.enter tab .run).Stands (q.enter tab .run) := by
  have hstart : (p.start tab false .run).Stands (q.start tab false .run) := by
    unfold Sequencer.Stands at h
    unfold Sequencer.start
    have hindex : q.index = p.index := by rw [h]
    rw [hindex]
    cases (segmentAt tab p.index).body <;>
      · unfold Sequencer.Stands
        dsimp only
        rw [h]
        try rfl
  unfold Sequencer.enter
  dsimp only
  have hstate : q.state = p.state := by rw [h]
  have hstarted : q.started = p.started := by rw [h]
  rw [hstate, hstarted]
  split
  · exact hstart
  · exact h

theorem entered_place (s : State) : s.entered.index = s.seq.index ∧ s.entered.elapsed = s.seq.elapsed := by
  rw [← enterRun_eq]
  exact enter_run_keeps s.settings.segments s.seq

/-- R130: an ASCENT that leaves ASCENT does so by the mode controller, and the sequencer enters RUN. -/
theorem fractionTick_of_left (hopen : s.servo.cutoff = false) (hm : s.control.mode = .ascent) (h : s.fractionTick.control.mode ≠ .ascent) :
    s.fractionTick.control.mode = .run ∧ s.fractionTick.seq = s.entered := by
  obtain ⟨hmode, -⟩ | ⟨hdescent, -⟩ | ⟨-, hmode, hseq⟩ := fractionTick_seq_cases hopen
  · exact absurd (hmode.trans hm) h
  · rw [hm] at hdescent
    exact Mode.noConfusion hdescent
  · exact ⟨hmode, hseq.trans (enterRun_eq s)⟩

/-- R35, R37: an ASCENT that lasts advances no segment time. -/
theorem State.FrameOutcome.stands_of_ascent (h : s.FrameOutcome order t) (hopen : s.servo.cutoff = false) (hm : s.control.mode = .ascent)
    (hlasts : t.control.mode = .ascent) : s.seq.Stands t.seq := by
  have hrunning := running_of_mode hm rfl
  obtain htrip | ⟨-, hcontrol, hseq⟩ | ⟨-, hcontrol, hseq⟩ := h
  · rw [hlasts] at htrip
    exact Mode.noConfusion htrip
  · obtain ⟨hmode, hsame⟩ | ⟨hdescent, -⟩ | ⟨-, hmode, -⟩ := fractionTick_seq_cases hopen
    · have hrunning' : s.fractionTick.running = true := by rwa [State.running, hmode]
      rw [hseq, sequenceTick_of_running hrunning' (by rw [hmode, hm]; decide), ← hsame]
      exact stepped_stands s.fractionTick
    · rw [hm] at hdescent
      exact Mode.noConfusion hdescent
    · obtain ⟨-, -, hmodes⟩ := sequenceTick_of_run hmode (fractionTick_open hopen)
      rw [hcontrol] at hlasts
      obtain ⟨hmode', -⟩ | ⟨hmode', -⟩ := hmodes <;> · rw [hmode'] at hlasts; exact Mode.noConfusion hlasts
  · rw [sequenceTick_of_running hrunning (by rw [hm]; decide)] at hcontrol hseq
    have hcases := fractionTick_seq_cases (s := { s with seq := s.stepped }) hopen
    obtain ⟨-, hsame⟩ | ⟨hdescent, -⟩ | ⟨-, hmode, -⟩ := hcases
    · rw [hseq, hsame]
      exact stepped_stands s
    · exact Mode.noConfusion (hm.symm.trans hdescent)
    · rw [hcontrol, hmode] at hlasts
      exact Mode.noConfusion hlasts

theorem sequenceTick_mode_of_other (h : s.control.mode = .ascent) : s.sequenceTick.control.mode = .ascent := by
  rw [sequenceTick_control_of_not_run (by rw [h]; decide), h]

/-- Settles O16: in RUN by the sequencer's tick, elsewhere by the blocks that leave the position, and at the end of an ASCENT by the
order of the blocks. -/
theorem rampsAndDwellsTakeTheirTime : Obligations.RampsAndDwellsTakeTheirTime := by
  intro order rawL rawD s hopen timed ticked
  have htimed : timed ↔ s.segment.time.isSome = true := (segment_time_isSome_iff s.segment).symm
  have hframe := servoTick_frameOutcome order rawL rawD s
  have hrests (h : s.NoSegmentTime) := (allBlocks_noSegmentTime (rawL := rawL) (rawD := rawD) h (tickOrder order)).1
  rw [← noteMove_settle_seq (s.allBlocks (tickOrder order) rawL rawD)] at hrests
  refine ⟨_, rfl, ?_⟩
  generalize (s.allBlocks (tickOrder order) rawL rawD).noteMove.settle = t at hframe hrests ⊢
  refine ⟨fun hm hactive hstarted => or_iff_not_imp_left.mpr fun htrip => ?_, fun hm hno => ?_,
    fun hrun hm => ?_, fun hm hleft => ?_⟩
  · obtain ⟨-, hseq⟩ := hframe.of_run hopen hm htrip
    have h := sequenceTick_ticked hm hactive hstarted
    rw [← hseq] at h
    exact h
  · refine hrests ⟨by rw [hm]; decide, fun _ hactive hstarted => ?_⟩
    exact Option.not_isSome_iff_eq_none.mp fun hsome => hno ⟨hactive, hstarted, htimed.mpr hsome⟩
  · by_cases ha : s.control.mode = .ascent
    · exact hframe.stands_of_ascent hopen ha (hm.resolve_left (not_not.mpr ha))
    · exact hrests ⟨ha, fun h => absurd h hrun⟩
  · intro moves
    obtain ⟨hindex, helapsed⟩ := entered_place s
    have hascent : t.control.mode ≠ .ascent := by obtain h | h := hleft <;> rw [h] <;> decide
    have htrip : t.control.mode ≠ .tripped := by obtain h | h := hleft <;> rw [h] <;> decide
    obtain h | ⟨hfirst, hcontrol, hseq⟩ | ⟨hlast, hcontrol, hseq⟩ := hframe
    · exact absurd h htrip
    · have hfraction : s.fractionTick.control.mode ≠ .ascent := fun h => hascent (by rw [hcontrol, sequenceTick_mode_of_other h])
      obtain ⟨hmode, hentered⟩ := fractionTick_of_left hopen hm hfraction
      have hsettings := fractionTick_settings s
      generalize s.fractionTick = u at hseq hmode hentered hsettings
      have hsegment : u.segment = s.segment := by rw [State.segment, State.segment, hsettings, hentered, hindex]
      refine ⟨fun ⟨_, hactive, hstarted, _⟩ => ?_, fun hno => ?_⟩
      · have h := sequenceTick_ticked hmode (by rw [hentered, hactive]) (by rw [hentered, hstarted])
        rw [← hseq, hsegment, hentered, helapsed] at h
        exact ⟨fun target ms hbody hgoes => helapsed ▸ h.1 target ms hbody hgoes, fun ms hbody hgoes => helapsed ▸ h.2 ms hbody hgoes⟩
      · rw [hseq, sequenceTick_of_still (running_of_mode hmode rfl), ← hentered]
        · exact stepped_stands u
        · intro _ hactive hstarted
          rw [hsegment]
          rw [hentered] at hactive hstarted
          exact Option.not_isSome_iff_eq_none.mp fun hsome => hno ⟨hfirst, hactive, hstarted, htimed.mpr hsome⟩
    · refine ⟨fun hmoves => absurd hmoves.1 hlast, fun _ => ?_⟩
      have hrunning := running_of_mode hm rfl
      rw [sequenceTick_of_running hrunning (by rw [hm]; decide)] at hcontrol hseq
      obtain ⟨hmode, -⟩ | ⟨hdescent, -⟩ | ⟨-, -, hentered⟩ := fractionTick_seq_cases (s := { s with seq := s.stepped }) hopen
      · exact absurd ((congrArg Control.mode hcontrol).trans (hmode.trans hm)) hascent
      · exact Mode.noConfusion (hm.symm.trans hdescent)
      · rw [hseq, hentered, ← enterRun_eq]
        exact enterRun_stands s.settings.segments (stepped_stands s)

end Sys2Proof.Machine
end

section
/-! O17: the tick at which the time of a RAMP or a DWELL is up. -/

namespace Sys2Proof.Machine

variable {s t u : State} {q p : Sequencer} {order : Nat} {rawL rawD : Half}

/-! ## The report of a tick that the load servo takes first (R14) -/

theorem loadTick_clampFlag (he : s.control.mode.engaged = true) :
    (s.loadTick rawL rawD).servo.clampFlag = (s.measured rawL rawD).clampFlag := by
  obtain ⟨hstopped, -⟩ | ⟨hrest, -⟩ | ⟨-, h'⟩ := loadTick_cases rawL rawD s
  · exact absurd (running_of_engaged he) (by simp [hstopped])
  · obtain hrest | hrest := hrest <;> · rw [hrest] at he; exact absurd he Bool.false_ne_true
  · rw [h']
    obtain ⟨cause, -, h'⟩ | ⟨-, h'⟩ := engagedTick_cases rawL rawD s he <;> rw [h'] <;> rfl

theorem loadTick_cutoff (s : State) : (s.loadTick rawL rawD).servo.cutoff = s.servo.cutoff := by
  obtain ⟨-, h⟩ | ⟨-, h⟩ | ⟨he, h⟩ := loadTick_cases rawL rawD s <;> rw [h]
  · rfl
  · obtain ⟨cause, -, h⟩ | ⟨-, h⟩ := engagedTick_cases rawL rawD s he <;> rw [h] <;> rfl

theorem servoTick_reportsWith (horder : order % 4 = 0) (he : s.control.mode.engaged = true) (hopen : s.servo.cutoff = false)
    (hlimits : s.settings.loadMin ≤ s.settings.loadMax)
    (hmoved : (s.allBlocks (tickOrder order) rawL rawD).control.mode ≠ s.control.mode) :
    s.ReportsWith .prompt (s.servo.clampFlag || decide (max s.settings.loadMin (min s.settings.loadMax s.commandRaw) ≠ s.commandRaw))
      (s.allBlocks (tickOrder order) rawL rawD).noteMove.settle := by
  obtain ⟨l, hl, hservo⟩ := tickOrder_of_servo_first horder
  have hmoves := allBlocks_tickMoves (tickOrder order) rawL rawD s
  have hline : (s.allBlocks (tickOrder order) rawL rawD).line = { s.line with prompt := true } := by
    rw [hmoves.line, hmoves.prompt_of_changed hmoved]
  have hclamp : (s.allBlocks (tickOrder order) rawL rawD).servo.clampFlag
      = (s.servo.clampFlag || decide (max s.settings.loadMin (min s.settings.loadMax s.commandRaw) ≠ s.commandRaw)) := by
    rw [hl, allBlocks_cons, (allBlocks_leavesServo hservo rawL rawD (s.blockTick rawL rawD .servo)).of_open ((loadTick_cutoff s).trans hopen)]
    exact (loadTick_clampFlag he).trans (by rw [measured_eq rawL rawD hlimits])
  generalize s.allBlocks (tickOrder order) rawL rawD = v at hline hclamp ⊢
  rw [← hclamp]
  obtain ⟨-, h⟩ | ⟨-, h⟩ := noteMove_cases v <;> rw [h]
  · exact settle_reportsWith (s := s) (u := { v with line := { v.line with prompt := true } }) (by rw [hline])
  · exact settle_reportsWith hline

/-! ## The end of the segment -/

/-- What a RAMP or a DWELL that ends in RUN at `s` leaves: R39 to R42, with B at `target`. -/
def State.EndsAt (s : State) (target : Int) (m : Mode) (q : Sequencer) : Prop :=
  q.base = target ∧
    if s.segment.groupAdvance = true ∧ s.barrierMet = false then
      q.state = .barrier ∧ q.index = s.seq.index ∧ q.started = true ∧ m = .run
    else
      match s.segment.link with
      | none => q.state = .complete ∧ q.complete = true ∧ q.index = s.seq.index ∧ m = .hold
      | some k =>
        q.index = k ∧ q.elapsed = 0 ∧ q.clean = false
          ∧ if s.segment.pause then q.state = .active ∧ q.started = false ∧ m = .hold
            else m = .run ∧
              match (segmentAt s.settings.segments k).body with
              | .none => True
              | .ramp _ _ => q.state = .active ∧ q.started = true ∧ q.rampStart = target
              | .dwell _ => q.state = .active ∧ q.started = true
              | .cycle _ _ _ _ n _ => q.state = .preCycle ∧ q.started = false ∧ q.remaining = n

/-- R34: a RAMP comes to its target. -/
theorem rampBase_end (from_ target : Int) {ms : Nat} (h : 1 ≤ ms) : rampBase from_ target (4 * ms) ms = target := by
  have hne : (4 * (ms : Int)) ≠ 0 := by omega
  have hquot : divZ ((target - from_) * ((4 * ms : Nat) : Int)) (4 * ms) = target - from_ := by
    rw [divZ]
    push_cast
    exact Int.mul_tdiv_cancel _ hne
  unfold rampBase
  rw [hquot]
  omega

theorem start_base (tab : List Segment) (m : Mode) (q : Sequencer) : (q.start tab false m).base = q.base := by
  unfold Sequencer.start
  repeat' split
  all_goals first | rfl | contradiction

/-- R33: the kinds of a segment that starts without a mark. -/
theorem start_kinds (tab : List Segment) (m : Mode) {k : Nat} (hindex : q.index = k)
    (hremaining : q.remaining = (segmentAt tab k).count) :
    match (segmentAt tab k).body with
    | .none => True
    | .ramp _ _ => (q.start tab false m).state = .active ∧ (q.start tab false m).started = true ∧ (q.start tab false m).rampStart = q.base
    | .dwell _ => (q.start tab false m).state = .active ∧ (q.start tab false m).started = true
    | .cycle _ _ _ _ n _ => (q.start tab false m).state = .preCycle ∧ (q.start tab false m).started = false ∧ (q.start tab false m).remaining = n := by
  unfold Sequencer.start
  rw [hindex]
  unfold Segment.count at hremaining
  cases hbody : (segmentAt tab k).body <;> simp_all

/-- The mode after the sequencer's request in RUN (R138). -/
theorem withSequencer_mode_of_run (r : Sequencer × Bool) (hm : s.control.mode = .run) (hopen : s.servo.cutoff = false) :
    (s.withSequencer r).control.mode = (if r.2 = true then .hold else .run)
      ∧ r.1.Stands (s.withSequencer r).seq := by
  rw [withSequencer_of_run r hm hopen]
  split
  · exact ⟨rfl, rfl⟩
  · exact ⟨hm, .refl _⟩

/-- R38: the end of a segment in RUN whose position has taken its last tick of time. -/
theorem finish_endsAt {target : Int} (hm : s.control.mode = .run) (hopen : s.servo.cutoff = false) (hindex : q.index = s.seq.index)
    (hstarted : q.started = true) (hbase : q.base = target) :
    s.EndsAt target (s.withSequencer (q.finish s.settings.segments false .run s.barrierMet)).control.mode
      (s.withSequencer (q.finish s.settings.segments false .run s.barrierMet)).seq := by
  have hsegment : segmentAt s.settings.segments q.index = s.segment := by rw [hindex, State.segment]
  obtain ⟨hmode, hseq⟩ := withSequencer_mode_of_run (q.finish s.settings.segments false .run s.barrierMet) hm hopen
  have hcleanFalse : (q.finish s.settings.segments false .run s.barrierMet).1.clean = false →
      (s.withSequencer (q.finish s.settings.segments false .run s.barrierMet)).seq.clean = false := by
    intro hno
    exact Bool.eq_false_iff.mpr fun hset => Bool.false_ne_true (hno.symm.trans (withSequencer_clean hset))
  rw [hmode]
  generalize (s.withSequencer (q.finish s.settings.segments false .run s.barrierMet)).seq = r at hseq hcleanFalse ⊢
  unfold State.EndsAt
  obtain ⟨hgroup, hmet, h⟩ | ⟨hpass, h⟩ := finish_cases s.settings.segments false .run s.barrierMet q
  · rw [hsegment] at hgroup
    rw [h] at hseq ⊢
    rw [if_pos ⟨hgroup, hmet⟩]
    unfold Sequencer.Stands at hseq
    rw [hseq]
    exact ⟨hbase, rfl, hindex, hstarted, rfl⟩
  · rw [hsegment] at hpass
    have hno : ¬ (s.segment.groupAdvance = true ∧ s.barrierMet = false) := by
      rintro ⟨hgroup, hmet⟩
      rw [hgroup, hmet] at hpass
      exact hpass.elim Bool.noConfusion Bool.noConfusion
    rw [h] at hseq hcleanFalse ⊢
    rw [if_neg hno]
    unfold Sequencer.Stands at hseq
    obtain ⟨hlink, h⟩ | ⟨k, hlink, hpause, h⟩ | ⟨k, hlink, hpause, h⟩ := passOn_cases s.settings.segments false .run q
    · rw [hsegment] at hlink
      rw [h] at hseq ⊢
      rw [hlink, hseq]
      exact ⟨hbase, rfl, rfl, hindex, rfl⟩
    · rw [hsegment] at hlink hpause
      rw [h] at hseq hcleanFalse ⊢
      have hclean := hcleanFalse rfl
      rw [hlink, hpause]
      refine ⟨by rw [hseq]; exact hbase, by rw [hseq]; rfl, by rw [hseq]; rfl, hclean, ?_⟩
      rw [if_pos rfl, hseq]
      exact ⟨rfl, rfl, rfl⟩
    · rw [hsegment] at hlink hpause
      rw [h] at hseq hcleanFalse ⊢
      obtain ⟨hindex', helapsed', hremaining', hclean', -⟩ := start_keeps s.settings.segments false .run (q.moveTo s.settings.segments k)
      have hbase' := start_base s.settings.segments .run (q.moveTo s.settings.segments k)
      have hkinds := start_kinds (q := q.moveTo s.settings.segments k) (k := k) s.settings.segments .run rfl rfl
      have hclean := hcleanFalse hclean'
      dsimp only at hseq hkinds
      generalize (q.moveTo s.settings.segments k).start s.settings.segments false .run = p at hseq hindex' helapsed' hbase' hkinds
      rw [hlink, hpause]
      refine ⟨by rw [hseq]; exact hbase'.trans hbase, by rw [hseq]; exact hindex', by rw [hseq]; exact helapsed', hclean, ?_⟩
      rw [if_neg Bool.false_ne_true, hseq]
      refine ⟨rfl, ?_⟩
      have hmoved : (q.moveTo s.settings.segments k).base = target := hbase
      rw [hmoved] at hkinds
      exact hkinds

/-- The last tick of segment time in RUN. -/
theorem sequenceTick_endsAt {target : Int} {ms : Nat} (hm : s.control.mode = .run) (hopen : s.servo.cutoff = false)
    (hactive : s.seq.state = .active) (hstarted : s.seq.started = true)
    (hbody : s.segment.body = .ramp target ms ∨ (s.segment.body = .dwell ms ∧ target = s.seq.base)) (hms : 1 ≤ ms)
    (hends : s.seq.elapsed + 1 = 4 * ms) : s.EndsAt target s.sequenceTick.control.mode s.sequenceTick.seq := by
  have htime : s.segment.time = some ms := by
    obtain h | ⟨h, -⟩ := hbody <;> rw [Segment.time, h]
  have hstands := stepped_stands s
  unfold Sequencer.Stands at hstands
  obtain ⟨hindex, -, hstarted'⟩ := timed_place s.segment s.stepped
  rw [sequenceTick_of_end hm hactive hstarted htime hends]
  refine finish_endsAt hm hopen (by rw [hindex, hstands]) (by rw [hstarted', hstands, hstarted]) ?_
  unfold Sequencer.timed
  obtain h | ⟨h, hbase⟩ := hbody <;> rw [h]
  · show rampBase s.stepped.rampStart target (s.stepped.elapsed + 1) ms = target
    have helapsed : s.stepped.elapsed + 1 = 4 * ms := by rw [hstands, hends]
    rw [helapsed]
    exact rampBase_end _ target hms
  · show s.stepped.base = target
    rw [hstands, hbase]

/-- R130: at a position that is started the entry to RUN changes nothing of the sequencer. -/
theorem entered_of_started (h : s.seq.started = true) : s.entered = s.seq := by
  unfold State.entered
  rw [if_neg]
  rintro ⟨-, hno⟩
  rw [h] at hno
  exact Bool.noConfusion hno

/-- Settles O17: the last tick's end of the segment, in RUN or in the RUN that an ASCENT comes to before it. -/
theorem theEndOfARampPassesOn : Obligations.TheEndOfARampPassesOn := by
  intro order rawL rawD s target ms hopen hm hactive hstarted hbody hms hends
  have hframe := servoTick_frameOutcome order rawL rawD s
  have hmoves := allBlocks_tickMoves (tickOrder order) rawL rawD s
  have hmode := congrArg Control.mode (noteMove_settle_control (s.allBlocks (tickOrder order) rawL rawD))
  have hengaged : s.control.mode.engaged = true := by obtain h | ⟨h, -⟩ := hm <;> rw [h] <;> rfl
  refine ⟨_, rfl, fun hmoved => hmoves.reports (.inl (by rwa [← hmode])),
    fun horder hlimits hmoved => servoTick_reportsWith horder hengaged hopen hlimits (by rwa [← hmode]), fun hrun hlasts hprompt => ?_, ?_⟩
  · refine hmoves.quiet (by rw [← hmode, hlasts, hrun]) (fun h => ?_) hprompt
    rw [State.HasMoved, ← hmode, hlasts] at h
    exact h.1.elim Mode.noConfusion Mode.noConfusion
  · generalize (s.allBlocks (tickOrder order) rawL rawD).noteMove.settle = t at hframe ⊢
    refine or_iff_not_imp_left.mpr fun htrip => or_iff_not_imp_left.mpr fun hascent => ?_
    show s.EndsAt target t.control.mode t.seq
    obtain hrun | ⟨hm, hfirst⟩ := hm
    · obtain ⟨hcontrol, hseq⟩ := hframe.of_run hopen hrun htrip
      rw [hcontrol, hseq]
      exact sequenceTick_endsAt hrun hopen hactive hstarted hbody hms hends
    · obtain h | ⟨-, hcontrol, hseq⟩ | ⟨hlast, -⟩ := hframe
      · exact absurd h htrip
      · have hleft : s.fractionTick.control.mode ≠ .ascent := fun h => hascent (by rw [hcontrol, sequenceTick_mode_of_other h])
        obtain ⟨hmode, hentered⟩ := fractionTick_of_left hopen hm hleft
        obtain ⟨-, -, -, -, hpeers, -, hsettings, -⟩ := fractionTick_keeps s
        have hopen' := fractionTick_open hopen
        rw [entered_of_started hstarted] at hentered
        rw [hcontrol, hseq]
        generalize s.fractionTick = u at hmode hentered hpeers hsettings hopen' ⊢
        have hsegment : u.segment = s.segment := by rw [State.segment, State.segment, hsettings, hentered]
        have hmet : u.barrierMet = s.barrierMet := by rw [State.barrierMet, State.barrierMet, hpeers, hsettings, hsegment, hentered]
        have h := sequenceTick_endsAt (s := u) (target := target) (ms := ms) hmode hopen' (by rw [hentered, hactive]) (by rw [hentered, hstarted])
          (by rwa [hsegment, hentered]) hms (by rw [hentered, hends])
        unfold State.EndsAt at h ⊢
        rwa [hsegment, hmet, hentered, hsettings] at h
      · exact absurd hfirst hlast

end Sys2Proof.Machine
end

section
/-! O20, O21 and O22: what a cycle mark does at the sequencer. -/

namespace Sys2Proof.Machine

variable {s t u v : State} {q p : Sequencer}

/-! ## Responses beside the sequencer's own work -/

/-- The changes of mode that the actions for the alarm level make (R140). -/
def Mode.Yields (m n : Mode) : Prop := ((m = .run ∨ m = .ascent) ∧ (n = .hold ∨ n = .descent)) ∨ (m = .hold ∧ n = .descent)

theorem Mode.Yields.trans {m n o : Mode} (h : m.Yields n) (k : n.Yields o) : m.Yields o := by
  obtain ⟨hm, rfl | rfl⟩ | ⟨rfl, rfl⟩ := h
  · obtain ⟨hn | hn, -⟩ | ⟨-, rfl⟩ := k
    · exact Mode.noConfusion hn
    · exact Mode.noConfusion hn
    · exact .inl ⟨hm, .inr rfl⟩
  all_goals obtain ⟨hn | hn, -⟩ | ⟨hn, -⟩ := k <;> exact Mode.noConfusion hn

theorem Mode.Yields.engaged {m n : Mode} (h : m.Yields n) : m.engaged = true ∧ n.engaged = true := by
  obtain ⟨rfl | rfl, rfl | rfl⟩ | ⟨rfl, rfl⟩ := h <;> exact ⟨rfl, rfl⟩

theorem Mode.Yields.ne {m n : Mode} (h : m.Yields n) : n ≠ m := by
  obtain ⟨rfl | rfl, rfl | rfl⟩ | ⟨rfl, rfl⟩ := h <;> exact Mode.noConfusion

theorem Mode.Yields.not_rising {m n : Mode} (h : m.Yields n) : ¬ (n = .run ∨ n = .ascent) := by
  obtain ⟨-, rfl | rfl⟩ | ⟨-, rfl⟩ := h <;> rintro (h | h) <;> exact Mode.noConfusion h

/-- The frame stands, or an action for the alarm level has taken it to HOLD or DESCENT (R140), which ends a soft start (R45); the parts
that the sequencer's and the clock's work at a mark reads beside stand. -/
structure State.Responds (s t : State) : Prop where
  settings : t.settings = s.settings
  startUp : t.startUp = s.startUp
  cutoff : t.servo.cutoff = s.servo.cutoff
  clock : t.clock = s.clock
  entries : t.peers.entries = s.peers.entries
  frame : (t.control.mode = s.control.mode ∧ t.seq = s.seq)
    ∨ (s.control.mode.Yields t.control.mode ∧ t.seq = { s.seq with softStep := none })

/-- R24: no change of mode in the event is one that the cutoff turns into a trip. -/
def State.Untripped (s : State) : Prop := s.servo.cutoff = false ∨ s.control.mode.engaged = false

theorem State.Responds.of_frame (hset : t.settings = s.settings) (hstart : t.startUp = s.startUp) (hcutoff : t.servo.cutoff = s.servo.cutoff)
    (hclock : t.clock = s.clock) (hentries : t.peers.entries = s.peers.entries) (hmode : t.control.mode = s.control.mode)
    (hseq : t.seq = s.seq) : s.Responds t := ⟨hset, hstart, hcutoff, hclock, hentries, .inl ⟨hmode, hseq⟩⟩

theorem State.Responds.refl (s : State) : s.Responds s := .of_frame rfl rfl rfl rfl rfl rfl rfl

theorem State.Responds.trans (h : s.Responds t) (k : t.Responds u) : s.Responds u := by
  refine ⟨k.settings.trans h.settings, k.startUp.trans h.startUp, k.cutoff.trans h.cutoff, k.clock.trans h.clock,
    k.entries.trans h.entries, ?_⟩
  obtain ⟨hm, hseq⟩ | ⟨hyields, hseq⟩ := h.frame
  · rw [← hm, ← hseq]
    exact k.frame
  · obtain ⟨hm', hseq'⟩ | ⟨hyields', hseq'⟩ := k.frame
    · exact .inr ⟨by rwa [hm'], by rw [hseq', hseq]⟩
    · exact .inr ⟨hyields.trans hyields', by rw [hseq', hseq]⟩

theorem State.Responds.engaged (h : s.Responds t) : t.control.mode.engaged = s.control.mode.engaged := by
  obtain ⟨hm, -⟩ | ⟨hyields, -⟩ := h.frame
  · rw [hm]
  · rw [hyields.engaged.1, hyields.engaged.2]

theorem State.Responds.untripped (h : s.Responds t) (hs : s.Untripped) : t.Untripped := by
  unfold State.Untripped
  rw [h.cutoff, h.engaged]
  exact hs

theorem changeMode_of_engaged (m : Mode) (hs : s.Untripped) (he : s.control.mode.engaged = true) : s.changeMode m = s.enterMode m := by
  refine changeMode_of_open m (hs.resolve_right fun h => ?_)
  rw [he] at h
  exact Bool.noConfusion h

theorem respond_responds (a : Policy) (hs : s.Untripped) : s.Responds (s.respond a) := by
  obtain h | ⟨-, hm, h⟩ | ⟨-, hm, h⟩ := respond_cases a s
  · rw [h]; exact .refl s
  · rw [h, changeMode_of_engaged _ hs (by obtain hm | hm := hm <;> rw [hm] <;> rfl)]
    exact ⟨rfl, rfl, rfl, rfl, rfl, .inr ⟨.inl ⟨hm, .inl rfl⟩, rfl⟩⟩
  · rw [h, changeMode_of_engaged _ hs (by obtain hm | hm | hm := hm <;> rw [hm] <;> rfl)]
    have hyields : s.control.mode.Yields .descent := by
      obtain hm | hm | hm := hm
      · exact .inl ⟨.inl hm, .inr rfl⟩
      · exact .inl ⟨.inr hm, .inr rfl⟩
      · exact .inr ⟨hm, rfl⟩
    exact ⟨rfl, rfl, rfl, rfl, rfl, .inr ⟨hyields, rfl⟩⟩

theorem riseResponse_responds (g : Nat) (hs : s.Untripped) : s.Responds (s.riseResponse g) := by
  obtain h | ⟨-, -, h⟩ := riseResponse_cases g s <;> rw [h]
  · exact .refl s
  · exact respond_responds _ hs

theorem formAlarm_responds (hs : s.Untripped) : s.Responds s.formAlarm := by
  have hput (g : Nat) : s.Responds (s.putAlarm g) := .of_frame rfl rfl rfl rfl rfl rfl rfl
  obtain ⟨-, h⟩ | ⟨-, h⟩ | ⟨-, h⟩ := formAlarm_cases s <;> rw [h]
  · exact .refl s
  · exact hput _
  · exact (hput _).trans (riseResponse_responds _ ((hput _).untripped hs))

theorem putCracks_responds (k : Cracks) (hs : s.Untripped) : s.Responds (s.putCracks k) := by
  obtain ⟨-, h⟩ | ⟨-, h⟩ := putCracks_cases k s <;> rw [h]
  · exact .of_frame rfl rfl rfl rfl rfl rfl rfl
  · exact State.Responds.trans (t := { s with cracks := k, line := { s.line with prompt := true } }) (.of_frame rfl rfl rfl rfl rfl rfl rfl)
      (formAlarm_responds hs)

theorem evaluateSites_responds (sig : RangesClosed) (hs : s.Untripped) : s.Responds (s.evaluateSites sig) := by
  have hput := putCracks_responds (s.cracks.evaluate s.settings.sites sig) hs
  unfold State.evaluateSites
  dsimp only
  split
  · exact hput.trans (.of_frame rfl rfl rfl rfl rfl rfl rfl)
  · exact hput

theorem recordsMark_responds (site : Nat) (hs : s.Untripped) : s.Responds (s.recordsMark site) := by
  have hclosed : s.Responds { s with recorder := s.recorder.mark s.settings.channels } := .of_frame rfl rfl rfl rfl rfl rfl rfl
  have hjudged := hclosed.trans (evaluateSites_responds (s.recorder.signal s.settings.channels) (hclosed.untripped hs))
  exact hjudged.trans (.of_frame rfl rfl rfl rfl rfl rfl rfl)

theorem scannerMark_responds (s : State) : s.Responds s.scannerMark := .of_frame rfl rfl rfl rfl rfl rfl rfl

/-! ## The sequencer's and the clock's work at a mark -/

/-- R138: the request that the sequencer makes at a mark, taken in RUN. -/
theorem withSequencer_of_untripped (r : Sequencer × Bool) (hs : s.Untripped) :
    (s.withSequencer r) = if r.2 = true ∧ s.control.mode = .run then State.enterMode .hold { s with seq := r.1 } else { s with seq := r.1 } := by
  unfold State.withSequencer
  by_cases hask : r.2 = true
  · rw [if_pos hask]
    obtain ⟨hm, h⟩ | ⟨hm, h⟩ := holdRequest_cases { s with seq := r.1 } <;> rw [h]
    · rw [if_pos ⟨hask, hm⟩]
      exact changeMode_of_engaged (s := { s with seq := r.1 }) _ hs (by rw [hm]; rfl)
    · rw [if_neg fun h => hm h.2]
  · rw [if_neg hask, if_neg fun h => hask h.1]

theorem barrierMet_congr (hentries : t.peers.entries = s.peers.entries) (hset : t.settings = s.settings) (hindex : t.seq.index = s.seq.index) :
    t.barrierMet = s.barrierMet := by
  unfold State.barrierMet State.segment PeerTable.barrierMet PeerTable.countedPeers
  rw [hentries, hset, hindex]

/-- What the sequencer's mark leaves without a request. -/
theorem programmeMark_of_quiet (h : s.seq.mark s.settings.segments s.control.mode s.barrierMet = (q, false)) :
    s.programmeMark.seq = q ∧ s.programmeMark.control = s.control
      ∧ s.programmeMark.clock.nominal = q.offeredPeriod s.settings.segments s.settings.defaultPeriod := by
  unfold State.programmeMark
  rw [h]
  exact ⟨rfl, rfl, rfl⟩

/-- And with one. -/
theorem programmeMark_of_request (hs : s.Untripped) (h : s.seq.mark s.settings.segments s.control.mode s.barrierMet = (q, true)) :
    s.programmeMark.seq = { q with softStep := s.programmeMark.seq.softStep } ∧ s.programmeMark.control.mode ≠ .run
      ∧ s.programmeMark.clock.nominal = q.offeredPeriod s.settings.segments s.settings.defaultPeriod := by
  unfold State.programmeMark
  rw [h, withSequencer_of_untripped _ hs]
  split
  · exact ⟨rfl, Mode.noConfusion, rfl⟩
  next hno => exact ⟨rfl, fun hm => hno ⟨rfl, hm⟩, rfl⟩

theorem programmeMark_untripped (hs : s.Untripped) : s.programmeMark.Untripped := by
  unfold State.programmeMark
  rw [withSequencer_of_untripped _ hs]
  split
  next h => exact .inl (hs.resolve_right fun he => by rw [h.2] at he; exact Bool.noConfusion he)
  · exact hs

/-- R52: in either order of the blocks the sequencer's mark stands between two states that responses alone lead to and from. -/
theorem handleMark_around (first : Bool) (site : Nat) (hs : s.Untripped) :
    ∃ u, s.Responds u ∧ u.programmeMark.Responds (s.handleMark first site)
      ∧ (first = true → u.control.mode = s.control.mode ∧ u.seq = s.seq)
      ∧ (first = false → s.handleMark first site = u.programmeMark) := by
  have hscanner := scannerMark_responds s
  have hs' := hscanner.untripped hs
  cases first with
  | true =>
    exact ⟨s.scannerMark, hscanner, recordsMark_responds site (programmeMark_untripped hs'), fun _ => ⟨rfl, rfl⟩, Bool.noConfusion⟩
  | false => exact ⟨s.scannerMark.recordsMark site, hscanner.trans (recordsMark_responds site hs'), .refl _, Bool.noConfusion, fun _ => rfl⟩

end Sys2Proof.Machine
end

section
/-! O20, O21 and O22: the mark counts, starts and ends a CYCLE. -/

namespace Sys2Proof.Machine

variable {s t u v : State} {q p : Sequencer} {tab : List Segment}

/-! ## From the two halves to the command -/

theorem State.Responds.seq_eq (h : s.Responds t) : t.seq = { s.seq with softStep := t.seq.softStep } := by
  obtain ⟨-, hseq⟩ | ⟨-, hseq⟩ := h.frame <;> rw [hseq]

/-- R45: a response that changes the mode ends a soft start, which no other response touches. -/
theorem State.Responds.softStartFollows (h : s.Responds t) : s.SoftStartFollows t := by
  unfold State.SoftStartFollows
  obtain ⟨hm, hseq⟩ | ⟨hyields, hseq⟩ := h.frame
  · rw [if_pos (.inl hm), hseq]
  · rw [if_neg, hseq]
    exact fun hsame => hsame.elim hyields.ne hyields.not_rising

/-- R140: a response takes the frame to neither RUN nor ASCENT. -/
theorem State.Responds.mode_of_rising (h : s.Responds t) (hm : t.control.mode = .run ∨ t.control.mode = .ascent) :
    t.control.mode = s.control.mode := by
  obtain ⟨hsame, -⟩ | ⟨hyields, -⟩ := h.frame
  · exact hsame
  · exact absurd hm hyields.not_rising

/-- A soft start of the segment that has just started, in the mode the responses leave (R44, R45). -/
theorem State.Responds.softStep (h : s.Responds t) {c : Prop} [Decidable c] {n : Nat}
    (hs : s.seq.softStep = if (s.control.mode = .run ∨ s.control.mode = .ascent) ∧ c then some n else none) :
    t.seq.softStep = if (t.control.mode = .run ∨ t.control.mode = .ascent) ∧ c then some n else none := by
  obtain ⟨hm, hseq⟩ | ⟨hyields, hseq⟩ := h.frame
  · rw [hm, hseq, hs]
  · rw [if_neg fun hrises => hyields.not_rising hrises.1, hseq]

/-- R52: in either order of the blocks, the command's state stands after the sequencer's mark `v`, with responses before and after. -/
theorem execCycleMark_around (first : Bool) (site : Nat) (hrunning : s.running = true) (hs : s.Untripped) :
    ∃ u t, exec (.cycleMark first site) s = .next t ∧ s.Responds u ∧ u.Untripped
      ∧ (first = true → u.control.mode = s.control.mode ∧ u.seq = s.seq)
      ∧ (first = false → t.control.mode = u.programmeMark.control.mode ∧ t.seq = u.programmeMark.seq)
      ∧ u.programmeMark.Responds t := by
  obtain ⟨u, hu, ht, hfirst, hlast⟩ := handleMark_around first site hs
  obtain ⟨⟨hclock, -, -, -, hpeers, hstart, hsettings, -⟩, hcontrol, hseq, hservo⟩ := compose_keeps .mark (s.handleMark first site)
  unfold Servo.Kept at hservo
  refine ⟨u, _, execCycleMark_of_running first site hrunning, hu, hu.untripped hs, hfirst, fun h => ?_, ht.trans ?_⟩
  · rw [hcontrol, hseq, hlast h]
    exact ⟨rfl, rfl⟩
  · exact .of_frame hsettings hstart (by rw [hservo]) hclock (by rw [hpeers]) (congrArg Control.mode hcontrol) hseq

theorem programmeMark_frame (s : State) : s.programmeMark.settings = s.settings ∧ s.programmeMark.startUp = s.startUp := by
  obtain ⟨-, -, -, -, -, hstart, hsettings, -⟩ := withSequencer_keeps (s.seq.mark s.settings.segments s.control.mode s.barrierMet) s
  exact ⟨hsettings, hstart⟩

/-! ## A mark that goes on (O20) -/

/-- R36, R37: the sequencer after a mark at which no segment ends and none starts. -/
def Sequencer.marked (remaining partialCycles : Nat) (q : Sequencer) : Sequencer :=
  { q with remaining := remaining, partialCycles := partialCycles, clean := true, scaleActive := q.scaleBuffer }

theorem mark_goes_on {remaining partialCycles : Nat} (hrunning : s.running = true) (hs : s.Untripped)
    (h : ∀ u, s.Responds u → u.seq.mark u.settings.segments u.control.mode u.barrierMet = (u.seq.marked remaining partialCycles, false))
    (first : Bool) (site : Nat) :
    ∃ t, exec (.cycleMark first site) s = .next t
      ∧ t.seq = { s.seq with remaining := remaining, partialCycles := partialCycles, clean := true, scaleActive := s.seq.scaleBuffer,
                             softStep := t.seq.softStep }
      ∧ s.SoftStartFollows t ∧ t.clock.nominal = s.seq.offeredPeriod s.settings.segments s.settings.defaultPeriod
      ∧ t.settings = s.settings ∧ t.startUp = s.startUp := by
  obtain ⟨u, t, hexec, hu, -, hfirst, hlast, ht⟩ := execCycleMark_around first site hrunning hs
  obtain ⟨hseq, hcontrol, hnominal⟩ := programmeMark_of_quiet (h u hu)
  obtain ⟨hsettings, hstart⟩ := programmeMark_frame u
  have hus := hu.seq_eq
  have hts := ht.seq_eq
  rw [hseq] at hts
  refine ⟨t, hexec, ?_, ?_, ?_, (ht.settings.trans hsettings).trans hu.settings, (ht.startUp.trans hstart).trans hu.startUp⟩
  · rw [hts, Sequencer.marked, hus]
  · cases first with
    | true =>
      obtain ⟨hm, hsame⟩ := hfirst rfl
      have hsoft := ht.softStartFollows
      unfold State.SoftStartFollows at hsoft ⊢
      rw [hcontrol, hm] at hsoft
      rw [hsoft, hseq, hsame]
      rfl
    | false =>
      obtain ⟨hm, hsame⟩ := hlast rfl
      have hsoft := hu.softStartFollows
      unfold State.SoftStartFollows at hsoft ⊢
      rw [hm, hsame, hseq, hcontrol]
      exact hsoft
  · rw [ht.clock, hnominal, hus, hu.settings]
    rfl

theorem mark_of_countCycle {remaining partialCycles : Nat} {m : Mode} {met : Bool} (hat : q.atCycle tab = true)
    (hcount : q.countCycle m = { q with remaining := remaining, partialCycles := partialCycles }) (hne : remaining ≠ 0) :
    q.mark tab m met = (q.marked remaining partialCycles, false) := by
  have hstate : q.state ≠ .preCycle := by
    intro h
    rw [Sequencer.atCycle, h] at hat
    exact Bool.false_ne_true hat
  unfold Sequencer.mark Sequencer.closeCycle
  rw [if_pos hat, hcount]
  dsimp only
  rw [if_neg hne]
  unfold Sequencer.startWaiting
  rw [if_neg hstate]
  rfl

theorem mark_of_no_cycle {m : Mode} {met : Bool} (hat : q.atCycle tab = false) (hstate : q.state ≠ .preCycle) :
    q.mark tab m met = (q.marked q.remaining q.partialCycles, false) := by
  unfold Sequencer.mark Sequencer.closeCycle
  rw [hat, if_neg Bool.false_ne_true]
  dsimp only
  unfold Sequencer.startWaiting
  rw [if_neg hstate]
  rfl

/-- R37: the count of the cycle that ends. -/
theorem countCycle_eq (m : Mode) (q : Sequencer) : q.countCycle m = { q with
    remaining := if q.clean then q.remaining - 1 else q.remaining
    partialCycles := if q.clean = false ∧ m.engaged = true then min 4294967295 (q.partialCycles + 1) else q.partialCycles } := by
  unfold Sequencer.countCycle
  rw [satAdd_eq_min]
  by_cases hclean : q.clean = true
  · rw [if_pos hclean, if_pos hclean, if_neg fun h => Bool.false_ne_true (h.1.symm.trans hclean)]
  · have hfalse : q.clean = false := Bool.eq_false_iff.mpr hclean
    rw [if_neg hclean, if_neg hclean]
    by_cases hengaged : m.engaged = true
    · rw [if_pos hengaged, if_pos ⟨hfalse, hengaged⟩]
    · rw [if_neg hengaged, if_neg fun h => hengaged h.2]

/-- Settles O20: the mark counts what ends, whatever the responses beside it. -/
theorem aMarkCountsTheEndingCycle : Obligations.AMarkCountsTheEndingCycle := by
  refine ⟨fun first site s mean amplitude period shape count soft hrunning hs hactive hstarted hbody hremaining => ?_,
    fun first site s hrunning hs hstate => ?_⟩
  · have hat : s.seq.atCycle s.settings.segments = true := (atCycle_iff s).mpr ⟨hactive, hstarted, by rw [Segment.isCycle, hbody]⟩
    have hmark (u : State) (hu : s.Responds u) : u.seq.mark u.settings.segments u.control.mode u.barrierMet
        = (u.seq.marked (if s.seq.clean then s.seq.remaining - 1 else s.seq.remaining)
          (if s.seq.clean = false ∧ s.control.mode.engaged = true then min 4294967295 (s.seq.partialCycles + 1)
            else s.seq.partialCycles), false) := by
      have hseq := hu.seq_eq
      refine mark_of_countCycle ?_ ?_ ?_
      · rw [hseq, hu.settings]
        exact hat
      · rw [countCycle_eq, hu.engaged, hseq]
      · obtain h | ⟨hclean, h⟩ := hremaining
        · split <;> omega
        · rw [hclean, if_neg Bool.false_ne_true]
          omega
    obtain ⟨t, hexec, hseq, hsoft, hnominal, hsettings, hstart⟩ := mark_goes_on hrunning hs hmark first site
    refine ⟨t, hexec, hseq, hsoft, ?_, hsettings, hstart⟩
    rw [hnominal, Sequencer.offeredPeriod]
    rw [State.segment] at hbody
    rw [hbody]
    exact if_pos (.inl ⟨hactive, hstarted⟩)
  · have hat : s.seq.atCycle s.settings.segments = false := by
      refine Bool.eq_false_iff.mpr fun hat => ?_
      obtain ⟨hactive, hstarted, hcycle⟩ := (atCycle_iff s).mp hat
      rw [hactive, hstarted, hcycle] at hstate
      simp at hstate
    have hne : s.seq.state ≠ .preCycle := fun h => by
      rw [h] at hstate
      simp at hstate
    have hmark (u : State) (hu : s.Responds u) : u.seq.mark u.settings.segments u.control.mode u.barrierMet
        = (u.seq.marked s.seq.remaining s.seq.partialCycles, false) := by
      have hseq := hu.seq_eq
      have hmark := mark_of_no_cycle (q := u.seq) (tab := u.settings.segments) (m := u.control.mode) (met := u.barrierMet)
        (by rw [hseq, hu.settings]; exact hat) (by rw [hseq]; exact hne)
      rw [hmark, hseq]
    obtain ⟨t, hexec, hseq, hsoft, hnominal, hsettings, hstart⟩ := mark_goes_on hrunning hs hmark first site
    refine ⟨t, hexec, hseq, hsoft, ?_, hsettings, hstart⟩
    rw [hnominal, Sequencer.offeredPeriod, ← State.segment]
    cases hbody : s.segment.body with
    | none | ramp | dwell => cases s.seq.state <;> rfl
    | cycle mean a period shape n soft =>
      have hwaits : ¬ (s.seq.state = .active ∧ s.seq.started = true) := fun ⟨hactive, hstarted⟩ => by
        rw [(atCycle_iff s).mpr ⟨hactive, hstarted, by rw [Segment.isCycle, hbody]⟩] at hat
        exact Bool.noConfusion hat
      cases hstate' : s.seq.state <;> simp_all

end Sys2Proof.Machine
end

section
/-! O21 and O22: the mark that starts a CYCLE, and the mark that ends one. -/

namespace Sys2Proof.Machine

variable {s t u v : State} {q p : Sequencer} {tab : List Segment}

/-! ## A CYCLE starts at a mark (R33, R44) -/

/-- The sequencer with a CYCLE started at a mark in mode `m`, at its mean and with its envelope. -/
def Sequencer.cycleStarted (m : Mode) (mean : Int) (period soft : Nat) (q : Sequencer) : Sequencer :=
  { q with
    state := .active, started := true, base := mean
    envelope := if (m = .run ∨ m = .ascent) ∧ soft = 0 then 4096000 else 0
    softStep := if (m = .run ∨ m = .ascent) ∧ soft ≠ 0 then some (max 1 (1024000000 / (soft * period))) else none }

theorem cycleEnvelope_eq (m : Mode) (soft period : Nat) (q : Sequencer) : q.cycleEnvelope m soft period = { q with
    envelope := if (m = .run ∨ m = .ascent) ∧ soft = 0 then 4096000 else 0
    softStep := if (m = .run ∨ m = .ascent) ∧ soft ≠ 0 then some (max 1 (1024000000 / (soft * period))) else none } := by
  unfold Sequencer.cycleEnvelope
  by_cases hsoft : soft = 0 <;> cases m <;> simp [hsoft, Config.accFull, softStartStep]

theorem start_of_cycle {mean : Int} {a period n soft : Nat} {shape : Shape} (m : Mode)
    (hbody : (segmentAt tab q.index).body = .cycle mean a period shape n soft) :
    q.start tab true m = q.cycleStarted m mean period soft := by
  unfold Sequencer.start
  rw [hbody]
  exact cycleEnvelope_eq m soft period { q with state := .active, started := true, base := mean }

theorem start_of_ramp {target : Int} {ms : Nat} (atMark : Bool) (m : Mode) (hbody : (segmentAt tab q.index).body = .ramp target ms) :
    q.start tab atMark m = { q with state := .active, started := true, rampStart := q.base } := by
  unfold Sequencer.start
  rw [hbody]

theorem start_of_dwell {ms : Nat} (atMark : Bool) (m : Mode) (hbody : (segmentAt tab q.index).body = .dwell ms) :
    q.start tab atMark m = { q with state := .active, started := true } := by
  unfold Sequencer.start
  rw [hbody]

theorem mark_of_waiting {mean : Int} {a period n soft : Nat} {shape : Shape} {m : Mode} {met : Bool} (hstate : q.state = .preCycle)
    (hbody : (segmentAt tab q.index).body = .cycle mean a period shape n soft) :
    q.mark tab m met = ((q.cycleStarted m mean period soft).openCycle, false) := by
  have hat : q.atCycle tab = false := by
    rw [Sequencer.atCycle, hstate]
    rfl
  unfold Sequencer.mark Sequencer.closeCycle
  rw [hat, if_neg Bool.false_ne_true]
  dsimp only
  unfold Sequencer.startWaiting
  rw [if_pos hstate, start_of_cycle m hbody]

/-- The mode in which the sequencer takes the mark, in the words of the statements. -/
theorem markMode_eq {first : Bool} (hfirst : first = true → u.control.mode = s.control.mode ∧ u.seq = s.seq)
    (hlast : first = false → t.control.mode = u.programmeMark.control.mode ∧ t.seq = u.programmeMark.seq)
    (hcontrol : u.programmeMark.control = u.control) : (if first then s.control.mode else t.control.mode) = u.control.mode := by
  cases first with
  | true => exact (hfirst rfl).1.symm
  | false => exact (hlast rfl).1.trans (congrArg Control.mode hcontrol)

/-- Settles O21: the start at the mark, in the mode that the responses before it leave; those after it may end its soft start. -/
theorem aMarkStartsAWaitingCycle : Obligations.AMarkStartsAWaitingCycle := by
  intro first site s mean amplitude period shape count soft hrunning hs hstate hbody
  obtain ⟨u, t, hexec, hu, -, hfirst, hlast, ht⟩ := execCycleMark_around first site hrunning hs
  have hus := hu.seq_eq
  have hplace : segmentAt u.settings.segments u.seq.index = s.segment := by
    rw [hu.settings, hus]
    rfl
  have hmark := mark_of_waiting (q := u.seq) (tab := u.settings.segments) (m := u.control.mode) (met := u.barrierMet)
    (by rw [hus]; exact hstate) (by rw [hplace, hbody])
  obtain ⟨hseq, hcontrol, hnominal⟩ := programmeMark_of_quiet hmark
  refine ⟨t, hexec, ?_, fun hrises => ?_, ?_⟩
  · dsimp only
    rw [markMode_eq hfirst hlast hcontrol]
    have hsoft := ht.softStep (c := soft ≠ 0) (n := max 1 (1024000000 / (soft * period))) (by rw [hseq, hcontrol]; rfl)
    rw [← hsoft, ht.seq_eq, hseq]
    unfold Sequencer.openCycle Sequencer.cycleStarted
    rw [hus]
  · have hsame := ht.mode_of_rising hrises
    rw [hsame, hcontrol] at hrises ⊢
    exact hu.mode_of_rising hrises
  · rw [ht.clock, hnominal, Sequencer.offeredPeriod]
    have hindex : segmentAt u.settings.segments ((u.seq.cycleStarted u.control.mode mean period soft).openCycle).index = s.segment := hplace
    rw [hindex, hbody]
    exact if_pos (.inl ⟨rfl, rfl⟩)

/-! ## A CYCLE ends at a mark (O22) -/

theorem offeredPeriod_of_not_running {n : Nat} (hstarted : ¬ (q.state = .active ∧ q.started = true)) (hbarrier : q.state ≠ .barrier) :
    q.offeredPeriod tab n = n := by
  unfold Sequencer.offeredPeriod
  split
  · exact if_neg fun h => h.elim hstarted hbarrier
  · rfl

theorem offeredPeriod_of_cycle {mean : Int} {a period n soft d : Nat} {shape : Shape}
    (hbody : (segmentAt tab q.index).body = .cycle mean a period shape n soft)
    (hruns : (q.state = .active ∧ q.started = true) ∨ q.state = .barrier) : q.offeredPeriod tab d = period := by
  unfold Sequencer.offeredPeriod
  rw [hbody]
  exact if_pos hruns

theorem offeredPeriod_of_other {d : Nat} (h : (segmentAt tab q.index).isCycle = false) : q.offeredPeriod tab d = d := by
  unfold Segment.isCycle at h
  unfold Sequencer.offeredPeriod
  cases hbody : (segmentAt tab q.index).body with
  | none | ramp | dwell => rfl
  | cycle =>
    rw [hbody] at h
    exact absurd h.symm Bool.false_ne_true

/-- The CYCLE's last cycle counted (R37). -/
def Sequencer.lastCounted (q : Sequencer) : Sequencer := { q with remaining := 0 }

theorem finish_state_ne_preCycle (tab : List Segment) (m : Mode) (met : Bool) (q : Sequencer) :
    (q.finish tab true m met).1.state ≠ .preCycle := by
  obtain ⟨-, -, h⟩ | ⟨-, h⟩ := finish_cases tab true m met q <;> rw [h]
  · exact SeqState.noConfusion
  · obtain ⟨-, h⟩ | ⟨k, -, -, h⟩ | ⟨k, -, -, h⟩ := passOn_cases tab true m q <;> rw [h]
    · exact SeqState.noConfusion
    · exact SeqState.noConfusion
    · unfold Sequencer.start
      cases hbody : (segmentAt tab (q.moveTo tab k).index).body with
      | none => exact SeqState.noConfusion
      | ramp | dwell => exact SeqState.noConfusion
      | cycle =>
        dsimp only
        rw [if_pos rfl, cycleEnvelope_eq]
        exact SeqState.noConfusion

theorem mark_of_last {m : Mode} {met : Bool} (hat : q.atCycle tab = true) (hclean : q.clean = true) (hlast : q.remaining = 1) :
    q.mark tab m met = ((q.lastCounted.finish tab true m met).1.openCycle, (q.lastCounted.finish tab true m met).2) := by
  have hcount : q.countCycle m = q.lastCounted := by
    rw [countCycle_eq, if_pos hclean, hlast, if_neg fun h => Bool.false_ne_true (h.1.symm.trans hclean)]
    rfl
  unfold Sequencer.mark Sequencer.closeCycle
  rw [if_pos hat, hcount]
  dsimp only
  rw [if_pos (show q.lastCounted.remaining = 0 from rfl)]
  unfold Sequencer.startWaiting
  rw [if_neg (finish_state_ne_preCycle tab m met q.lastCounted)]

theorem finish_keepsCounts (tab : List Segment) (atMark : Bool) (m : Mode) (met : Bool) (q : Sequencer) :
    (q.finish tab atMark m met).1.scaleBuffer = q.scaleBuffer ∧ (q.finish tab atMark m met).1.partialCycles = q.partialCycles := by
  obtain ⟨-, -, h⟩ | ⟨-, h⟩ := finish_cases tab atMark m met q <;> rw [h]
  · exact ⟨rfl, rfl⟩
  · obtain ⟨-, h⟩ | ⟨k, -, -, h⟩ | ⟨k, -, -, h⟩ := passOn_cases tab atMark m q <;> rw [h]
    · exact ⟨rfl, rfl⟩
    · exact ⟨rfl, rfl⟩
    · obtain ⟨-, -, -, -, -, hbuffer, -, hpartial⟩ := start_keeps tab atMark m (q.moveTo tab k)
      exact ⟨hbuffer, hpartial⟩

/-- The node after a mark that ends a CYCLE: the sequencer's end of the segment `r` but for the soft start, with its request answered. -/
theorem mark_ends {first : Bool} {site : Nat} (hrunning : s.running = true) (hs : s.Untripped)
    (hat : s.seq.atCycle s.settings.segments = true) (hclean : s.seq.clean = true) (hlast : s.seq.remaining = 1) :
    ∃ u t, exec (.cycleMark first site) s = .next t ∧ s.Responds u
      ∧ (if first then s.control.mode else t.control.mode) = (if (u.seq.lastCounted.finish s.settings.segments true u.control.mode s.barrierMet).2
          then (if first then s.control.mode else t.control.mode) else u.control.mode)
      ∧ t.seq = { (u.seq.lastCounted.finish s.settings.segments true u.control.mode s.barrierMet).1.openCycle with softStep := t.seq.softStep }
      ∧ t.clock.nominal = (u.seq.lastCounted.finish s.settings.segments true u.control.mode s.barrierMet).1.openCycle.offeredPeriod
          s.settings.segments s.settings.defaultPeriod
      ∧ ((u.seq.lastCounted.finish s.settings.segments true u.control.mode s.barrierMet).2 = true → t.control.mode ≠ .run)
      ∧ ((u.seq.lastCounted.finish s.settings.segments true u.control.mode s.barrierMet).2 = false →
          u.programmeMark.Responds t ∧ u.programmeMark.control = u.control
            ∧ u.programmeMark.seq = (u.seq.lastCounted.finish s.settings.segments true u.control.mode s.barrierMet).1.openCycle) := by
  obtain ⟨u, t, hexec, hu, hus', hfirst, hlast', ht⟩ := execCycleMark_around first site hrunning hs
  have hus := hu.seq_eq
  have hmet : u.barrierMet = s.barrierMet := barrierMet_congr hu.entries hu.settings (by rw [hus])
  have hmark := mark_of_last (q := u.seq) (tab := u.settings.segments) (m := u.control.mode) (met := u.barrierMet)
    (by rw [hu.settings, hus]; exact hat) (by rw [hus]; exact hclean) (by rw [hus]; exact hlast)
  rw [hmet, hu.settings] at hmark
  refine ⟨u, t, hexec, hu, ?_⟩
  have hts := ht.seq_eq
  rw [ht.clock]
  generalize hr : u.seq.lastCounted.finish s.settings.segments true u.control.mode s.barrierMet = r at hmark ⊢
  obtain ⟨q, request⟩ := r
  cases request with
  | true =>
    obtain ⟨hseq, hmode, hnominal⟩ := programmeMark_of_request hus' (q := q.openCycle) (by rw [hu.settings, hmet]; exact hmark)
    refine ⟨rfl, ?_, by rw [hnominal, hu.settings], fun _ hrun => hmode ?_, Bool.noConfusion⟩
    · rw [hts, hseq]
    · rw [← ht.mode_of_rising (.inl hrun), hrun]
  | false =>
    obtain ⟨hseq, hcontrol, hnominal⟩ := programmeMark_of_quiet (s := u) (q := q.openCycle) (by rw [hu.settings, hmet]; exact hmark)
    refine ⟨markMode_eq hfirst hlast' hcontrol, ?_, by rw [hnominal, hu.settings], Bool.noConfusion, fun _ => ⟨ht, hcontrol, hseq⟩⟩
    rw [hts, hseq]

/-- Settles O22: the end of the segment case by case. -/
theorem aCycleEndsAtAMark : Obligations.ACycleEndsAtAMark := by
  intro first site s mean amplitude period shape count soft hrunning hs hactive hstarted hclean hbody hlast
  have hat : s.seq.atCycle s.settings.segments = true := (atCycle_iff s).mpr ⟨hactive, hstarted, by rw [Segment.isCycle, hbody]⟩
  obtain ⟨u, t, hexec, hu, hm, hseq, hnominal, hrequest, hquiet⟩ := mark_ends (first := first) (site := site) hrunning hs hat hclean hlast
  have hus := hu.seq_eq
  have hplace : segmentAt s.settings.segments u.seq.lastCounted.index = s.segment := by
    rw [hus]
    rfl
  obtain ⟨hbuffer, hpartial⟩ := finish_keepsCounts s.settings.segments true u.control.mode s.barrierMet u.seq.lastCounted
  refine ⟨t, hexec, by rw [hseq]; rfl, ?_, ?_, ?_⟩
  · rw [hseq]
    exact hbuffer.trans (by rw [hus]; rfl)
  · rw [hseq]
    exact hpartial.trans (by rw [hus]; rfl)
  · have hindex : u.seq.lastCounted.index = s.seq.index := by rw [hus]; rfl
    have hbase : u.seq.lastCounted.base = s.seq.base := by rw [hus]; rfl
    obtain ⟨hgroup, hmet, h⟩ | ⟨hpass, h⟩ := finish_cases s.settings.segments true u.control.mode s.barrierMet u.seq.lastCounted
    · rw [hplace] at hgroup
      rw [h] at hseq hnominal
      rw [if_pos ⟨hgroup, hmet⟩, hseq]
      refine ⟨rfl, hindex, hbase, ?_⟩
      rw [hnominal]
      exact offeredPeriod_of_cycle (hplace ▸ hbody) (.inr rfl)
    · have hno : ¬ (s.segment.groupAdvance = true ∧ s.barrierMet = false) := by
        rw [hplace] at hpass
        rintro ⟨hgroup, hmet⟩
        rw [hgroup, hmet] at hpass
        exact hpass.elim Bool.noConfusion Bool.noConfusion
      rw [if_neg hno]
      rw [h] at hm hseq hnominal hrequest hquiet
      obtain ⟨hlink, h⟩ | ⟨k, hlink, hpause, h⟩ | ⟨k, hlink, hpause, h⟩ := passOn_cases s.settings.segments true u.control.mode u.seq.lastCounted
      · rw [hplace] at hlink
        rw [h] at hseq hnominal hrequest
        rw [hlink]
        refine ⟨by rw [hseq]; rfl, by rw [hseq]; rfl, by rw [hseq]; exact hindex, by rw [hseq]; exact hbase, ?_, hrequest rfl⟩
        rw [hnominal]
        exact offeredPeriod_of_not_running (by simp [Sequencer.openCycle]) (by simp [Sequencer.openCycle])
      · rw [hplace] at hlink hpause
        rw [h] at hseq hnominal hrequest
        rw [hlink]
        refine ⟨by rw [hseq]; rfl, ?_⟩
        rw [if_pos hpause]
        refine ⟨by rw [hseq]; rfl, by rw [hseq]; rfl, by rw [hseq]; exact hbase, ?_, hrequest rfl⟩
        rw [hnominal]
        exact offeredPeriod_of_not_running (by simp [Sequencer.openCycle, Sequencer.moveTo]) (by simp [Sequencer.openCycle, Sequencer.moveTo])
      · rw [hplace] at hlink hpause
        rw [h] at hm hseq hnominal hquiet
        obtain ⟨hresponds, hcontrol, hstood⟩ := hquiet rfl
        rw [hlink]
        have hindex' : ((u.seq.lastCounted.moveTo s.settings.segments k).start s.settings.segments true u.control.mode).index = k :=
          (start_keeps s.settings.segments true u.control.mode (u.seq.lastCounted.moveTo s.settings.segments k)).1
        refine ⟨by rw [hseq]; exact hindex', ?_⟩
        rw [if_neg (Bool.eq_false_iff.mp hpause)]
        have hcount : (u.seq.lastCounted.moveTo s.settings.segments k).remaining = (segmentAt s.settings.segments k).count := rfl
        cases hbody' : (segmentAt s.settings.segments k).body with
        | none => trivial
        | ramp target ms =>
          have hother : (segmentAt s.settings.segments k).isCycle = false := by rw [Segment.isCycle, hbody']
          rw [Segment.count, hbody'] at hcount
          rw [hnominal, offeredPeriod_of_other (by rw [Sequencer.openCycle, hindex', hother]), hseq, start_of_ramp true _ hbody']
          exact ⟨rfl, rfl, rfl, hbase, hbase, hcount, rfl⟩
        | dwell ms =>
          have hother : (segmentAt s.settings.segments k).isCycle = false := by rw [Segment.isCycle, hbody']
          rw [Segment.count, hbody'] at hcount
          rw [hnominal, offeredPeriod_of_other (by rw [Sequencer.openCycle, hindex', hother]), hseq, start_of_dwell true _ hbody']
          exact ⟨rfl, rfl, rfl, hbase, hcount, rfl⟩
        | cycle mean' a' period' shape' count' soft' =>
          rw [Segment.count, hbody'] at hcount
          rw [if_neg Bool.false_ne_true] at hm
          rw [start_of_cycle _ hbody'] at hseq hnominal hstood
          dsimp only
          rw [hm, hnominal, offeredPeriod_of_cycle hbody' (.inl ⟨rfl, rfl⟩)]
          have hsoft := hresponds.softStep (c := soft' ≠ 0) (n := max 1 (1024000000 / (soft' * period'))) (by rw [hstood, hcontrol]; rfl)
          refine ⟨by rw [hseq]; rfl, by rw [hseq]; rfl, by rw [hseq]; rfl, by rw [hseq]; exact hcount, rfl, by rw [hseq]; rfl, hsoft,
            fun hrises => ?_⟩
          have hsame := hresponds.mode_of_rising hrises
          rw [hsame, hcontrol] at hrises ⊢
          exact hu.mode_of_rising hrises

end Sys2Proof.Machine
end

section
/-! O26: open readings, the baseline, the capture and growth at a mark. -/

namespace Sys2Proof.Machine

variable {s t : State} {c : SiteConst} {r : Site} {sig : RangesClosed} {cond : Reading}

/-! ## The crack monitor across a mark -/

theorem evaluateSites_cracks (sig : RangesClosed) (s : State) :
    (s.evaluateSites sig).cracks = s.cracks.evaluate s.settings.sites sig := by
  have hput := putCracks_cracks (s.cracks.evaluate s.settings.sites sig) s
  unfold State.evaluateSites
  dsimp only
  split <;> exact hput

theorem recordsMark_cracks (site : Nat) (s : State) :
    (s.recordsMark site).cracks = s.cracks.evaluate s.settings.sites (s.recorder.signal s.settings.channels) :=
  evaluateSites_cracks _ { s with recorder := s.recorder.mark s.settings.channels }

theorem programmeMark_cracks (s : State) : s.programmeMark.cracks = s.cracks := by
  obtain ⟨-, -, -, hcracks, -⟩ := withSequencer_keeps (s.seq.mark s.settings.segments s.control.mode s.barrierMet) s
  exact hcracks

/-- R52, R98: in either order of the blocks the crack monitor evaluates the records and the signal that it held before the mark. -/
theorem handleMark_cracks (first : Bool) (site : Nat) (s : State) :
    (s.handleMark first site).cracks = s.cracks.evaluate s.settings.sites (s.recorder.signal s.settings.channels) := by
  cases first with
  | true =>
    show (s.scannerMark.programmeMark.recordsMark site).cracks = _
    rw [recordsMark_cracks, programmeMark_cracks, programmeMark_recorder, (programmeMark_withdraws s.scannerMark).settings]
    rfl
  | false =>
    show (s.scannerMark.recordsMark site).programmeMark.cracks = _
    rw [programmeMark_cracks, recordsMark_cracks]
    rfl

theorem execCycleMark_cracks (first : Bool) (site : Nat) (hrunning : s.running = true) :
    ∃ t, exec (.cycleMark first site) s = .next t
      ∧ t.cracks = s.cracks.evaluate s.settings.sites (s.recorder.signal s.settings.channels) := by
  obtain ⟨⟨-, -, -, hcracks, -⟩, -⟩ := compose_keeps .mark (s.handleMark first site)
  exact ⟨_, execCycleMark_of_running first site hrunning, hcracks.trans (handleMark_cracks first site s)⟩

/-- R98: the record of a used site after a mark. -/
theorem execCycleMark_site (first : Bool) (site : Nat) {k : Nat} (hrunning : s.running = true) (hc : s.settings.sites[k]? = some c)
    (hr : s.cracks.sites[k]? = some r) (hused : c.used = true) :
    ∃ t, exec (.cycleMark first site) s = .next t
      ∧ t.cracks.sites[k]? = some (r.evaluate c (s.recorder.signal s.settings.channels)).1 := by
  obtain ⟨t, hexec, hcracks⟩ := execCycleMark_cracks first site hrunning
  refine ⟨t, hexec, ?_⟩
  rw [hcracks, Cracks.evaluate_getElem? s.settings.sites _ s.cracks hc hr, Site.evaluateActive, if_pos hused]

/-! ## The condition of a reading (R97) -/

/-- A reading of a ladder within the age of R97. -/
def Site.Recent (c : SiteConst) (total : Nat) (x : Int) (r : Site) : Prop :=
  c.ladder.isSome = true ∧ r.reading = some x ∧ total - r.stamp ≤ 4

theorem conditionOf_of_recent {total : Nat} {x : Int} (h : r.Recent c total x) :
    conditionOf c total r = if c.rOpen ≤ x then .isOpen else .fresh (brokenOf c x) := by
  obtain ⟨hladder, hreading, hage⟩ := h
  obtain ⟨ladder, hladder⟩ := Option.isSome_iff_exists.mp hladder
  unfold conditionOf
  rw [hladder, hreading]
  exact if_neg (Nat.not_lt.mpr hage)

theorem conditionOf_of_not_recent {total : Nat} (h : ∀ x, ¬ r.Recent c total x) : conditionOf c total r = .none := by
  unfold conditionOf
  split
  next ladder x hladder hreading =>
    refine if_pos (Nat.lt_of_not_le fun hage => h x ⟨?_, hreading, hage⟩)
    rw [hladder]
    rfl
  next => rfl

/-! ## The baseline and the capture (R99, R100) -/

theorem takeBaseline_fresh (b : Nat) (r : Site) : r.takeBaseline (.fresh b) = { r with
    baseline := some (r.baseline.getD b), brokenMax := if r.baseline = none then b else r.brokenMax } := by
  obtain ⟨state, baseline, _, _, _, _, _, _, _, _, _, _, _, _⟩ := r
  cases baseline <;> rfl

theorem takeBaseline_of_not_fresh (h : ∀ b, cond ≠ .fresh b) (r : Site) : r.takeBaseline cond = r := by
  unfold Site.takeBaseline
  split
  next b _ => exact absurd rfl (h b)
  next => rfl

/-- R100: what the capture leaves. -/
theorem capture_eq (c : SiteConst) (sig : RangesClosed) (r : Site) : r.capture c sig =
    match channelRange c sig with
    | some range => if r.refRange = none ∧ r.state = .intact ∧ sig.steady = true then { r with
        captureSum := r.captureSum + range, captureCount := r.captureCount + 1
        refRange := if r.captureCount + 1 = 16 then some ((r.captureSum + range) / 16) else none } else r
    | none => r := by
  obtain ⟨state, _, _, _, _, _, _, _, refRange, _, captureCount, _, _, _⟩ := r
  unfold Site.capture
  cases refRange with
  | none =>
    cases channelRange c sig with
    | none => rfl
    | some range =>
      dsimp only
      by_cases hcaptures : state = .intact ∧ sig.steady = true
      · have hall : (none : Option Nat) = none ∧ state = .intact ∧ sig.steady = true := ⟨rfl, hcaptures⟩
        rw [if_pos hcaptures, if_pos hall]
        by_cases hfull : captureCount + 1 = 16
        · rw [if_pos hfull, if_pos hfull]
        · rw [if_neg hfull, if_neg hfull]
      · rw [if_neg hcaptures, if_neg fun h => hcaptures h.2]
  | some ref =>
    cases channelRange c sig with
    | none => rfl
    | some range => exact (if_neg fun h => Option.some_ne_none _ h.1).symm

/-- The parts of a site's record that the capture writes. -/
theorem capture_keeps (c : SiteConst) (sig : RangesClosed) (r : Site) : r.capture c sig = { r with
    captureSum := (r.capture c sig).captureSum, captureCount := (r.capture c sig).captureCount
    refRange := (r.capture c sig).refRange } := by
  rw [capture_eq]
  split
  · split <;> rfl
  · rfl

theorem capture_of_not_intact (sig : RangesClosed) (h : r.state ≠ .intact) : r.capture c sig = r := by
  rw [capture_eq]
  split
  · exact if_neg fun hcaptures => h hcaptures.2.1
  · rfl

/-- The baseline and the capture write different parts of the record. -/
theorem capture_takeBaseline (c : SiteConst) (sig : RangesClosed) (cond : Reading) (r : Site) :
    (r.takeBaseline cond).capture c sig = (r.capture c sig).takeBaseline cond := by
  have hfresh (b : Nat) : (r.takeBaseline (.fresh b)).capture c sig = (r.capture c sig).takeBaseline (.fresh b) := by
    rw [takeBaseline_fresh, takeBaseline_fresh, capture_eq, capture_eq]
    dsimp only
    split
    · split <;> rfl
    · rfl
  cases cond with
  | fresh b => exact hfresh b
  | none | isOpen => rw [takeBaseline_of_not_fresh (by simp), takeBaseline_of_not_fresh (by simp)]

/-! ## The judgement (R103 to R108) -/

/-- R108: growth, in the words of the rule. -/
theorem grow_eq (c : SiteConst) (broken : Nat) (r : Site) : (r.grow c broken).1 = { r with
    state := if r.state = .confirmed ∧ c.critical ≤ broken then .critical else r.state
    brokenMax := if r.brokenMax < broken then broken else r.brokenMax
    growth := if r.brokenMax < broken then min 65535 (r.growth + 1) else r.growth } := by
  unfold Site.grow
  dsimp only
  by_cases hcritical : r.state = .confirmed ∧ c.critical ≤ broken
  · rw [if_pos hcritical, if_pos hcritical]
    dsimp only
    split <;> simp only [satAdd_eq_min]
  · rw [if_neg hcritical, if_neg hcritical]
    split <;> simp only [satAdd_eq_min]

theorem judgeConfirmed_isOpen (c : SiteConst) (r : Site) : (r.judgeConfirmed c .isOpen).1 = { r with faultFlag := true } := rfl

theorem judgeConfirmed_none (c : SiteConst) (r : Site) : (r.judgeConfirmed c .none).1 = r := rfl

theorem judgeConfirmed_fresh (c : SiteConst) (b : Nat) (r : Site) :
    (r.judgeConfirmed c (.fresh b)).1 = (Site.grow c b { r with faultFlag := false }).1 := rfl

/-- What no judgement writes. -/
structure Site.KeepsRanges (r v : Site) : Prop where
  baseline : v.baseline = r.baseline
  refRange : v.refRange = r.refRange
  captureSum : v.captureSum = r.captureSum
  captureCount : v.captureCount = r.captureCount

theorem judgeConfirmed_keepsRanges (c : SiteConst) (cond : Reading) (r : Site) : r.KeepsRanges (r.judgeConfirmed c cond).1 := by
  cases cond with
  | none => exact ⟨rfl, rfl, rfl, rfl⟩
  | isOpen => exact ⟨rfl, rfl, rfl, rfl⟩
  | fresh b =>
    rw [judgeConfirmed_fresh, grow_eq]
    exact ⟨rfl, rfl, rfl, rfl⟩

theorem confirm_keepsRanges (c : SiteConst) (total : Nat) (cond : Reading) (ladder strain : Option Bool) (r : Site) :
    r.KeepsRanges (r.confirm c total cond ladder strain).1 := by
  unfold Site.confirm
  split
  · obtain ⟨h₁, h₂, h₃, h₄⟩ := judgeConfirmed_keepsRanges c cond
      { r with state := .confirmed, confirmCycle := some total, brokenMax := r.confirmedMax cond (r.ladderRoute c ladder) }
    exact ⟨h₁, h₂, h₃, h₄⟩
  · exact ⟨rfl, rfl, rfl, rfl⟩

theorem judge_keepsRanges (c : SiteConst) (total : Nat) (cond : Reading) (ladder strain : Option Bool) (r : Site) :
    r.KeepsRanges (r.judge c total cond ladder strain).1 := by
  have hconfirm (v : Site) (hv : r.KeepsRanges v) : r.KeepsRanges (v.confirm c total cond ladder strain).1 := by
    obtain ⟨h₁, h₂, h₃, h₄⟩ := confirm_keepsRanges c total cond ladder strain v
    obtain ⟨k₁, k₂, k₃, k₄⟩ := hv
    exact ⟨h₁.trans k₁, h₂.trans k₂, h₃.trans k₃, h₄.trans k₄⟩
  unfold Site.judge
  split
  · split
    · exact ⟨rfl, rfl, rfl, rfl⟩
    · unfold Site.judgeIntact
      split
      · exact hconfirm _ ⟨rfl, rfl, rfl, rfl⟩
      · exact ⟨rfl, rfl, rfl, rfl⟩
  · split
    · exact ⟨rfl, rfl, rfl, rfl⟩
    · unfold Site.judgeSuspect
      split
      · exact hconfirm _ ⟨rfl, rfl, rfl, rfl⟩
      · repeat' split
        all_goals exact ⟨rfl, rfl, rfl, rfl⟩
  · unfold Site.judgeFault
    repeat' split
    all_goals exact ⟨rfl, rfl, rfl, rfl⟩
  · exact judgeConfirmed_keepsRanges c cond r
  · exact judgeConfirmed_keepsRanges c cond r

/-! ### By the state of the site -/

variable {total : Nat} {ladder strain : Option Bool}

theorem judge_of_open (h : r.state = .intact ∨ r.state = .suspect) : (r.judge c total .isOpen ladder strain).1 = r.fail := by
  unfold Site.judge
  obtain h | h := h <;> rw [h] <;> rfl

theorem judge_of_intact (h : r.state = .intact) (hopen : cond ≠ .isOpen) :
    r.judge c total cond ladder strain = r.judgeIntact c total cond ladder strain := by
  unfold Site.judge
  rw [h]
  exact if_neg hopen

theorem judge_of_suspect (h : r.state = .suspect) (hopen : cond ≠ .isOpen) :
    r.judge c total cond ladder strain = r.judgeSuspect c total cond ladder strain := by
  unfold Site.judge
  rw [h]
  exact if_neg hopen

theorem judge_of_fault (h : r.state = .sensorFault) : (r.judge c total cond ladder strain).1 = r.judgeFault c cond := by
  unfold Site.judge
  rw [h]

theorem judge_of_confirmed (h : r.state = .confirmed ∨ r.state = .critical) :
    (r.judge c total cond ladder strain).1 = (r.judgeConfirmed c cond).1 := by
  unfold Site.judge
  obtain h | h := h <;> rw [h]

/-- R98: the evaluation, once the reading's condition is known. -/
theorem evaluate_eq (h : conditionOf c sig.total r = cond) : (r.evaluate c sig).1
    = (((r.takeBaseline cond).capture c sig).judge c sig.total cond (((r.takeBaseline cond).capture c sig).ladderEvidence cond)
        (((r.takeBaseline cond).capture c sig).strainEvidence c sig)).1 := by
  subst h
  rfl

theorem prepared_state (c : SiteConst) (sig : RangesClosed) (cond : Reading) (r : Site) :
    ((r.takeBaseline cond).capture c sig).state = r.state := (capture_state c sig _).trans (takeBaseline_state cond r)

/-- R103: a sensor fault found. -/
theorem evaluate_fail (h : conditionOf c sig.total r = .isOpen) (hr : r.state = .intact ∨ r.state = .suspect) :
    (r.evaluate c sig).1 = (r.capture c sig).fail := by
  rw [evaluate_eq h, takeBaseline_of_not_fresh (by simp), judge_of_open]
  rwa [capture_state]

/-- R104: a recovery that starts afresh. -/
theorem evaluate_open_fault (h : conditionOf c sig.total r = .isOpen) (hr : r.state = .sensorFault) :
    (r.evaluate c sig).1 = { r with clears := 0 } := by
  rw [evaluate_eq h, takeBaseline_of_not_fresh (by simp), capture_of_not_intact sig (by simp [hr]), judge_of_fault hr]
  rfl

/-- R103: the sensor fault flag of a CONFIRMED or CRITICAL site. -/
theorem evaluate_open_confirmed (h : conditionOf c sig.total r = .isOpen) (hr : r.state = .confirmed ∨ r.state = .critical) :
    (r.evaluate c sig).1 = { r with faultFlag := true } := by
  have hne : r.state ≠ .intact := by obtain hr | hr := hr <;> simp [hr]
  rw [evaluate_eq h, takeBaseline_of_not_fresh (by simp), capture_of_not_intact sig hne, judge_of_confirmed hr]
  rfl

/-- R108: growth and the critical count at a CONFIRMED or CRITICAL site. -/
theorem evaluate_of_confirmed {b : Nat} (h : conditionOf c sig.total r = .fresh b) (hr : r.state = .confirmed ∨ r.state = .critical) :
    (r.evaluate c sig).1 = { r with
      state := if r.state = .critical ∨ c.critical ≤ b then .critical else .confirmed
      faultFlag := false
      baseline := some (r.baseline.getD b)
      brokenMax := if r.baseline = none then b else max r.brokenMax b
      growth := if r.baseline ≠ none ∧ r.brokenMax < b then min 65535 (r.growth + 1) else r.growth } := by
  have hne : (r.takeBaseline (.fresh b)).state ≠ .intact := by
    rw [takeBaseline_state]
    obtain hr | hr := hr <;> simp [hr]
  rw [evaluate_eq h, capture_of_not_intact sig hne, judge_of_confirmed (by rwa [takeBaseline_state]), judgeConfirmed_fresh, grow_eq,
    takeBaseline_fresh]
  dsimp only
  have hstate : (if r.state = .confirmed ∧ c.critical ≤ b then SiteState.critical else r.state)
      = if r.state = .critical ∨ c.critical ≤ b then .critical else .confirmed := by
    obtain hr | hr := hr <;> simp [hr]
  rw [hstate]
  by_cases hb : r.baseline = none
  · simp [hb]
  · have hmax : (if r.brokenMax < b then b else r.brokenMax) = max r.brokenMax b := by split <;> omega
    simp [hb, hmax]

/-- R104: the recovery of a site from a sensor fault. -/
theorem evaluate_of_fault {b : Nat} (h : conditionOf c sig.total r = .fresh b) (hr : r.state = .sensorFault) :
    (r.evaluate c sig).1 = { r with
      state := if c.runLength ≤ min 65535 (r.clears + 1) then .intact else .sensorFault
      evidence := if c.runLength ≤ min 65535 (r.clears + 1) then 0 else r.evidence
      clears := if c.runLength ≤ min 65535 (r.clears + 1) then 0 else min 65535 (r.clears + 1)
      baseline := some (r.baseline.getD b)
      brokenMax := if r.baseline = none then b else r.brokenMax } := by
  have hstate : (r.takeBaseline (.fresh b)).state = .sensorFault := (takeBaseline_state _ r).trans hr
  rw [evaluate_eq h, capture_of_not_intact sig (by rw [hstate]; decide), judge_of_fault hstate, takeBaseline_fresh]
  unfold Site.judgeFault
  dsimp only
  rw [satAdd_eq_min]
  split
  · rfl
  · rw [hr]

/-- R97: with no recent reading a site that no evidence moves stands. -/
theorem evaluate_of_none (h : conditionOf c sig.total r = .none) (hr : r.state = .sensorFault ∨ r.state = .confirmed ∨ r.state = .critical) :
    (r.evaluate c sig).1 = r := by
  have hne : r.state ≠ .intact := by obtain hr | hr | hr := hr <;> simp [hr]
  rw [evaluate_eq h, takeBaseline_of_not_fresh (by simp), capture_of_not_intact sig hne]
  obtain hr | hr | hr := hr
  · rw [judge_of_fault hr]; rfl
  · rw [judge_of_confirmed (.inl hr)]; rfl
  · rw [judge_of_confirmed (.inr hr)]; rfl

/-! ### The baseline's strands -/

theorem grow_brokenMax {b : Nat} (h : r.brokenMax = b) : (r.grow c b).1.brokenMax = b := by
  rw [grow_eq]
  dsimp only
  rw [h, ite_self]

theorem judgeConfirmed_brokenMax {b : Nat} (h : r.brokenMax = b) : (r.judgeConfirmed c (.fresh b)).1.brokenMax = b :=
  grow_brokenMax (r := { r with faultFlag := false }) h

theorem confirm_brokenMax {b : Nat} (h : r.brokenMax = b) : (r.confirm c total (.fresh b) ladder strain).1.brokenMax = b := by
  unfold Site.confirm
  split
  · refine judgeConfirmed_brokenMax (r := { r with
      state := .confirmed, confirmCycle := some total, brokenMax := r.confirmedMax (.fresh b) (r.ladderRoute c ladder) }) ?_
    unfold Site.confirmedMax
    dsimp only
    rw [h, max_self, ite_self]
  · exact h

/-- R99: a b_max taken with the baseline of the same evaluation stands. -/
theorem judge_brokenMax {b : Nat} (h : r.brokenMax = b) : (r.judge c total (.fresh b) ladder strain).1.brokenMax = b := by
  cases hr : r.state with
  | intact =>
    rw [judge_of_intact hr (by simp), Site.judgeIntact]
    split
    · exact confirm_brokenMax (r := { r with state := .suspect, evidence := 1, clears := 0, strainSeen := decide (strain = some true) }) h
    · exact h
  | suspect =>
    rw [judge_of_suspect hr (by simp), Site.judgeSuspect]
    split
    · exact confirm_brokenMax (r := { r with
        evidence := satAdd 65535 r.evidence 1, clears := 0, strainSeen := r.strainSeen || decide (strain = some true) }) h
    · repeat' split
      all_goals exact h
  | sensorFault =>
    rw [judge_of_fault hr, Site.judgeFault]
    split <;> exact h
  | confirmed => rw [judge_of_confirmed (.inl hr)]; exact judgeConfirmed_brokenMax h
  | critical => rw [judge_of_confirmed (.inr hr)]; exact judgeConfirmed_brokenMax h

end Sys2Proof.Machine
end

section
/-! O26 assembled, and O27: evidence at an INTACT or a SUSPECT site. -/

namespace Sys2Proof.Machine

variable {s t : State} {c : SiteConst} {r : Site} {sig : RangesClosed} {cond : Reading}

/-! ## The range of a site's channel -/

theorem signal_total (s : State) : (s.recorder.signal s.settings.channels).total = min 4294967295 (s.recorder.total + 1) :=
  nextTotal_eq_min s.recorder

/-- R91, R100: the signal carries a range for a site whose channel is enabled and has samples. -/
theorem channelRange_signal {j : Nat} {g : ChannelConst} {h : Channel} (hj : c.channel = some j) (hg : s.settings.channels[j]? = some g)
    (hh : s.recorder.channels[j]? = some h) : channelRange c (s.recorder.signal s.settings.channels)
      = if g.enabled = true ∧ 1 ≤ h.samples then some (h.cycleMax - h.cycleMin).toNat else none := by
  have hrange : (s.recorder.signal s.settings.channels).ranges[j]? = some (h.closedRange g) := by
    simp [Recorder.signal, List.getElem?_zipWith, hg, hh]
  rw [channelRange, hj]
  show (s.recorder.signal s.settings.channels).ranges.getD j none = _
  rw [List.getD_eq_getElem?_getD, hrange, Option.getD_some, Channel.closedRange]
  exact if_congr (and_congr_right' Nat.pos_iff_ne_zero.symm) rfl rfl

theorem channelRange_of_no_channel (h : c.channel = none) : channelRange c sig = none := by
  rw [channelRange, h]
  rfl

/-- R99, R100: what the evaluation leaves of the capture is what the capture makes of the record before it. -/
theorem evaluate_capture (c : SiteConst) (sig : RangesClosed) (r : Site) :
    (r.evaluate c sig).1.captureSum = (r.capture c sig).captureSum ∧ (r.evaluate c sig).1.captureCount = (r.capture c sig).captureCount
      ∧ (r.evaluate c sig).1.refRange = (r.capture c sig).refRange := by
  have hprepared : ∀ cond, ((r.takeBaseline cond).capture c sig).captureSum = (r.capture c sig).captureSum
      ∧ ((r.takeBaseline cond).capture c sig).captureCount = (r.capture c sig).captureCount
      ∧ ((r.takeBaseline cond).capture c sig).refRange = (r.capture c sig).refRange := by
    intro cond
    rw [capture_takeBaseline]
    cases cond with
    | fresh b => rw [takeBaseline_fresh]; exact ⟨rfl, rfl, rfl⟩
    | none | isOpen => rw [takeBaseline_of_not_fresh (by simp)]; exact ⟨rfl, rfl, rfl⟩
  obtain ⟨hsum, hcount, href⟩ := hprepared (conditionOf c sig.total r)
  rw [evaluate_eq rfl]
  obtain ⟨-, href', hsum', hcount'⟩ := judge_keepsRanges c sig.total (conditionOf c sig.total r)
    (((r.takeBaseline (conditionOf c sig.total r)).capture c sig).ladderEvidence (conditionOf c sig.total r))
    (((r.takeBaseline (conditionOf c sig.total r)).capture c sig).strainEvidence c sig)
    ((r.takeBaseline (conditionOf c sig.total r)).capture c sig)
  exact ⟨hsum'.trans hsum, hcount'.trans hcount, href'.trans href⟩

/-- R99: what it leaves of the baseline. -/
theorem evaluate_baseline (c : SiteConst) (sig : RangesClosed) (r : Site) :
    (r.evaluate c sig).1.baseline = (r.takeBaseline (conditionOf c sig.total r)).baseline := by
  rw [evaluate_eq rfl, (judge_keepsRanges ..).baseline, capture_keeps]

theorem evaluate_brokenMax {b : Nat} (h : conditionOf c sig.total r = .fresh b) (hb : r.baseline = none) :
    (r.evaluate c sig).1.brokenMax = b := by
  rw [evaluate_eq h, judge_brokenMax]
  rw [capture_keeps, takeBaseline_fresh, if_pos hb]

/-- Settles O26: the evaluation by the reading's condition and the site's state, and the sites that are not evaluated. -/
theorem openReadingsAndGrowthAreRecorded : Obligations.OpenReadingsAndGrowthAreRecorded := by
  refine ⟨fun first site s k c r hrunning hc hr hused => ?_, fun first site s hrunning => ?_, fun first site s hstopped => ?_⟩
  · obtain ⟨t, hexec, hsite⟩ := execCycleMark_site first site hrunning hc hr hused
    refine ⟨t, _, hexec, hsite, ?_⟩
    have htotal := signal_total s
    have hrange (j : Nat) (g : ChannelConst) (h : Channel) (hj : c.channel = some j) := channelRange_signal (s := s) (g := g) (h := h) hj
    have hsteady : (s.recorder.signal s.settings.channels).steady = s.recorder.steady := rfl
    generalize hsig : s.recorder.signal s.settings.channels = sig at htotal hrange hsteady
    intro total recent broken
    have hrecent (x : Int) : recent x ↔ r.Recent c sig.total x := by
      rw [htotal]
      exact Iff.rfl
    have hopen (x : Int) (hx : recent x) (hle : c.rOpen ≤ x) : conditionOf c sig.total r = .isOpen := by
      rw [conditionOf_of_recent ((hrecent x).mp hx), if_pos hle]
    have hfresh (x : Int) (hx : recent x) (hlt : x < c.rOpen) : conditionOf c sig.total r = .fresh (broken x) := by
      rw [conditionOf_of_recent ((hrecent x).mp hx), if_neg (Int.not_le.mpr hlt)]
      rfl
    have hnone (hold : ∀ x, ¬ recent x) : conditionOf c sig.total r = .none :=
      conditionOf_of_not_recent fun x => mt (hrecent x).mpr (hold x)
    obtain ⟨hsum, hcount, href⟩ := evaluate_capture c sig r
    refine ⟨fun x hx hle => ?isOpen, fun x hx hlt hstate => evaluate_of_confirmed (hfresh x hx hlt) hstate,
      fun x hx hlt hstate => evaluate_of_fault (hfresh x hx hlt) hstate, fun hold hstate => evaluate_of_none (hnone hold) hstate,
      fun x hx hlt hb => ⟨?_, evaluate_brokenMax (hfresh x hx hlt) hb⟩, fun h => ?baseline, fun j g h hj hg hh => ?capture, fun hno => ?noChannel⟩
    case isOpen =>
      have hfail (hstate : r.state = .intact ∨ r.state = .suspect) : (r.evaluate c sig).1 = { r with
          state := .sensorFault, evidence := 0, clears := 0, strainSeen := false
          refRange := (r.evaluate c sig).1.refRange, captureSum := (r.evaluate c sig).1.captureSum
          captureCount := (r.evaluate c sig).1.captureCount } := by
        rw [href, hsum, hcount, evaluate_fail (hopen x hx hle) hstate, Site.fail, capture_keeps]
      split
      next hstate => exact hfail (.inl hstate)
      next hstate => exact hfail (.inr hstate)
      next hstate => exact evaluate_open_fault (hopen x hx hle) hstate
      next hstate => exact evaluate_open_confirmed (hopen x hx hle) (.inl hstate)
      next hstate => exact evaluate_open_confirmed (hopen x hx hle) (.inr hstate)
    · rw [evaluate_baseline, hfresh x hx hlt, takeBaseline_fresh, hb]
      rfl
    case baseline =>
      rw [evaluate_baseline]
      by_cases hx : ∃ x, recent x ∧ x < c.rOpen
      · obtain ⟨x, hx, hlt⟩ := hx
        obtain ⟨b, hb⟩ := Option.isSome_iff_exists.mp (h.resolve_right fun hall => Int.not_le.mpr hlt (hall x hx))
        rw [hfresh x hx hlt, takeBaseline_fresh, hb]
        rfl
      · rw [takeBaseline_of_not_fresh]
        intro b hb
        by_cases hold : ∃ x, recent x
        · obtain ⟨x, hold⟩ := hold
          rw [hopen x hold (Int.not_lt.mp fun hlt => hx ⟨x, hold, hlt⟩)] at hb
          exact Reading.noConfusion hb
        · rw [hnone fun x hx => hold ⟨x, hx⟩] at hb
          exact Reading.noConfusion hb
    case capture =>
      rw [hsum, hcount, href, capture_eq, hrange j g h hj hg hh, hsteady]
      by_cases hg' : g.enabled = true ∧ 1 ≤ h.samples
      · rw [if_pos hg']
        dsimp only
        by_cases hcaptures : r.refRange = none ∧ r.state = .intact ∧ s.recorder.steady = true
        · have hall : r.refRange = none ∧ r.state = .intact ∧ s.recorder.steady = true ∧ g.enabled = true ∧ 1 ≤ h.samples :=
            ⟨hcaptures.1, hcaptures.2.1, hcaptures.2.2, hg'⟩
          rw [if_pos hcaptures, if_pos hall]
          exact ⟨rfl, rfl, rfl⟩
        · rw [if_neg hcaptures, if_neg fun hall => hcaptures ⟨hall.1, hall.2.1, hall.2.2.1⟩]
          exact ⟨rfl, rfl, rfl⟩
      · rw [if_neg hg', if_neg fun hall => hg' hall.2.2.2]
        exact ⟨rfl, rfl, rfl⟩
    case noChannel =>
      rw [hsum, hcount, href, capture_eq, channelRange_of_no_channel hno]
      exact ⟨rfl, rfl, rfl⟩
  · obtain ⟨t, hexec, hcracks⟩ := execCycleMark_cracks first site hrunning
    refine ⟨t, hexec, fun k c r hc hr hunused => ?_, ?_⟩
    · rw [hcracks, Cracks.evaluate_getElem? s.settings.sites _ s.cracks hc hr, Site.evaluateActive_unused hunused]
    · rw [hcracks]
      exact sensorFaultOf_iff s.settings.sites _
  · show execCycleMark first site s = _
    rw [execCycleMark, hstopped]
    rfl

end Sys2Proof.Machine
end

section
/-! O27: evidence at an INTACT or a SUSPECT site. -/

namespace Sys2Proof.Machine

variable {s t : State} {c : SiteConst} {r v : Site} {sig : RangesClosed} {cond : Reading} {total broken : Nat} {ladder strain : Option Bool}

/-! ## The confirmation (R107) -/

/-- The condition of a reading that is not open, against the ladder evidence: fresh where there is some, none where there is none. -/
def Reading.Gives (cond : Reading) (broken : Nat) (ladder : Option Bool) : Prop :=
  (cond = .fresh broken ∧ ladder.isSome = true) ∨ (cond = .none ∧ ladder = Option.none)

theorem Reading.Gives.not_open (h : cond.Gives broken ladder) : cond ≠ .isOpen := by
  obtain ⟨rfl, -⟩ | ⟨rfl, -⟩ := h <;> exact Reading.noConfusion

/-- R107: the ladder route and the strain route. -/
@[reducible] def Site.ByLadder (c : SiteConst) (ladder : Option Bool) (r : Site) : Prop :=
  ladder = some true ∧ c.runLength ≤ r.evidence ∧ (c.channel = none ∨ r.strainSeen = true)

@[reducible] def Site.ByStrain (c : SiteConst) (strain : Option Bool) (r : Site) : Prop := strain = some true ∧ 4 * c.runLength ≤ r.evidence

theorem ladderRoute_iff : r.ladderRoute c ladder = true ↔ r.ByLadder c ladder := by
  simp [Site.ladderRoute, Site.ByLadder, and_assoc]

theorem confirms_iff : r.confirms c ladder strain = true ↔ r.ByLadder c ladder ∨ r.ByStrain c strain := by
  simp [Site.confirms, Site.ByLadder, Site.ByStrain, and_assoc]

/-- R107, R108: the confirmation of a SUSPECT site; growth is none, since b_max takes the strands of the reading. -/
theorem confirm_eq (h : cond.Gives broken ladder) : (r.confirm c total cond ladder strain).1 =
    if r.ByLadder c ladder ∨ r.ByStrain c strain then { r with
      state := if ladder.isSome = true ∧ c.critical ≤ broken then .critical else .confirmed
      confirmCycle := some total
      brokenMax := if ladder = none then r.brokenMax else if r.ByLadder c ladder then broken else max r.brokenMax broken
      faultFlag := if ladder = none then r.faultFlag else false } else r := by
  unfold Site.confirm
  by_cases hconfirms : r.ByLadder c ladder ∨ r.ByStrain c strain
  · rw [if_pos (confirms_iff.mpr hconfirms), if_pos hconfirms]
    obtain ⟨rfl, hsome⟩ | ⟨rfl, rfl⟩ := h
    · have hne : ladder ≠ none := Option.isSome_iff_ne_none.mp hsome
      have hmax : r.confirmedMax (.fresh broken) (r.ladderRoute c ladder) = if r.ByLadder c ladder then broken else max r.brokenMax broken :=
        if_congr ladderRoute_iff rfl rfl
      have hle : ¬ (if r.ByLadder c ladder then broken else max r.brokenMax broken) < broken := by split <;> omega
      rw [judgeConfirmed_fresh, grow_eq, hmax]
      dsimp only
      rw [if_neg hle, if_neg hle, if_neg hne, if_neg hne]
      simp [hsome]
    · rw [judgeConfirmed_none]
      rfl
  · rw [if_neg (mt confirms_iff.mp hconfirms), if_neg hconfirms]

/-! ## The evaluation of a reading that is not open -/

theorem ladderEvidence_eq (h : cond.Gives broken ladder) (hladder : ladder = none ∨ ladder = some (decide (r.baseline.getD broken < broken))) :
    (r.takeBaseline cond).ladderEvidence cond = ladder := by
  obtain ⟨rfl, hsome⟩ | ⟨rfl, rfl⟩ := h
  · rw [takeBaseline_fresh, hladder.resolve_left (Option.isSome_iff_ne_none.mp hsome)]
    rfl
  · rfl

theorem takeBaseline_of_gives (h : cond.Gives broken ladder) (r : Site) : r.takeBaseline cond = { r with
    baseline := if ladder.isSome then some (r.baseline.getD broken) else r.baseline
    brokenMax := if ladder.isSome = true ∧ r.baseline = none then broken else r.brokenMax } := by
  obtain ⟨rfl, hsome⟩ | ⟨rfl, rfl⟩ := h
  · rw [takeBaseline_fresh, hsome]
    simp
  · rw [takeBaseline_of_not_fresh (by simp)]
    simp

/-- The strain evidence reads of the record the reference alone. -/
theorem strainEvidence_takeBaseline (cond : Reading) (r : Site) : (r.takeBaseline cond).strainEvidence c sig = r.strainEvidence c sig := by
  have href : (r.takeBaseline cond).refRange = r.refRange := by
    unfold Site.takeBaseline
    split <;> rfl
  rw [Site.strainEvidence, href]
  rfl

/-- R106: a SUSPECT site's count of evaluations that clear it. -/
theorem judgeSuspect_eq (h : cond.Gives broken ladder) (hstate : r.state = .suspect) :
    (r.judge c total cond ladder strain).1 =
      if ladder = some true ∨ strain = some true then
        (Site.confirm c total cond ladder strain { r with
          evidence := min 65535 (r.evidence + 1), clears := 0, strainSeen := r.strainSeen || decide (strain = some true) }).1
      else if ladder = some false ∨ strain = some false then
        if c.runLength ≤ min 65535 (r.clears + 1) then { r with state := .intact, evidence := 0, clears := 0, strainSeen := false }
        else { r with clears := min 65535 (r.clears + 1) }
      else r := by
  rw [judge_of_suspect hstate h.not_open, Site.judgeSuspect]
  simp only [satAdd_eq_min]
  by_cases htrue : ladder = some true ∨ strain = some true
  · rw [if_pos htrue, if_pos htrue]
  · have hsome : (ladder.isSome || strain.isSome) = true ↔ ladder = some false ∨ strain = some false := by
      rcases ladder with _ | _ | _ <;> rcases strain with _ | _ | _ <;> simp_all
    rw [if_neg htrue, if_neg htrue]
    by_cases hfalse : ladder = some false ∨ strain = some false
    · rw [if_pos (hsome.mpr hfalse), if_pos hfalse]
      split <;> rfl
    · rw [if_neg (mt hsome.mp hfalse), if_neg hfalse]

/-- R105: true evidence makes an INTACT site SUSPECT. -/
theorem judgeIntact_eq (h : cond.Gives broken ladder) (hstate : r.state = .intact) :
    (r.judge c total cond ladder strain).1 =
      if ladder = some true ∨ strain = some true then
        (Site.confirm c total cond ladder strain { r with
          state := .suspect, evidence := 1, clears := 0, strainSeen := decide (strain = some true) }).1
      else r := by
  rw [judge_of_intact hstate h.not_open, Site.judgeIntact]
  split <;> rfl

/-- R105 to R108: what a reading that is not open leaves of an INTACT or a SUSPECT site. -/
theorem judge_of_gives (h : cond.Gives broken ladder) (hstate : r.state = .intact ∨ r.state = .suspect) :
    let evidence : Nat := if r.state = .intact then 1 else min 65535 (r.evidence + 1)
    let clears : Nat := min 65535 (r.clears + 1)
    let seen : Bool := (decide (r.state = .suspect) && r.strainSeen) || decide (strain = some true)
    let byLadder : Prop := ladder = some true ∧ c.runLength ≤ evidence ∧ (c.channel = none ∨ seen = true)
    let byStrain : Prop := strain = some true ∧ 4 * c.runLength ≤ evidence
    (r.judge c total cond ladder strain).1 = if ladder = some true ∨ strain = some true then
        if byLadder ∨ byStrain then { r with
          state := if ladder.isSome = true ∧ c.critical ≤ broken then .critical else .confirmed
          evidence := evidence, clears := 0, strainSeen := seen, confirmCycle := some total
          brokenMax := if ladder = none then r.brokenMax else if byLadder then broken else max r.brokenMax broken
          faultFlag := if ladder = none then r.faultFlag else false }
        else { r with state := .suspect, evidence := evidence, clears := 0, strainSeen := seen }
      else if r.state = .suspect ∧ (ladder = some false ∨ strain = some false) then
        if c.runLength ≤ clears then { r with state := .intact, evidence := 0, clears := 0, strainSeen := false }
        else { r with clears := clears }
      else r := by
  intro evidence clears seen byLadder byStrain
  obtain hintact | hsuspect := hstate
  · have hevidence : evidence = 1 := if_pos hintact
    have hseen : seen = decide (strain = some true) := by
      show ((decide (r.state = .suspect) && r.strainSeen) || _) = _
      rw [hintact]
      rfl
    have hnot : ¬ (r.state = .suspect ∧ (ladder = some false ∨ strain = some false)) := by rw [hintact]; simp
    rw [judgeIntact_eq h hintact, confirm_eq h, if_neg hnot]
    refine if_congr Iff.rfl ?_ rfl
    unfold Site.ByLadder Site.ByStrain
    dsimp only
    rw [← hevidence, ← hseen]
  · have hevidence : evidence = min 65535 (r.evidence + 1) := if_neg (by rw [hsuspect]; decide)
    have hseen : seen = (r.strainSeen || decide (strain = some true)) := by
      show ((decide (r.state = .suspect) && r.strainSeen) || _) = _
      rw [hsuspect]
      rfl
    rw [judgeSuspect_eq h hsuspect, confirm_eq h]
    refine if_congr Iff.rfl ?_ (if_congr ⟨fun h => ⟨hsuspect, h⟩, And.right⟩ rfl rfl)
    unfold Site.ByLadder Site.ByStrain
    dsimp only
    rw [← hevidence, ← hseen, hsuspect]

/-- Settles O27: the reading's condition and the evidence are those given, and the judgement is made of the record they leave. -/
theorem ladderEvidenceConfirmsASite : Obligations.LadderEvidenceConfirmsASite := by
  intro first site s k c r captured broken ladder strain hrunning hc hr hused hstate total hladder hstrain base evidence clears seen
    byLadder byStrain
  obtain ⟨t, hexec, hsite⟩ := execCycleMark_site first site hrunning hc hr hused
  refine ⟨t, _, hexec, hsite, ?_⟩
  have htotal : (s.recorder.signal s.settings.channels).total = total := signal_total s
  have hrange (j : Nat) (g : ChannelConst) (h : Channel) (hj : c.channel = some j) := channelRange_signal (s := s) (g := g) (h := h) hj
  have hsteady : (s.recorder.signal s.settings.channels).steady = s.recorder.steady := rfl
  generalize hsig : s.recorder.signal s.settings.channels = sig at htotal hrange hsteady
  have hgives : (conditionOf c sig.total r).Gives broken ladder := by
    rw [htotal]
    obtain ⟨x, hl, hx, hage, hlt, hbroken, hevidence⟩ | ⟨hold, hnone⟩ := hladder
    · rw [conditionOf_of_recent ⟨hl, hx, hage⟩, if_neg (Int.not_le.mpr hlt), hbroken]
      exact .inl ⟨rfl, by rw [hevidence]; rfl⟩
    · refine .inr ⟨conditionOf_of_not_recent fun x ⟨hl, hx, hage⟩ => ?_, hnone⟩
      obtain h | h | h := hold
      · rw [h] at hl
        exact Bool.noConfusion hl
      · rw [h] at hx
        exact absurd hx.symm (Option.some_ne_none _)
      · exact Nat.not_lt.mpr hage h
  have hvalue : ladder = none ∨ ladder = some (decide (r.baseline.getD broken < broken)) := by
    obtain ⟨x, -, -, -, -, -, h⟩ | ⟨-, h⟩ := hladder
    · exact .inr h
    · exact .inl h
  have hcaptured : r.capture c sig = captured ∧ captured.strainEvidence c sig = strain := by
    obtain ⟨j, g, h, hj, hg, hh, hcaptured, hstrain⟩ | ⟨hno, hcaptured, hstrain⟩ := hstrain
    · have hchannel := hrange j g h hj hg hh
      rw [Site.strainEvidence, hstrain, capture_eq, hchannel, hsteady]
      by_cases hg' : g.enabled = true ∧ 1 ≤ h.samples
      · rw [if_pos hg', hg'.1, decide_eq_true hg'.2]
        rw [hg'.1, decide_eq_true hg'.2] at hcaptured
        refine ⟨hcaptured.symm, ?_⟩
        cases captured.refRange <;> rfl
      · have hunsteady : (g.enabled && decide (1 ≤ h.samples)) = false := by
          refine Bool.eq_false_iff.mpr fun hall => hg' ?_
          rwa [Bool.and_eq_true, decide_eq_true_eq] at hall
        rw [hunsteady] at hcaptured ⊢
        rw [if_neg hg']
        refine ⟨?_, by cases captured.refRange <;> rfl⟩
        rw [hcaptured]
        simp
    · rw [capture_eq, Site.strainEvidence, channelRange_of_no_channel hno, hcaptured, hstrain]
      exact ⟨rfl, by cases r.refRange <;> rfl⟩
  obtain ⟨hcaptured, hstrainEvidence⟩ := hcaptured
  have hkeeps := capture_keeps c sig r
  rw [hcaptured] at hkeeps
  have hbaseline : captured.baseline = r.baseline := by rw [hkeeps]
  have hstate' : captured.state = r.state := by rw [hkeeps]
  have hprepared : (r.takeBaseline (conditionOf c sig.total r)).capture c sig = captured.takeBaseline (conditionOf c sig.total r) := by
    rw [capture_takeBaseline, hcaptured]
  have hbase : captured.takeBaseline (conditionOf c sig.total r) = base := by
    have hbroken : captured.brokenMax = r.brokenMax := by rw [hkeeps]
    rw [takeBaseline_of_gives hgives, hbaseline, hbroken]
  have hev := ladderEvidence_eq hgives (r := captured) (by rwa [hbaseline])
  have hsv := strainEvidence_takeBaseline (c := c) (sig := sig) (conditionOf c sig.total r) captured
  rw [hstrainEvidence] at hsv
  rw [evaluate_eq rfl, hprepared, hev, hsv, hbase, htotal] at *
  have hbaseState : base.state = r.state := hstate'
  have hbaseEvidence : base.evidence = r.evidence ∧ base.clears = r.clears ∧ base.strainSeen = r.strainSeen ∧ base.faultFlag = r.faultFlag := by
    show captured.evidence = _ ∧ captured.clears = _ ∧ captured.strainSeen = _ ∧ captured.faultFlag = _
    rw [hkeeps]
    exact ⟨rfl, rfl, rfl, rfl⟩
  have hbaseMax : ladder = none → base.brokenMax = r.brokenMax := by
    intro hnone
    show (if ladder.isSome = true ∧ r.baseline = none then broken else r.brokenMax) = _
    rw [hnone]
    simp
  obtain ⟨hbaseEv, hbaseClears, hbaseSeen, hbaseFault⟩ := hbaseEvidence
  clear_value base
  have hjudge := judge_of_gives (c := c) (total := total) (strain := strain) hgives (r := base) (by rwa [hbaseState])
  rw [hjudge, hbaseState, hbaseEv, hbaseClears, hbaseSeen, hbaseFault]
  by_cases hnone : ladder = none
  · rw [hbaseMax hnone]
  · simp only [if_neg hnone]
    rfl

end Sys2Proof.Machine
end

section
/-! O29: the firing of a scan point, and the ladder requests posted at a mark. -/

namespace Sys2Proof.Machine

variable {s t : State} {z : Scanner}

/-! ## A firing -/

theorem execScanPointFire_of_fires {k f head : Nat} (hrunning : s.running = true)
    (hpoint : s.settings.points[k]? = some { fraction := some f, head := some head }) : exec (.scanPointFire k) s = .next (s.firePoint k) := by
  have hat : pointAt s.settings k = { fraction := some f, head := some head } := by
    rw [pointAt, List.getD_eq_getElem?_getD, hpoint, Option.getD_some]
  show execScanPointFire k s = _
  rw [execScanPointFire, hrunning, hat]
  rfl

/-! ## The scanner across a mark -/

theorem evaluateSites_scanner (sig : RangesClosed) (s : State) : (s.evaluateSites sig).scanner = s.scanner := by
  have hput := (putCracks_frame (s.cracks.evaluate s.settings.sites sig) s).2.1
  unfold State.evaluateSites
  dsimp only
  split <;> exact hput

theorem recordsMark_scanner (site : Nat) (s : State) : (s.recordsMark site).scanner = s.scanner.postAll s.settings site := by
  have hsettings := (evaluateSites_withdraws (s.recorder.signal s.settings.channels)
    { s with recorder := s.recorder.mark s.settings.channels }).settings
  have hscanner := evaluateSites_scanner (s.recorder.signal s.settings.channels) { s with recorder := s.recorder.mark s.settings.channels }
  unfold State.recordsMark
  dsimp only
  rw [hscanner, hsettings]

theorem programmeMark_scanner (s : State) : s.programmeMark.scanner = s.scanner := by
  obtain ⟨-, hscanner, -⟩ := withSequencer_keeps (s.seq.mark s.settings.segments s.control.mode s.barrierMet) s
  exact hscanner

/-- R52, R70, R76: in either order of the blocks the scanner carries what waits and then takes the requests posted. -/
theorem handleMark_scanner (first : Bool) (site : Nat) (s : State) :
    (s.handleMark first site).scanner = s.scanner.mark.postAll s.settings site := by
  cases first with
  | true =>
    show (s.scannerMark.programmeMark.recordsMark site).scanner = _
    rw [recordsMark_scanner, programmeMark_scanner, (programmeMark_withdraws s.scannerMark).settings]
    rfl
  | false =>
    show (s.scannerMark.recordsMark site).programmeMark.scanner = _
    rw [programmeMark_scanner, recordsMark_scanner]
    rfl

/-! ## The posting order (R70, R72) -/

theorem mem_postedSites {c : Settings} {j : Nat} :
    j ∈ postedSites c ↔ ∃ k, c.sites[j]? = some k ∧ k.used = true ∧ k.ladder.isSome = true := by
  unfold postedSites siteConst
  rw [List.mem_filter, List.mem_range]
  constructor
  · rintro ⟨hj, hposted⟩
    rw [List.getD_eq_getElem _ _ hj, Bool.and_eq_true] at hposted
    exact ⟨_, List.getElem?_eq_getElem hj, hposted⟩
  · rintro ⟨k, hk, hposted⟩
    obtain ⟨hj, rfl⟩ := List.getElem?_eq_some_iff.mp hk
    exact ⟨hj, by rw [List.getD_eq_getElem _ _ hj, Bool.and_eq_true]; exact hposted⟩

theorem postedSites_nodup (c : Settings) : (postedSites c).Nodup := List.nodup_range.filter _

theorem postingOrder_nodup (c : Settings) (first : Nat) : (postingOrder c first).Nodup := by
  unfold postingOrder
  split
  · exact List.nodup_cons.mpr ⟨fun h => ((postedSites_nodup c).mem_erase_iff.mp h).1 rfl, (postedSites_nodup c).erase first⟩
  · exact postedSites_nodup c

theorem mem_postingOrder_iff (c : Settings) (first : Nat) {j : Nat} : j ∈ postingOrder c first ↔ j ∈ postedSites c := by
  refine ⟨mem_postingOrder c first, fun hj => ?_⟩
  unfold postingOrder
  split
  · by_cases h : j = first
    · rw [h]
      exact List.mem_cons_self
    · exact List.mem_cons_of_mem _ ((List.mem_erase_of_ne h).mpr hj)
  · exact hj

/-- R72: a site named first is posted first where it is among them. -/
theorem postingOrder_head {c : Settings} {first b : Nat} {rest : List Nat} (h : postingOrder c first = b :: rest)
    (hfirst : first ∈ postedSites c) : b = first := by
  unfold postingOrder at h
  rw [if_pos hfirst] at h
  exact (List.cons.inj h).1.symm

/-! ## Posting to a busy converter (R70) -/

/-- What the postings of `l` to a busy converter leave: each waits, or merges into the request that waits and is counted. -/
structure Scanner.Posted (l : List Nat) (z y : Scanner) : Prop where
  chains : y.chains = z.chains
  converter : y.converter = z.converter
  input : y.input = z.input
  accumulator : y.accumulator = z.accumulator
  overruns : y.overruns = z.overruns
  late : y.late = z.late
  ladders : ∀ j w, z.ladders[j]? = some w → ∃ u, y.ladders[j]? = some u ∧ (u = true ↔ w = true ∨ j ∈ l)
  length : y.ladders.length = z.ladders.length
  merges : y.ladderMerges = min 65535 (z.ladderMerges + (l.filter fun j => z.ladders.getD j false).length)

theorem getD_set_ladder {l : List Bool} {i j : Nat} (h : j ≠ i) : (l.set i true).getD j false = l.getD j false := by
  rw [List.getD_eq_getElem?_getD, List.getElem?_set_ne (Ne.symm h), List.getD_eq_getElem?_getD]

theorem foldl_post_posted (c : Settings) (l : List Nat) (hbusy : z.converter ≠ .idle) (hmerges : z.ladderMerges ≤ 65535)
    (hnodup : l.Nodup) : z.Posted l (l.foldl (Scanner.post c) z) := by
  induction l generalizing z with
  | nil => exact ⟨rfl, rfl, rfl, rfl, rfl, rfl, fun j w h => ⟨w, h, by simp⟩, rfl, by simpa using hmerges⟩
  | cons i l ih =>
    obtain ⟨hi, hnodup⟩ := List.nodup_cons.mp hnodup
    rw [List.foldl_cons]
    obtain ⟨hwaits, h⟩ | ⟨hwaits, ⟨hidle, -⟩ | ⟨-, h⟩⟩ := post_cases c z i
    · rw [h, satAdd_eq_min]
      obtain ⟨hchains, hconverter, hinput, haccumulator, hoverruns, hlate, hladders, hlength, hcount⟩ :=
        ih (z := { z with ladderMerges := min 65535 (z.ladderMerges + 1) }) hbusy (by simp) hnodup
      refine ⟨hchains, hconverter, hinput, haccumulator, hoverruns, hlate, fun j w hw => ?_, hlength, ?_⟩
      · obtain ⟨u, hu, hiff⟩ := hladders j w hw
        refine ⟨u, hu, hiff.trans ?_⟩
        rw [List.mem_cons]
        refine ⟨fun h => h.imp_right .inr, fun h => ?_⟩
        obtain h | rfl | h := h
        · exact .inl h
        · rw [List.getD_eq_getElem?_getD, hw] at hwaits
          exact .inl hwaits
        · exact .inr h
      · rw [hcount, List.filter_cons_of_pos (p := fun j => z.ladders.getD j false) hwaits, List.length_cons]
        show min 65535 (min 65535 (z.ladderMerges + 1) + (l.filter fun j => z.ladders.getD j false).length) = _
        omega
    · exact absurd hidle hbusy
    · rw [h]
      obtain ⟨hchains, hconverter, hinput, haccumulator, hoverruns, hlate, hladders, hlength, hcount⟩ :=
        ih (z := { z with ladders := z.ladders.set i true }) hbusy hmerges hnodup
      refine ⟨hchains, hconverter, hinput, haccumulator, hoverruns, hlate, fun j w hw => ?_, hlength.trans (List.length_set ..), ?_⟩
      · obtain ⟨hj, -⟩ := List.getElem?_eq_some_iff.mp hw
        by_cases hji : j = i
        · obtain ⟨u, hu, hiff⟩ := hladders j true (by rw [hji, List.getElem?_set_self (by rwa [← hji])])
          exact ⟨u, hu, hiff.trans (by simp [hji])⟩
        · obtain ⟨u, hu, hiff⟩ := hladders j w (by rwa [List.getElem?_set_ne (Ne.symm hji)])
          exact ⟨u, hu, hiff.trans (by simp [hji])⟩
      · have hsame : (l.filter fun j => (z.ladders.set i true).getD j false) = l.filter fun j => z.ladders.getD j false :=
          List.filter_congr fun j hj => getD_set_ladder fun h => hi (h ▸ hj)
        rw [hcount, hsame, List.filter_cons_of_neg (p := fun j => z.ladders.getD j false) (Bool.eq_false_iff.mp hwaits)]

/-! ## Posting to an idle converter (R72) -/

/-- What the postings leave of an idle converter at which no ladder waits: the first of them goes into service. -/
theorem foldl_post_idle (c : Settings) {b ladder : Nat} {rest : List Nat} (hidle : z.converter = .idle) (hfree : ∀ w ∈ z.ladders, w = false)
    (hmerges : z.ladderMerges ≤ 65535) (hnodup : (b :: rest).Nodup) (hladder : (siteConst c b).ladder = some ladder) :
    Scanner.Posted rest { z with converter := .ladder b 0 0, input := 32 + ladder } ((b :: rest).foldl (Scanner.post c) z) := by
  have hgetD (j : Nat) : z.ladders.getD j false = false := by
    rw [List.getD_eq_getElem?_getD]
    cases h : z.ladders[j]? with
    | none => rfl
    | some w => exact hfree w (List.mem_of_getElem? h)
  have hset : (z.ladders.set b true).set b false = z.ladders := by
    rw [List.set_set]
    refine List.ext_getElem? fun j => ?_
    by_cases hj : b = j
    · subst hj
      by_cases hlt : b < z.ladders.length
      · rw [List.getElem?_set_self hlt, List.getElem?_eq_getElem hlt, hfree _ (List.getElem_mem hlt)]
      · rw [List.getElem?_eq_none (by simpa using hlt), List.getElem?_eq_none (by simpa using hlt)]
    · rw [List.getElem?_set_ne hj]
  have hfirst : z.post c b = { z with converter := .ladder b 0 0, input := 32 + ladder } := by
    obtain ⟨hwaits, -⟩ | ⟨-, ⟨-, h⟩ | ⟨hbusy, -⟩⟩ := post_cases c z b
    · rw [hgetD] at hwaits
      exact absurd hwaits Bool.false_ne_true
    · rw [h, beginLadder_of_ladder c _ hladder, hset]
    · exact absurd hidle hbusy
  rw [List.foldl_cons, hfirst]
  exact foldl_post_posted c rest (z := { z with converter := .ladder b 0 0, input := 32 + ladder }) Converter.noConfusion hmerges
    (List.nodup_cons.mp hnodup).2

/-- R70, R72: postings leave the chains that wait, the accumulator and the counts of the scan points. -/
theorem foldl_post_keeps (c : Settings) (l : List Nat) (z : Scanner) :
    (l.foldl (Scanner.post c) z).chains = z.chains ∧ (l.foldl (Scanner.post c) z).accumulator = z.accumulator
      ∧ (l.foldl (Scanner.post c) z).overruns = z.overruns ∧ (l.foldl (Scanner.post c) z).late = z.late := by
  induction l generalizing z with
  | nil => exact ⟨rfl, rfl, rfl, rfl⟩
  | cons i l ih =>
    have hone : (z.post c i).chains = z.chains ∧ (z.post c i).accumulator = z.accumulator
        ∧ (z.post c i).overruns = z.overruns ∧ (z.post c i).late = z.late := by
      obtain ⟨-, h⟩ | ⟨-, ⟨-, h⟩ | ⟨-, h⟩⟩ := post_cases c z i <;> rw [h] <;> exact ⟨rfl, rfl, rfl, rfl⟩
    obtain ⟨hchains, haccumulator, hoverruns, hlate⟩ := ih (z.post c i)
    exact ⟨hchains.trans hone.1, haccumulator.trans hone.2.1, hoverruns.trans hone.2.2.1, hlate.trans hone.2.2.2⟩

/-- R76: what the scanner's mark carries. -/
theorem mark_chains_eq (z : Scanner) : z.mark.chains = z.chains.map fun
    | .none => .none
    | .pending carried atMark => .pending (carried || !atMark) false := by
  rw [Scanner.mark_chains]
  refine List.map_congr_left fun x _ => ?_
  cases x <;> rfl

/-- Settles O29: a firing by what waits and what is served; a mark by the postings in their order. -/
theorem aFiringAsksForItsChain : Obligations.AFiringAsksForItsChain := by
  refine ⟨fun k f head s hrunning hk hpoint => ?_, ?_⟩
  · refine ⟨_, execScanPointFire_of_fires hrunning hpoint, ?_⟩
    have hat : pointAt s.settings k = { fraction := some f, head := some head } := by
      rw [pointAt, List.getD_eq_getElem?_getD, hpoint, Option.getD_some]
    unfold State.firePoint
    obtain ⟨hserved, h⟩ | ⟨hwaits, hserves, h⟩ := fire_cases s.settings k (s.firesAtMark k) s.scanner
    · rw [if_pos hserved.symm, h]
      exact ⟨rfl, fun j n hn => getElem?_modify_satAdd 65535 k hn⟩
    · have hno : ¬ (s.scanner.serves k = true ∨ (s.scanner.request k).waits = true) := by simp [hwaits, hserves]
      rw [if_neg hno]
      obtain ⟨hidle, h⟩ | ⟨hbusy, h⟩ := h
      · rw [if_pos hidle, h, beginChain_of_pending s.settings _ (carried := false) (List.getElem?_set_self hk) (by rw [hat])]
        dsimp only
        rw [List.set_set, if_neg Bool.false_ne_true]
      · rw [if_neg hbusy, h, State.firesAtMark, hat]
        congr 6
        simp
  · intro first site s hrunning hsized hmerges posted
    obtain ⟨⟨-, hscanner, -⟩, -⟩ := compose_keeps .mark (s.handleMark first site)
    refine ⟨_, execCycleMark_of_running first site hrunning, ?_⟩
    have hposted (j : Nat) : j ∈ postingOrder s.settings site ↔ posted j := (mem_postingOrder_iff s.settings site).trans mem_postedSites
    have hnodup := postingOrder_nodup s.settings site
    rw [hscanner, handleMark_scanner, Scanner.postAll]
    obtain ⟨hchains, haccumulator, hoverruns, hlate⟩ := foldl_post_keeps s.settings (postingOrder s.settings site) s.scanner.mark
    refine ⟨hchains.trans (mark_chains_eq s.scanner), haccumulator, hoverruns, hlate, fun hbusy => ?_, fun hidle hfree => ?_⟩
    · obtain ⟨-, hconverter, hinput, -, -, -, hladders, -, hcount⟩ :=
        foldl_post_posted s.settings (postingOrder s.settings site) (z := s.scanner.mark) hbusy hmerges hnodup
      refine ⟨hconverter, hinput, fun j w hw => ?_, _, hnodup.filter _, fun j => ?_, hcount⟩
      · obtain ⟨u, hu, hiff⟩ := hladders j w hw
        exact ⟨u, hu, hiff.trans (or_congr_right (hposted j))⟩
      · rw [List.mem_filter, hposted]
        refine and_congr_right fun _ => ?_
        show s.scanner.ladders.getD j false = true ↔ _
        rw [List.getD_eq_getElem?_getD]
        cases s.scanner.ladders[j]? with
        | none => simp
        | some w => simp
    · cases horder : postingOrder s.settings site with
      | nil =>
        have hno (j : Nat) : ¬ posted j := fun h => by simpa [horder] using (hposted j).mpr h
        exact ⟨rfl, fun _ => ⟨hidle, rfl, rfl⟩, fun ⟨j, h⟩ => absurd h (hno j)⟩
      | cons b rest =>
        rw [horder] at hnodup
        have hb : posted b := (hposted b).mp (horder ▸ List.mem_cons_self)
        obtain ⟨c, hc, hused, hsome⟩ := hb
        obtain ⟨ladder, hladder⟩ := Option.isSome_iff_exists.mp hsome
        have hsite : (siteConst s.settings b).ladder = some ladder := by
          rw [siteConst, List.getD_eq_getElem?_getD, hc]
          exact hladder
        obtain ⟨-, hconverter, hinput, -, -, -, hladders, hlength, hcount⟩ :=
          foldl_post_idle s.settings (z := s.scanner.mark) hidle hfree hmerges hnodup hsite
        have hcount' : ((b :: rest).foldl (Scanner.post s.settings) s.scanner.mark).ladderMerges = s.scanner.ladderMerges := by
          have hnone : (rest.filter fun j => s.scanner.ladders.getD j false) = [] := List.filter_eq_nil_iff.mpr fun j _ => by
            rw [List.getD_eq_getElem?_getD]
            cases h : s.scanner.ladders[j]? with
            | none => simp
            | some w => simp [hfree w (List.mem_of_getElem? h)]
          rw [hcount]
          show min 65535 (s.scanner.ladderMerges + (rest.filter fun j => s.scanner.ladders.getD j false).length) = _
          rw [hnone]
          exact min_eq_right hmerges
        refine ⟨hcount', fun h => absurd ⟨c, hc, hused, hsome⟩ (h b), fun _ => ⟨b, ladder, ⟨c, hc, hused, hsome⟩, fun h => ?_, hsite,
          hconverter, hinput, fun j w hw => ?_⟩⟩
        · exact postingOrder_head horder (mem_postedSites.mpr h)
        · obtain ⟨hj, -⟩ := List.getElem?_eq_some_iff.mp hw
          have hj' : j < s.scanner.ladders.length := hlength ▸ hj
          obtain ⟨u, hu, hiff⟩ := hladders j _ (List.getElem?_eq_getElem hj')
          rw [hu] at hw
          cases hw
          have hfree' : s.scanner.mark.ladders[j] = false := hfree _ (List.getElem_mem hj')
          rw [hiff, ← hposted, horder, List.mem_cons]
          constructor
          · rintro (h | h)
            · exact absurd (hfree'.symm.trans h) Bool.false_ne_true
            · exact ⟨.inr h, fun hjb => (List.nodup_cons.mp hnodup).1 (hjb ▸ h)⟩
          · rintro ⟨h, hne⟩
            exact .inr (h.resolve_left hne)

end Sys2Proof.Machine
end

section
/-! O30: the result of a scan record at its channel, and of a ladder read at its site. -/

namespace Sys2Proof.Machine

variable {s t : State}

theorem recordAt_of_some {c : Settings} {n : Nat} {record : ScanRecord} (h : c.scans[n]? = some record) : recordAt c n = record := by
  rw [recordAt, List.getD_eq_getElem?_getD, h, Option.getD_some]

/-! ## The average -/

/-- R74, R77: the average of the samples that the accumulator holds and of the codes. -/
theorem average_eq (codes : List Half) (z : Scanner) {n : Nat} (h : z.converter.sample + codes.length = n) :
    z.average codes = Int.tdiv (z.accumulator + (codes.map fun x => x.toInt).sum) n := by
  rw [Scanner.average, accumulate_eq, h]
  rfl

/-! ## The channel (R83, R84) -/

/-- R84: whether a strain saturates at ±32767. -/
theorem clamp_eq_self_iff (lo hi x : Int) : clamp lo hi x = x ↔ lo ≤ x ∧ x ≤ hi := by
  unfold clamp
  omega

theorem credit_eq (raw : Int) (r : Channel) : r.credit raw =
    { r with
      lastStrain := max (-32767) (min 32767 raw)
      overRange := if -32767 ≤ raw ∧ raw ≤ 32767 then r.overRange else min 65535 (r.overRange + 1)
      cycleMax := if r.samples = 0 then max (-32767) (min 32767 raw) else max r.cycleMax (max (-32767) (min 32767 raw))
      cycleMin := if r.samples = 0 then max (-32767) (min 32767 raw) else min r.cycleMin (max (-32767) (min 32767 raw))
      samples := min 65535 (r.samples + 1) } := by
  have hover : (if clamp (-32767) 32767 raw = raw then r.overRange else satAdd 65535 r.overRange 1)
      = if -32767 ≤ raw ∧ raw ≤ 32767 then r.overRange else min 65535 (r.overRange + 1) := by
    rw [satAdd_eq_min]
    exact if_congr (clamp_eq_self_iff ..) rfl rfl
  have hmax (e : Int) : (if r.samples = 0 ∨ r.cycleMax < e then e else r.cycleMax) = if r.samples = 0 then e else max r.cycleMax e := by
    by_cases h : r.samples = 0
    · rw [if_pos (.inl h), if_pos h]
    · simp only [h, false_or, if_false]
      omega
  have hmin (e : Int) : (if r.samples = 0 ∨ e < r.cycleMin then e else r.cycleMin) = if r.samples = 0 then e else min r.cycleMin e := by
    by_cases h : r.samples = 0
    · rw [if_pos (.inl h), if_pos h]
    · simp only [h, false_or, if_false]
      omega
  unfold Channel.credit
  dsimp only
  rw [hover, hmax, hmin, satAdd_eq_min, clamp_eq_max_min (by decide)]

theorem take_channel_self {consts : List ChannelConst} {n : Nat} {c : ChannelConst} {q : Recorder} {r : Channel}
    (hc : consts[n]? = some c) (hr : q.channels[n]? = some r) (code : Int) :
    (q.take consts n code).channels[n]? = some (if c.enabled then r.credit (strainOf c code) else r) := by
  unfold Recorder.take
  rw [List.getD_eq_getElem?_getD, hc, Option.getD_some]
  dsimp only
  split
  · rw [List.getElem?_modify_eq, hr]
    rfl
  · exact hr

theorem take_channel_other {consts : List ChannelConst} {n j : Nat} (q : Recorder) (code : Int) (hj : j ≠ n) :
    (q.take consts n code).channels[j]? = q.channels[j]? := by
  unfold Recorder.take
  dsimp only
  split
  · exact List.getElem?_modify_ne _ _ (Ne.symm hj)
  · rfl

theorem take_eq (consts : List ChannelConst) (n : Nat) (code : Int) (q : Recorder) :
    q.take consts n code = { q with channels := (q.take consts n code).channels } := by
  unfold Recorder.take
  dsimp only
  split <;> rfl

/-! ## A completion -/

theorem takeCodes_of_last {n : Nat} {codes : List Half} {ended : State → State}
    (h : s.scanner.converter.sample + codes.length = n) : s.takeCodes n codes ended = ended s := if_pos h

/-- R65: codes that do not end their record or read are added to the accumulator. -/
theorem takeCodes_of_fewer {n : Nat} {codes : List Half} {ended : State → State} (hcodes : codes ≠ [])
    (h : s.scanner.converter.sample + codes.length < n) : s.takeCodes n codes ended =
      { s with scanner := { s.scanner with accumulator := s.scanner.accumulator + (codes.map fun x => x.toInt).sum,
                                           converter := s.scanner.converter.complete codes.length } } := by
  rw [State.takeCodes, if_neg (Nat.ne_of_lt h), if_pos ⟨hcodes, h⟩, Scanner.takeSamples, accumulate_eq]

/-- More codes than a record or read takes, or none, do nothing (assumption 10). -/
theorem takeCodes_of_unfit {n : Nat} {codes : List Half} {ended : State → State}
    (h : n < s.scanner.converter.sample + codes.length ∨ (codes = [] ∧ s.scanner.converter.sample < n)) :
    s.takeCodes n codes ended = s := by
  have hends : ¬ s.scanner.converter.sample + codes.length = n := by
    rintro rfl
    obtain h | ⟨rfl, h⟩ := h
    · exact Nat.lt_irrefl _ h
    · simp at h
  have hfewer : ¬ (codes ≠ [] ∧ s.scanner.converter.sample + codes.length < n) := by
    rintro ⟨hcodes, hlt⟩
    obtain h | ⟨hnil, -⟩ := h
    · omega
    · exact hcodes hnil
  rw [State.takeCodes, if_neg hends, if_neg hfewer]

theorem execRecordComplete_eq {k n sample us : Nat} {carried : Bool} {record : ScanRecord} (codes : List Half)
    (hserves : s.scanner.converter = .chain k n sample us carried) (hrecord : s.settings.scans[n]? = some record) :
    exec (.recordComplete codes) s = .next (s.takeCodes record.samples codes (State.endRecord k n carried codes)) := by
  show execRecordComplete codes s = _
  rw [execRecordComplete, hserves, ← recordAt_of_some hrecord]

theorem execLadderReadComplete_eq {site sample us : Nat} (codes : List Half) (hserves : s.scanner.converter = .ladder site sample us) :
    exec (.ladderReadComplete codes) s = .next (s.takeCodes 4 codes (State.endLadder site codes)) := by
  show execLadderReadComplete codes s = _
  rw [execLadderReadComplete, hserves]
  rfl

theorem afterRecord_of_link {c : Settings} {k n next : Nat} {carried : Bool} {record : ScanRecord} {z : Scanner}
    (hrecord : c.scans[n]? = some record) (hlink : record.link = some next) : z.afterRecord c k n carried =
      { z with accumulator := 0, converter := .chain k next 0 0 carried, input := (recordAt c next).channel } := by
  rw [Scanner.afterRecord, recordAt_of_some hrecord, hlink]

/-- Settles O30: the last code ends its record or read, whose average goes to the one channel or site; fewer codes are added. -/
theorem resultsReachTheirChannelAndSite : Obligations.ResultsReachTheirChannelAndSite := by
  refine ⟨?_, ?_, ?_⟩
  · intro codes s k n sample us carried record c r hserves hrecord hsamples hc hr average raw strain
    have hends : s.scanner.converter.sample + codes.length = record.samples := by rw [hserves, Converter.sample_chain, hsamples]
    have hlands : (recordAt s.settings n).channel = record.channel := by rw [recordAt_of_some hrecord]
    have haverage : s.scanner.average codes = average := average_eq codes s.scanner hends
    refine ⟨s.endRecord k n carried codes, if c.enabled then r.credit raw else r, ?_, ?_, ?_, ?_, ?_, ?_⟩
    · rw [execRecordComplete_eq codes hserves hrecord, takeCodes_of_last hends]
    · show (s.recorder.take s.settings.channels (recordAt s.settings n).channel (s.scanner.average codes)).channels[record.channel]? = _
      rw [hlands, haverage]
      exact take_channel_self hc hr average
    · show s.endRecord k n carried codes = _
      unfold State.endRecord
      conv_lhs => rw [take_eq]
    · intro j hj
      show (s.recorder.take s.settings.channels (recordAt s.settings n).channel (s.scanner.average codes)).channels[j]? = _
      rw [hlands]
      exact take_channel_other s.recorder _ hj
    · rw [credit_eq]
    · exact fun next hlink => afterRecord_of_link hrecord hlink
  · intro codes s site sample us hserves hsamples
    have hends : s.scanner.converter.sample + codes.length = 4 := by rw [hserves, Converter.sample_ladder, hsamples]
    refine ⟨s.endLadder site codes, ?_, rfl, List.length_modify .., fun j r hr => ?_⟩
    · rw [execLadderReadComplete_eq codes hserves, takeCodes_of_last hends]
    · show (s.cracks.sites.modify site _)[j]? = _
      rw [List.getElem?_modify, hr, average_eq codes s.scanner hends]
      by_cases h : site = j
      · simp only [h, if_true, Option.map_eq_map, Option.map_some]
        rfl
      · simp only [h, Ne.symm h, if_false, Option.map_eq_map, Option.map_some]
  · intro codes s i sample takes next hserves
    obtain ⟨k, n, us, carried, record, rfl, hserves, hrecord, rfl, rfl⟩ | ⟨site, us, rfl, hserves, rfl, rfl⟩ := hserves
    · have hsample : s.scanner.converter.sample = sample := by rw [hserves, Converter.sample_chain]
      rw [execRecordComplete_eq codes hserves hrecord, ← hsample]
      refine ⟨fun hcodes h => ?_, fun h => by rw [takeCodes_of_unfit h]⟩
      rw [takeCodes_of_fewer hcodes h, hserves]
      rfl
    · have hsample : s.scanner.converter.sample = sample := by rw [hserves, Converter.sample_ladder]
      rw [execLadderReadComplete_eq codes hserves, ← hsample]
      refine ⟨fun hcodes h => ?_, fun h => by rw [takeCodes_of_unfit h]⟩
      rw [takeCodes_of_fewer hcodes h, hserves]
      rfl

end Sys2Proof.Machine
end

section
/-! What an event of the peer view table does beside its entries: the frame mode goes down the way of requests and responses or
stands, and a PROMPT cause and the end of a soft start come with a change of it alone. -/

namespace Sys2Proof.Machine

variable {s t u : State}

/-! ## Events that report a change of the frame mode alone -/

theorem State.Withdraws.falls (h : s.Withdraws t) (hm : t.control.mode ≠ s.control.mode) :
    s.control.mode.withdrawal < t.control.mode.withdrawal := by
  obtain ⟨hsame, -⟩ | ⟨hlt, -⟩ := h.control
  · exact absurd hsame hm
  · exact hlt

theorem State.Withdraws.rises_not (h : s.Withdraws t) : s.control.mode.withdrawal ≤ t.control.mode.withdrawal := by
  by_cases hm : t.control.mode = s.control.mode
  · rw [hm]
  · exact Nat.le_of_lt (h.falls hm)

/-- An event of the peer view table: beside what `Withdraws` says, a PROMPT cause comes with a change of the frame mode alone
(R156), such a change ends a soft start (R45), and the records of the other blocks stand. -/
structure State.Heeds (s t : State) : Prop extends s.Withdraws t where
  clock : t.clock = s.clock
  scanner : t.scanner = s.scanner
  recorder : t.recorder = s.recorder
  cracks : t.cracks = s.cracks
  startUp : t.startUp = s.startUp
  quiet : t.control.mode = s.control.mode → t.line = s.line
  caused : t.control.mode ≠ s.control.mode → t.line.prompt = true
  softStep : t.seq.softStep = if t.control.mode = s.control.mode then s.seq.softStep else none

/-- A change of the peer view table alone. -/
theorem State.Heeds.of_peers (p : PeerTable) (s : State) : s.Heeds { s with peers := p } :=
  ⟨⟨rfl, rfl, rfl, .inl ⟨rfl, rfl, rfl⟩⟩, rfl, rfl, rfl, rfl, rfl, fun _ => rfl, fun h => absurd rfl h, (if_pos rfl).symm⟩

theorem State.Heeds.refl (s : State) : s.Heeds s := .of_peers s.peers s

theorem State.Heeds.trans (h : s.Heeds t) (k : t.Heeds u) : s.Heeds u := by
  refine ⟨h.toWithdraws.trans k.toWithdraws, k.clock.trans h.clock, k.scanner.trans h.scanner, k.recorder.trans h.recorder,
    k.cracks.trans h.cracks, k.startUp.trans h.startUp, ?_, ?_, ?_⟩
  · intro hm
    by_cases ht : t.control.mode = s.control.mode
    · rw [k.quiet (hm.trans ht.symm), h.quiet ht]
    · have hfall := h.falls ht
      have hrest := k.rises_not
      rw [hm] at hrest
      omega
  · intro hm
    by_cases hu : u.control.mode = t.control.mode
    · rw [k.quiet hu]
      exact h.caused (hu ▸ hm)
    · exact k.caused hu
  · by_cases ht : t.control.mode = s.control.mode
    · rw [k.softStep, h.softStep, ht, if_pos rfl]
    · have hu : u.control.mode ≠ s.control.mode := fun hm => by
        have hfall := h.falls ht
        have hrest := k.rises_not
        rw [hm] at hrest
        omega
      rw [k.softStep, h.softStep, if_neg ht, if_neg hu, ite_self]

/-- A change of the frame mode down the way, to a mode that ends a soft start. -/
theorem enterMode_heeds {m : Mode} (h : s.control.mode.withdrawal < m.withdrawal) : s.Heeds (s.enterMode m) := by
  have hne : m ≠ s.control.mode := fun hm => by rw [hm] at h; omega
  refine ⟨(enterMode_withdraws h).toWithdraws, rfl, rfl, rfl, rfl, rfl, fun hm => absurd hm hne, fun _ => rfl, ?_⟩
  rw [if_neg (show (s.enterMode m).control.mode ≠ _ from hne)]
  cases m <;> first | rfl | exact absurd h (Nat.not_lt_zero _)

theorem enterTrip_heeds (code : TripCode) (h : s.control.mode.withdrawal < 3) : s.Heeds (s.enterTrip code) := by
  have hne : Mode.tripped ≠ s.control.mode := fun hm => by rw [← hm] at h; exact absurd h (by decide)
  exact ⟨(enterTrip_withdraws code h).toWithdraws, rfl, rfl, rfl, rfl, rfl, fun hm => absurd hm hne, fun _ => rfl,
    (if_neg (show (s.enterTrip code).control.mode ≠ _ from hne)).symm⟩

theorem changeMode_heeds {m : Mode} (h : s.control.mode.withdrawal < m.withdrawal) : s.Heeds (s.changeMode m) := by
  obtain h' | ⟨-, hm, h'⟩ := changeMode_cases m s <;> rw [h']
  · exact enterMode_heeds h
  · exact (enterMode_heeds h).trans (enterTrip_heeds _ (Mode.withdrawal_lt_of_watchesCutoff hm))

theorem respond_heeds (a : Policy) (s : State) : s.Heeds (s.respond a) := by
  obtain h | ⟨-, hm, h⟩ | ⟨-, hm, h⟩ := respond_cases a s <;> rw [h]
  · exact .refl s
  · exact changeMode_heeds (by obtain hm | hm := hm <;> rw [hm] <;> decide)
  · exact changeMode_heeds (by obtain hm | hm | hm := hm <;> rw [hm] <;> decide)

theorem putAlarm_heeds (g : Nat) (s : State) : s.Heeds (s.putAlarm g) :=
  ⟨⟨rfl, rfl, rfl, .inl ⟨rfl, rfl, rfl⟩⟩, rfl, rfl, rfl, rfl, rfl, fun _ => rfl, fun h => absurd rfl h, (if_pos rfl).symm⟩

theorem riseResponse_heeds (g : Nat) (s : State) : s.Heeds (s.riseResponse g) := by
  obtain h | ⟨-, -, h⟩ := riseResponse_cases g s <;> rw [h]
  · exact .refl s
  · exact respond_heeds _ s

theorem formAlarm_heeds (s : State) : s.Heeds s.formAlarm := by
  obtain ⟨-, h⟩ | ⟨-, h⟩ | ⟨-, h⟩ := formAlarm_cases s <;> rw [h]
  · exact .refl s
  · exact putAlarm_heeds _ s
  · exact (putAlarm_heeds _ s).trans (riseResponse_heeds _ _)

theorem holdRequest_heeds (s : State) : s.Heeds s.holdRequest := by
  obtain ⟨hm, h⟩ | ⟨-, h⟩ := holdRequest_cases s <;> rw [h]
  · exact changeMode_heeds (by rw [hm]; decide)
  · exact .refl s

/-- A start away from a mark begins no soft start (R44). -/
theorem start_softStep (tab : List Segment) (m : Mode) (q : Sequencer) : (q.start tab false m).softStep = q.softStep := by
  unfold Sequencer.start
  split <;> rfl

theorem passOn_softStep (tab : List Segment) (m : Mode) (q : Sequencer) : (q.passOn tab false m).1.softStep = q.softStep := by
  obtain ⟨-, h⟩ | ⟨k, -, -, h⟩ | ⟨k, -, -, h⟩ := passOn_cases tab false m q <;> rw [h]
  · rfl
  · exact start_softStep tab m _

theorem withSequencer_heeds {r : Sequencer × Bool} (s : State) (h : r.1.softStep = s.seq.softStep) : s.Heeds (s.withSequencer r) := by
  have hseq : s.Heeds { s with seq := r.1 } :=
    ⟨⟨rfl, rfl, rfl, .inl ⟨rfl, rfl, rfl⟩⟩, rfl, rfl, rfl, rfl, rfl, fun _ => rfl, fun h => absurd rfl h, h.trans (if_pos rfl).symm⟩
  unfold State.withSequencer
  split
  · exact hseq.trans (holdRequest_heeds _)
  · exact hseq

theorem examineBarrier_heeds (s : State) : s.Heeds s.examineBarrier := by
  obtain h | ⟨-, -, h⟩ := examineBarrier_cases s <;> rw [h]
  · exact .refl s
  · exact withSequencer_heeds s (passOn_softStep ..)

theorem captureOffset_heeds (n : Nat) (v : BeatView) (s : State) : s.Heeds (s.captureOffset n v) := by
  obtain ⟨-, h⟩ | ⟨-, h⟩ := captureOffset_cases n v s <;> rw [h]
  · exact .refl s
  · exact .of_peers _ s

theorem arrival_heeds (n : Nat) (m : Mode) (v : BeatView) (s : State) : s.Heeds (s.arrival n m v) := by
  have htaken : s.Heeds (s.takeBeat n m v) := .of_peers _ s
  have hformed := (htaken.trans (captureOffset_heeds n v _)).trans (formAlarm_heeds _)
  unfold State.arrival
  dsimp only
  split
  · exact (hformed.trans (respond_heeds _ _)).trans (examineBarrier_heeds _)
  · exact hformed.trans (examineBarrier_heeds _)

theorem expired_heeds (n : Nat) (p : PeerState) (s : State) : s.Heeds (s.expire n p).formAlarm :=
  State.Heeds.trans (.of_peers _ s) (formAlarm_heeds (s.expire n p))

theorem losePeer_heeds (n : Nat) (s : State) : s.Heeds (s.losePeer n) := by
  have hformed := expired_heeds n .lost s
  unfold State.losePeer
  dsimp only
  split
  · exact (hformed.trans (respond_heeds _ _)).trans (examineBarrier_heeds _)
  · exact hformed.trans (examineBarrier_heeds _)

/-! ## The end of such an event -/

/-- R156: a change of the frame mode is reported, and nothing is where it stands. -/
theorem State.Heeds.promptsOnChange (h : s.Heeds t) : s.PromptsOnChange t.settle := by
  obtain ⟨-, hcontrol, -⟩ := settle_keeps t
  unfold State.PromptsOnChange
  rw [hcontrol]
  refine ⟨fun hm => ?_, fun hm hspent => ?_⟩
  · have hline := h.line
    rw [h.caused hm] at hline
    rw [State.Reports, ← h.clamp]
    exact settle_reportsWith hline
  · rw [settle_of_spent (by rw [h.quiet hm]; exact hspent), h.quiet hm]

theorem State.Heeds.timer (h : s.Heeds t) : s.TimerFollows t.settle := by
  obtain ⟨-, hcontrol, -⟩ := settle_keeps t
  have hfollows := h.timerFollows
  unfold State.TimerFollows at *
  rwa [hcontrol]

theorem State.Heeds.softStart (h : s.Heeds t) : s.SoftStartFollows t.settle := by
  obtain ⟨-, hcontrol, hseq, -⟩ := settle_keeps t
  unfold State.SoftStartFollows
  rw [hcontrol, hseq, h.softStep]
  by_cases hm : t.control.mode = s.control.mode
  · rw [if_pos hm, if_pos (.inl hm)]
  · have hfall := h.falls hm
    rw [if_neg hm, if_neg]
    rintro (h | h | h)
    · exact hm h
    all_goals rw [h] at hfall; exact absurd hfall (Nat.not_lt_zero _)

/-! ## Responses while no change of mode trips (R24) -/

theorem respond_mode_of_untripped (a : Policy) (hs : s.Untripped) : (s.respond a).control.mode = s.control.mode.answered a := by
  obtain hopen | hrest := hs
  · exact respond_mode a hopen
  · unfold State.respond Mode.answered
    cases a <;> cases hm : s.control.mode <;> rw [hm] at hrest <;> first | exact hm | exact Bool.noConfusion hrest

theorem changeMode_servo_accept {m : Mode} (hs : s.Untripped) (he : s.control.mode.engaged = true) (hm : m.engaged = true) :
    (s.changeMode m).servo = s.servo ∧ (s.changeMode m).control.accept = s.control.accept := by
  rw [changeMode_of_engaged m hs he]
  exact ⟨Servo.enter_of_engaged hm s.servo, rfl⟩

theorem respond_servo_accept (a : Policy) (hs : s.Untripped) :
    (s.respond a).servo = s.servo ∧ (s.respond a).control.accept = s.control.accept := by
  obtain h | ⟨-, hm, h⟩ | ⟨-, hm, h⟩ := respond_cases a s <;> rw [h]
  · exact ⟨rfl, rfl⟩
  · exact changeMode_servo_accept hs (by obtain hm | hm := hm <;> rw [hm] <;> rfl) rfl
  · exact changeMode_servo_accept hs (by obtain hm | hm | hm := hm <;> rw [hm] <;> rfl) rfl

theorem riseResponse_servo_accept (g : Nat) (hs : s.Untripped) :
    (s.riseResponse g).servo = s.servo ∧ (s.riseResponse g).control.accept = s.control.accept := by
  obtain h | ⟨-, -, h⟩ := riseResponse_cases g s <;> rw [h]
  · exact ⟨rfl, rfl⟩
  · exact respond_servo_accept _ hs

theorem formAlarm_servo_accept (hs : s.Untripped) : s.formAlarm.servo = s.servo ∧ s.formAlarm.control.accept = s.control.accept := by
  obtain ⟨-, h⟩ | ⟨-, h⟩ | ⟨-, h⟩ := formAlarm_cases s <;> rw [h]
  · exact ⟨rfl, rfl⟩
  · exact ⟨rfl, rfl⟩
  · exact riseResponse_servo_accept (s := s.putAlarm _) _ hs

end Sys2Proof.Machine
end

section
/-! O33: what an arrival leaves of the node. -/

namespace Sys2Proof.Machine

variable {s t u : State}

theorem Mode.code_of_ofCode {n : Nat} {m : Mode} (h : Mode.ofCode n = some m) : m.code = n := by
  unfold Mode.ofCode at h
  split at h <;> cases h <;> rfl

theorem ofCode_eq_none {n : Nat} (h : n = 0 ∨ 9 ≤ n) : Mode.ofCode n = none := by
  unfold Mode.ofCode
  split <;> first | omega | rfl

theorem bitOf_eq_testBit (n i : Nat) : bitOf n i = n.testBit i := by
  rw [Nat.testBit_eq_decide_div_mod_eq]
  rfl

theorem readBeat_flags (body : List Byte) : (readBeat body).flags =
    { sensorFault := (byteAt body 3).testBit 0, damageWatch := (byteAt body 3).testBit 1, clamped := (byteAt body 3).testBit 2,
      barrierWait := (byteAt body 3).testBit 3, complete := (byteAt body 3).testBit 4, peerLost := (byteAt body 3).testBit 5,
      released := (byteAt body 3).testBit 6 } := by
  show BeatFlags.ofByte (byteAt body 3) = _
  simp only [BeatFlags.ofByte, bitOf_eq_testBit]

/-- R114: a BEAT that is let through is an arrival of the mode that its code names. -/
theorem execBeatArrival_taken {source : Byte} {body : List Byte} (hline : s.line.line = .active ∨ s.line.line = .listenOnly)
    (hready : s.line.assembler = .ready) (hsource : 1 ≤ source.toNat) (hsource' : source.toNat ≤ 16)
    (hother : source.toNat ≠ s.startUp.station) (hcode : 1 ≤ byteAt body 1) (hcode' : byteAt body 1 ≤ 8) (hgroup : byteAt body 0 ≤ 4) :
    ∃ m, m.code = byteAt body 1 ∧ exec (.beatArrival source body) s = .next (s.arrival source.toNat m (readBeat body)).settle := by
  obtain ⟨m, hm⟩ := Mode.ofCode_isSome hcode hcode'
  have hnames : Mode.ofCode (readBeat body).modeCode = some m := hm
  have hin : (readBeat body).group ≤ 4 := hgroup
  have hreceive : s.receiveBeat source.toNat body = s.arrival source.toNat m (readBeat body) := by
    simp [State.receiveBeat, hother, hnames, hin, frameStation, hsource, hsource']
  refine ⟨m, Mode.code_of_ofCode hm, ?_⟩
  show execBeatArrival source body s = _
  rw [execBeatArrival, arrive_of_ready _ _ hline hready, hreceive]

/-- The state with the BEAT taken into its entry and its offset captured, from which G is formed. -/
def State.heard (n : Nat) (m : Mode) (v : BeatView) (s : State) : State := (s.takeBeat n m v).captureOffset n v

theorem heard_eq (n : Nat) (m : Mode) (v : BeatView) (s : State) :
    s.heard n m v = { s with peers := { s.peers with entries := (s.heard n m v).peers.entries } } := by
  unfold State.heard
  obtain ⟨-, h⟩ | ⟨-, h⟩ := captureOffset_cases n v (s.takeBeat n m v) <;> rw [h] <;> rfl

theorem heard_entry_other {n k : Nat} (m : Mode) (v : BeatView) (hn : 1 ≤ n) (hk : 1 ≤ k) (hne : k ≠ n) :
    (s.heard n m v).peers.entry k = s.peers.entry k := by
  have htaken : (s.takeBeat n m v).peers.entry k = s.peers.entry k := entry_setEntry_other _ _ hn hk hne
  unfold State.heard
  obtain ⟨-, h⟩ | ⟨-, h⟩ := captureOffset_cases n v (s.takeBeat n m v) <;> rw [h]
  · exact htaken
  · exact (entry_setEntry_other _ _ hn hk hne).trans htaken

theorem arrival_entry_other {n k : Nat} (m : Mode) (v : BeatView) (hn : 1 ≤ n) (hk : 1 ≤ k) (hne : k ≠ n) :
    (s.arrival n m v).peers.entry k = s.peers.entry k := by
  rw [PeerTable.entry, arrival_entries]
  exact heard_entry_other m v hn hk hne

theorem heard_untripped (n : Nat) (m : Mode) (v : BeatView) (hs : s.Untripped) : (s.heard n m v).Untripped := by
  rw [heard_eq]
  exact hs

/-- An arrival where no barrier waits: a forming of G, and a response to a drop. -/
theorem arrival_of_not_barrier (n : Nat) (m : Mode) (v : BeatView) (hs : s.Untripped) (hseq : s.seq.state ≠ .barrier) :
    s.arrival n m v = (if isDrop s.settings.group (s.peers.entry n).group ((s.heard n m v).peers.entry n) then
      (s.heard n m v).formAlarm.respond s.settings.dropPolicy else (s.heard n m v).formAlarm)
      ∧ (s.heard n m v).Responds (s.arrival n m v) := by
  have hs' := heard_untripped n m v hs
  have hformed := formAlarm_responds hs'
  have hset : (s.heard n m v).formAlarm.settings = s.settings := hformed.settings.trans (by rw [heard_eq])
  have hat : (s.heard n m v).seq.state ≠ .barrier := by rw [heard_eq]; exact hseq
  have hstands (w : State) (h : (s.heard n m v).Responds w) : w.examineBarrier = w := by
    refine examineBarrier_of_not_barrier ?_
    obtain ⟨-, hw⟩ | ⟨-, hw⟩ := h.frame <;> rw [hw] <;> exact hat
  show State.examineBarrier (if isDrop s.settings.group (s.peers.entry n).group ((s.heard n m v).peers.entry n) then
    (s.heard n m v).formAlarm.respond (s.heard n m v).formAlarm.settings.dropPolicy else (s.heard n m v).formAlarm) = _
      ∧ (s.heard n m v).Responds (State.examineBarrier (if isDrop s.settings.group (s.peers.entry n).group ((s.heard n m v).peers.entry n) then
    (s.heard n m v).formAlarm.respond (s.heard n m v).formAlarm.settings.dropPolicy else (s.heard n m v).formAlarm))
  rw [hset]
  have hends : (s.heard n m v).Responds (if isDrop s.settings.group (s.peers.entry n).group ((s.heard n m v).peers.entry n) then
      (s.heard n m v).formAlarm.respond s.settings.dropPolicy else (s.heard n m v).formAlarm) := by
    split
    · exact hformed.trans (respond_responds _ (hformed.untripped hs'))
    · exact hformed
  rw [hstands _ hends]
  exact ⟨rfl, hends⟩

/-! ## BEATs that are not taken (R114) -/

theorem receiveBeat_of_refused {source : Nat} {body : List Byte} (hother : source ≠ s.startUp.station)
    (h : source = 0 ∨ 17 ≤ source ∨ byteAt body 1 = 0 ∨ 9 ≤ byteAt body 1 ∨ 5 ≤ byteAt body 0) : s.receiveBeat source body = s := by
  unfold State.receiveBeat
  rw [if_neg hother]
  cases hcode : Mode.ofCode (readBeat body).modeCode with
  | none => rfl
  | some m =>
    refine if_neg fun hin => ?_
    rw [Bool.and_eq_true, frameStation_iff, decide_eq_true_eq] at hin
    obtain ⟨⟨hlow, hhigh⟩, hgroup⟩ := hin
    have hgroup' : byteAt body 0 ≤ 4 := hgroup
    have hnone (hbad : byteAt body 1 = 0 ∨ 9 ≤ byteAt body 1) : False := by
      have hno : Mode.ofCode (readBeat body).modeCode = none := ofCode_eq_none hbad
      exact Option.some_ne_none m (hcode.symm.trans hno)
    obtain h | h | h | h | h := h
    · omega
    · omega
    · exact hnone (.inl h)
    · exact hnone (.inr h)
    · omega

/-- Settles O33: the entry is `arrival_entry`, the rest `arrival_heeds`; a BEAT outside the ranges reaches no block. -/
theorem anArrivalUpdatesItsEntry : Obligations.AnArrivalUpdatesItsEntry := by
  refine ⟨?_, ?_⟩
  · intro source body s hline hready hsource hsource' hother hcode hcode' hgroup hlen
    obtain ⟨m, hm, hexec⟩ := execBeatArrival_taken hline hready hsource hsource' hother hcode hcode' hgroup
    have hheeds := arrival_heeds source.toNat m (readBeat body) s
    obtain ⟨⟨hclock, hscanner, hrecorder, hcracks, hpeers, hstart, hsettings, -, -⟩, hcontrol, hseq, -⟩ :=
      settle_keeps (s.arrival source.toNat m (readBeat body))
    refine ⟨_, hexec, ?_, fun n h₁ h₂ hne => ?_, hclock.trans hheeds.clock, hscanner.trans hheeds.scanner, hrecorder.trans hheeds.recorder,
      hcracks.trans hheeds.cracks, hstart.trans hheeds.startUp, hsettings.trans hheeds.settings, fun hnot hs => ?_,
      hheeds.promptsOnChange, hheeds.timer, hheeds.softStart⟩
    · intro old new flags
      have hnew : new = if (s.takeBeat source.toNat m (readBeat body)).capturesOffset (old.arrive m (readBeat body)) (readBeat body) then
          (old.arrive m (readBeat body)).withOffset
            (phaseOffset s.clock.phase s.clock.applied (beatTimeUs s.line.bitUs) (readBeat body).deferral)
          else old.arrive m (readBeat body) := by
        rw [show new = (s.arrival source.toNat m (readBeat body)).peers.entry source.toNat from congrArg (PeerTable.entry · _) hpeers]
        exact arrival_entry m (readBeat body) hsource (hlen ▸ hsource')
      rw [hnew]
      split <;> exact ⟨hm, by rw [Peer.arrive, readBeat_flags, Nat.min_comm]; rfl⟩
    · rw [hpeers]
      exact arrival_entry_other m _ hsource h₁ hne
    · obtain ⟨-, hresponds⟩ := arrival_of_not_barrier source.toNat m (readBeat body) hs hnot
      rw [hseq, hresponds.seq_eq, heard_eq]
  · intro source body s hline hready hspent hother h
    show execBeatArrival source body s = _
    rw [execBeatArrival, arrive_of_ready _ _ hline hready, receiveBeat_of_refused hother h, settle_of_spent hspent]

end Sys2Proof.Machine
end

section
/-! O36: peer loss, peer drop and a rise of G, and their responses. -/

namespace Sys2Proof.Machine

variable {s t u : State}

/-! ## The forming of G (R118) -/

theorem formed_le {p : PeerTable} {own level bound : Nat} (hlevel : level ≤ bound)
    (hcounted : ∀ e ∈ p.countedPeers own, e.ownLevel ≤ bound) : p.formAlarm own level ≤ bound := by
  obtain ⟨-, -, heq | ⟨e, he, heq⟩⟩ := formAlarm_spec p own level
  · exact heq.trans_le hlevel
  · exact heq.ge.trans (hcounted e he)

theorem formAlarm_groupAlarm (s : State) : s.formAlarm.peers.groupAlarm = s.peers.formAlarm s.settings.group s.cracks.level := by
  rw [(formAlarm_keeps s).peers]

theorem formAlarm_mode_of_no_rise (h : s.peers.formAlarm s.settings.group s.cracks.level ≤ s.peers.groupAlarm) :
    s.formAlarm.control.mode = s.control.mode := by
  obtain ⟨-, h'⟩ | ⟨-, h'⟩ | ⟨hrises, -⟩ := formAlarm_cases s
  · rw [h']
  · rw [h']
    rfl
  · omega

theorem formAlarm_of_rise (h : s.peers.groupAlarm < s.peers.formAlarm s.settings.group s.cracks.level) :
    s.formAlarm = (s.putAlarm (s.peers.formAlarm s.settings.group s.cracks.level)).riseResponse
      (s.peers.formAlarm s.settings.group s.cracks.level) := by
  obtain ⟨heq, -⟩ | ⟨hfalls, -⟩ | ⟨-, h'⟩ := formAlarm_cases s
  · omega
  · omega
  · exact h'

/-- The frame mode after the answer to a rise of G to `g` (R140). -/
def State.answer (g : Nat) (s : State) : Mode :=
  if s.settings.policyFor g ≠ .note ∧ s.control.accept < g then s.control.mode.answered (s.settings.policyFor g) else s.control.mode

theorem riseResponse_mode (g : Nat) (hs : s.Untripped) : (s.riseResponse g).control.mode = s.answer g := by
  unfold State.riseResponse State.answer
  split
  · exact respond_mode_of_untripped _ hs
  · rfl

/-! ## The alarm output (R142) -/

theorem changeMode_alarmPinLaw (m : Mode) (s : State) : (s.changeMode m).AlarmPinLaw := by
  obtain h | ⟨-, -, h⟩ := changeMode_cases m s <;> rw [h]
  · exact alarmPin_iff s.peers.groupAlarm m
  · exact alarmPin_iff s.peers.groupAlarm .tripped

theorem respond_alarmPinLaw (a : Policy) (h : s.AlarmPinLaw) : (s.respond a).AlarmPinLaw := by
  obtain h' | ⟨-, -, h'⟩ | ⟨-, -, h'⟩ := respond_cases a s <;> rw [h']
  · exact h
  · exact changeMode_alarmPinLaw _ s
  · exact changeMode_alarmPinLaw _ s

theorem formAlarm_alarmPinLaw_of_rise (h : s.peers.groupAlarm < s.peers.formAlarm s.settings.group s.cracks.level) :
    s.formAlarm.AlarmPinLaw := by
  rw [formAlarm_of_rise h]
  have hput (g : Nat) : (s.putAlarm g).AlarmPinLaw := alarmPin_iff g s.control.mode
  obtain h' | ⟨-, -, h'⟩ := riseResponse_cases (s.peers.formAlarm s.settings.group s.cracks.level) (s.putAlarm _) <;> rw [h']
  · exact hput _
  · exact respond_alarmPinLaw _ (hput _)

theorem answered_eq_tripped_iff (m : Mode) (a : Policy) : m.answered a = .tripped ↔ m = .tripped := by
  cases a <;> cases m <;> decide

theorem answer_eq_tripped_iff (g : Nat) (s : State) : s.answer g = .tripped ↔ s.control.mode = .tripped := by
  unfold State.answer
  split
  · exact answered_eq_tripped_iff _ _
  · rfl

/-! ## The counted entries after an arrival or an expiry -/

theorem mem_countedPeers_setEntry {p : PeerTable} {own n : Nat} {e x : Peer} (h : x ∈ (p.setEntry n e).countedPeers own) :
    x ∈ p.countedPeers own ∨ (x = e ∧ e.counted own = true) := by
  obtain ⟨hmem, hcounted⟩ := List.mem_filter.mp h
  obtain hmem | rfl := mem_setEntry hmem
  · exact .inl (List.mem_filter.mpr ⟨hmem, hcounted⟩)
  · exact .inr ⟨rfl, hcounted⟩

theorem entry_mem_countedPeers {p : PeerTable} {own n : Nat} (hn : 1 ≤ n) (hn' : n ≤ p.entries.length)
    (h : (p.entry n).counted own = true) : p.entry n ∈ p.countedPeers own := by
  refine List.mem_filter.mpr ⟨?_, h⟩
  have hlt : n - 1 < p.entries.length := by omega
  rw [PeerTable.entry, List.getD_eq_getElem _ _ hlt]
  exact List.getElem_mem hlt

/-- R115: an entry just heard holds the BEAT, whether or not it gave a phase offset. -/
theorem heard_entry {n : Nat} (m : Mode) (v : BeatView) (hn : 1 ≤ n) (hn' : n ≤ s.peers.entries.length) :
    ∃ offset valid, (s.heard n m v).peers.entry n = { (s.peers.entry n).arrive m v with offset := offset, offsetValid := valid } := by
  have hentry := arrival_entry (s := s) m v hn hn'
  rw [PeerTable.entry, arrival_entries] at hentry
  change (s.heard n m v).peers.entry n = _ at hentry
  rw [hentry]
  split <;> exact ⟨_, _, rfl⟩

theorem mem_heard_countedPeers {n own : Nat} {m : Mode} {v : BeatView} {x : Peer} (hn : 1 ≤ n) (hn' : n ≤ s.peers.entries.length)
    (h : x ∈ (s.heard n m v).peers.countedPeers own) : x ∈ s.peers.countedPeers own ∨ x.ownLevel = v.ownLevel := by
  have htaken {y : Peer} (h : y ∈ (s.takeBeat n m v).peers.countedPeers own) : y ∈ s.peers.countedPeers own ∨ y.ownLevel = v.ownLevel := by
    obtain h | ⟨rfl, -⟩ := mem_countedPeers_setEntry h
    · exact .inl h
    · exact .inr rfl
  unfold State.heard at h
  obtain ⟨-, h'⟩ | ⟨-, h'⟩ := captureOffset_cases n v (s.takeBeat n m v) <;> rw [h'] at h
  · exact htaken h
  · obtain h | ⟨rfl, -⟩ := mem_countedPeers_setEntry h
    · exact htaken h
    · refine .inr ?_
      rw [takeBeat_entry m v hn hn']
      rfl

/-! ## Peer drop (R120) -/

theorem stopped_iff_code (m : Mode) : m.stopped = true ↔ m.code = 1 ∨ m.code = 7 ∨ m.code = 8 := by cases m <;> decide

theorem loading_iff (m : Mode) : m.loading = true ↔ m = .ascent ∨ m = .run ∨ m = .hold ∨ m = .descent := by cases m <;> decide

theorem isDrop_heard_iff {n own held : Nat} {m : Mode} {v : BeatView} (hn : 1 ≤ n) (hn' : n ≤ s.peers.entries.length) :
    isDrop own held ((s.heard n m v).peers.entry n) = true
      ↔ m.stopped = true ∧ (s.peers.entry n).state ≠ .empty ∧ (s.peers.entry n).mode.loading = true
          ∧ ((v.group = own ∧ own ≠ 0) ∨ (v.group = 0 ∧ held = own)) := by
  obtain ⟨offset, valid, hentry⟩ := heard_entry (s := s) m v hn hn'
  have hprevious (e : Peer) : (Option.any Mode.loading (if e.state = .empty then none else some e.mode)) = true
      ↔ e.state ≠ .empty ∧ e.mode.loading = true := by
    split <;> simp [*]
  rw [hentry]
  unfold isDrop Peer.arrive
  dsimp only
  rw [Bool.and_eq_true, Bool.and_eq_true, Bool.or_eq_true, hprevious]
  simp only [Bool.and_eq_true, decide_eq_true_eq, and_assoc]

end Sys2Proof.Machine
end

section
/-! O36, continued: the answers to a loss, a drop and a rise, and the rise at a mark. -/

namespace Sys2Proof.Machine

variable {s t u : State}

/-! ## Peer loss (R116, R119) -/

theorem losePeer_of_not_barrier (n : Nat) (hs : s.Untripped) (hseq : s.seq.state ≠ .barrier) :
    s.losePeer n = (if isLoss s.settings.group (s.peers.entry n) then (s.expire n .lost).formAlarm.respond s.settings.lossPolicy
      else (s.expire n .lost).formAlarm) ∧ (s.expire n .lost).Responds (s.losePeer n) := by
  have hformed : (s.expire n .lost).Responds (s.expire n .lost).formAlarm := formAlarm_responds (s := s.expire n .lost) hs
  have hends : (s.expire n .lost).Responds (if isLoss s.settings.group (s.peers.entry n) then
      (s.expire n .lost).formAlarm.respond s.settings.lossPolicy else (s.expire n .lost).formAlarm) := by
    split
    · exact hformed.trans (respond_responds _ (hformed.untripped hs))
    · exact hformed
  have hlose : s.losePeer n = State.examineBarrier (if isLoss s.settings.group (s.peers.entry n) then
      (s.expire n .lost).formAlarm.respond s.settings.lossPolicy else (s.expire n .lost).formAlarm) := by
    unfold State.losePeer
    dsimp only
    rw [hformed.settings]
    rfl
  rw [hlose, examineBarrier_of_not_barrier]
  · exact ⟨rfl, hends⟩
  · rw [hends.seq_eq]
    exact hseq

/-- R116: an entry that becomes LOST is not counted, and G does not rise. -/
theorem expired_no_rise (n : Nat) (h : s.GroupLaw) :
    (s.expire n .lost).peers.formAlarm (s.expire n .lost).settings.group (s.expire n .lost).cracks.level ≤ (s.expire n .lost).peers.groupAlarm := by
  obtain ⟨hlevel, hcounted, -⟩ := h
  refine formed_le hlevel fun x hx => ?_
  obtain hx | ⟨rfl, hlost⟩ := mem_countedPeers_setEntry hx
  · exact hcounted x hx
  · obtain ⟨hstate | hstate, -⟩ := peer_counted_iff.mp hlost <;> exact PeerState.noConfusion hstate

theorem isLoss_of_stale {e : Peer} (own : Nat) (h : e.state = .stale) :
    isLoss own e = true ↔ e.group = own ∧ own ≠ 0 ∧ e.mode.engaged = true := by
  rw [isLoss, Bool.and_eq_true, peer_counted_iff, h]
  simp [and_assoc]

theorem peerLost_of_entry {p : PeerTable} {own n : Nat} (hn : 1 ≤ n) (hn' : n ≤ p.entries.length) (hstate : (p.entry n).state = .lost)
    (hgroup : (p.entry n).group = own) (hengaged : (p.entry n).mode.engaged = true) : p.peerLost own = true := by
  have hlt : n - 1 < p.entries.length := by omega
  refine List.any_eq_true.mpr ⟨p.entry n, ?_, by simp [hstate, hgroup, hengaged]⟩
  rw [PeerTable.entry, List.getD_eq_getElem _ _ hlt]
  exact List.getElem_mem hlt

/-! ## Arrivals where no barrier waits -/

/-- R24, R118, R120: the servo and the accept level of an arrival, and the mode after its drop. -/
theorem arrival_control {n : Nat} {m : Mode} {v : BeatView} (hs : s.Untripped) (hseq : s.seq.state ≠ .barrier) :
    (s.arrival n m v).servo = s.servo ∧ (s.arrival n m v).control.accept = s.control.accept
      ∧ (s.arrival n m v).control.mode =
        if isDrop s.settings.group (s.peers.entry n).group ((s.heard n m v).peers.entry n) = true then
          (s.heard n m v).formAlarm.control.mode.answered s.settings.dropPolicy
        else (s.heard n m v).formAlarm.control.mode := by
  have hs' := heard_untripped n m v hs
  obtain ⟨hservo, haccept⟩ := formAlarm_servo_accept hs'
  have hformed := (formAlarm_responds hs').untripped hs'
  obtain ⟨harrival, -⟩ := arrival_of_not_barrier n m v hs hseq
  rw [harrival]
  have hsame : (s.heard n m v).servo = s.servo ∧ (s.heard n m v).control = s.control := by
    rw [heard_eq]
    exact ⟨rfl, rfl⟩
  rw [hsame.1] at hservo
  rw [hsame.2] at haccept
  split
  · obtain ⟨hservo', haccept'⟩ := respond_servo_accept s.settings.dropPolicy hformed
    exact ⟨hservo'.trans hservo, haccept'.trans haccept, respond_mode_of_untripped _ hformed⟩
  · exact ⟨hservo, haccept, rfl⟩

theorem kept_settle (h : t.servo = s.servo) : s.servo.Kept t.settle.servo := by
  obtain ⟨-, -, -, hkept⟩ := settle_keeps t
  rwa [h] at hkept

theorem heard_frame (n : Nat) (m : Mode) (v : BeatView) (s : State) :
    (s.heard n m v).settings = s.settings ∧ (s.heard n m v).cracks = s.cracks ∧ (s.heard n m v).control = s.control
      ∧ (s.heard n m v).peers.groupAlarm = s.peers.groupAlarm := by
  rw [heard_eq]
  exact ⟨rfl, rfl, rfl, rfl⟩

/-- R118: an arrival whose level G covers brings no rise. -/
theorem heard_no_rise {n : Nat} {m : Mode} {v : BeatView} (hn : 1 ≤ n) (hn' : n ≤ s.peers.entries.length) (h : s.GroupLaw)
    (hlevel : v.ownLevel ≤ s.peers.groupAlarm) : (s.heard n m v).peers.formAlarm (s.heard n m v).settings.group (s.heard n m v).cracks.level
      ≤ (s.heard n m v).peers.groupAlarm := by
  obtain ⟨hsettings, hcracks, -, halarm⟩ := heard_frame n m v s
  obtain ⟨hown, hcounted, -⟩ := h
  rw [hsettings, hcracks, halarm]
  refine formed_le hown fun x hx => ?_
  obtain hx | hx := mem_heard_countedPeers hn hn' hx
  · exact hcounted x hx
  · exact hx.trans_le hlevel

/-- R118: an arrival of a counted peer whose own level lies above G makes it G. -/
theorem heard_rise {n : Nat} {m : Mode} {v : BeatView} (hn : 1 ≤ n) (hn' : n ≤ s.peers.entries.length) (h : s.GroupLaw)
    (hgroup : v.group = s.settings.group) (hown : s.settings.group ≠ 0) (hlevel : s.peers.groupAlarm < v.ownLevel) :
    (s.heard n m v).peers.formAlarm (s.heard n m v).settings.group (s.heard n m v).cracks.level = v.ownLevel := by
  obtain ⟨hsettings, hcracks, -, -⟩ := heard_frame n m v s
  obtain ⟨hown', hcounted, -⟩ := h
  rw [hsettings, hcracks]
  refine le_antisymm (formed_le (by omega) fun x hx => ?_) ?_
  · obtain hx | hx := mem_heard_countedPeers hn hn' hx
    · exact (hcounted x hx).trans hlevel.le
    · exact hx.le
  · obtain ⟨offset, valid, hentry⟩ := heard_entry (s := s) m v hn hn'
    obtain ⟨-, hbound, -⟩ := formAlarm_spec (s.heard n m v).peers s.settings.group s.cracks.level
    have hlen : (s.heard n m v).peers.entries.length = s.peers.entries.length := by
      unfold State.heard
      obtain ⟨-, h⟩ | ⟨-, h⟩ := captureOffset_cases n v (s.takeBeat n m v) <;> rw [h] <;>
        simp [State.takeBeat, PeerTable.setEntry]
    have hmem : (s.heard n m v).peers.entry n ∈ (s.heard n m v).peers.countedPeers s.settings.group :=
      entry_mem_countedPeers hn (hlen ▸ hn') (peer_counted_iff.mpr (by rw [hentry]; exact ⟨.inl rfl, hgroup, hown⟩))
    have hle := hbound _ hmem
    rwa [hentry] at hle

theorem arrival_groupAlarm (n : Nat) (m : Mode) (v : BeatView) (s : State) :
    (s.arrival n m v).peers.groupAlarm = (s.heard n m v).peers.formAlarm (s.heard n m v).settings.group (s.heard n m v).cracks.level := by
  have hresponse (b : Bool) (a : Policy) (u : State) : (if b then u.respond a else u).peers = u.peers := by
    cases b with
    | true => exact (respond_keeps a u).peers
    | false => rfl
  rw [← formAlarm_groupAlarm]
  unfold State.arrival
  rw [(examineBarrier_keeps _).peers, hresponse]
  rfl

/-- R142: an arrival at which G rises leaves the alarm output as G and the mode give it. -/
theorem arrival_alarmPinLaw {n : Nat} {m : Mode} {v : BeatView} (hs : s.Untripped) (hseq : s.seq.state ≠ .barrier)
    (hrise : s.peers.groupAlarm < (s.heard n m v).peers.formAlarm (s.heard n m v).settings.group (s.heard n m v).cracks.level) :
    (s.arrival n m v).AlarmPinLaw := by
  have hpin := formAlarm_alarmPinLaw_of_rise (s := s.heard n m v) (by rwa [(heard_frame n m v s).2.2.2])
  obtain ⟨harrival, -⟩ := arrival_of_not_barrier n m v hs hseq
  rw [harrival]
  split
  · exact respond_alarmPinLaw _ hpin
  · exact hpin

/-- R140: the answer to a rise of G at an arrival. -/
theorem heard_rise_mode {n : Nat} {m : Mode} {v : BeatView} {g : Nat} (hs : s.Untripped)
    (hformed : (s.heard n m v).peers.formAlarm (s.heard n m v).settings.group (s.heard n m v).cracks.level = g)
    (hrise : s.peers.groupAlarm < g) : (s.heard n m v).formAlarm.control.mode = s.answer g := by
  obtain ⟨hsettings, -, hcontrol, halarm⟩ := heard_frame n m v s
  rw [formAlarm_of_rise (by rw [hformed, halarm]; exact hrise), hformed,
    riseResponse_mode (s := (s.heard n m v).putAlarm g) g (heard_untripped n m v hs)]
  show (if (s.heard n m v).settings.policyFor g ≠ .note ∧ (s.heard n m v).control.accept < g then
    (s.heard n m v).control.mode.answered ((s.heard n m v).settings.policyFor g) else (s.heard n m v).control.mode) = _
  rw [hsettings, hcontrol]
  rfl

/-! ## A rise at a mark -/

/-- What a mark at the recorder and the crack monitor leaves of the frame: a rise of G is the node's own, and is answered. -/
structure State.MarkAnswers (s t : State) : Prop where
  rise : s.peers.groupAlarm < t.cracks.level → t.peers.groupAlarm = t.cracks.level ∧ t.control.mode = s.answer t.cracks.level
    ∧ t.control.accept = s.control.accept ∧ (t.control.alarm = true ↔ 2 ≤ t.cracks.level ∨ s.control.mode = .tripped)
  stand : t.peers.groupAlarm ≤ s.peers.groupAlarm → t.control.mode = s.control.mode

/-- `MarkAnswers` speaks of these parts alone. -/
theorem State.MarkAnswers.congr {s' t' : State} (h : s.MarkAnswers t) (halarm : s'.peers.groupAlarm = s.peers.groupAlarm)
    (hcontrol : s'.control = s.control) (hsettings : s'.settings = s.settings) (halarm' : t'.peers.groupAlarm = t.peers.groupAlarm)
    (hcontrol' : t'.control = t.control) (hcracks : t'.cracks = t.cracks) : s'.MarkAnswers t' := by
  obtain ⟨hrise, hstand⟩ := h
  constructor
  · unfold State.answer at *
    rwa [halarm, hcontrol, hsettings, halarm', hcontrol', hcracks]
  · rwa [halarm, hcontrol, halarm', hcontrol']

theorem formAlarm_markAnswers (hs : s.Untripped) (hcounted : ∀ e ∈ s.peers.countedPeers s.settings.group, e.ownLevel ≤ s.peers.groupAlarm) :
    s.MarkAnswers s.formAlarm := by
  have hkept := formAlarm_keeps s
  obtain ⟨-, -, -, hcracks, -⟩ := hkept
  change s.formAlarm.cracks = s.cracks at hcracks
  have hgroup := formAlarm_groupAlarm s
  constructor
  · intro hrise
    rw [hcracks] at hrise ⊢
    have hformed : s.peers.formAlarm s.settings.group s.cracks.level = s.cracks.level :=
      le_antisymm (formed_le le_rfl fun x hx => (hcounted x hx).trans hrise.le) (formAlarm_spec s.peers s.settings.group s.cracks.level).1
    have hrise' : s.peers.groupAlarm < s.peers.formAlarm s.settings.group s.cracks.level := by rw [hformed]; exact hrise
    have hmode : s.formAlarm.control.mode = s.answer s.cracks.level := by
      rw [formAlarm_of_rise hrise', hformed]
      exact riseResponse_mode (s := s.putAlarm s.cracks.level) s.cracks.level hs
    have hpin := formAlarm_alarmPinLaw_of_rise hrise'
    rw [hformed] at hgroup
    unfold State.AlarmPinLaw at hpin
    rw [hgroup, hmode, answer_eq_tripped_iff] at hpin
    exact ⟨hgroup, hmode, (formAlarm_servo_accept hs).2, hpin⟩
  · intro hstand
    rw [hgroup] at hstand
    exact formAlarm_mode_of_no_rise hstand

theorem putCracks_markAnswers (k : Cracks) (h : s.GroupLaw) (hs : s.Untripped) : s.MarkAnswers (s.putCracks k) := by
  obtain ⟨hown, hcounted, -⟩ := h
  obtain ⟨hlevel, h⟩ | ⟨-, h⟩ := putCracks_cases k s
  · have hput := putCracks_cracks k s
    refine ⟨fun hrise => ?_, fun _ => by rw [h]⟩
    rw [hput, hlevel] at hrise
    omega
  · rw [h]
    exact (formAlarm_markAnswers (s := { s with cracks := k, line := { s.line with prompt := true } }) hs hcounted).congr rfl rfl rfl rfl rfl rfl

theorem recordsMark_markAnswers (site : Nat) (h : s.GroupLaw) (hs : s.Untripped) : s.MarkAnswers (s.recordsMark site) := by
  have hput := putCracks_markAnswers (s := { s with recorder := s.recorder.mark s.settings.channels })
    (s.cracks.evaluate s.settings.sites (s.recorder.signal s.settings.channels)) h hs
  unfold State.recordsMark State.evaluateSites
  dsimp only
  split <;> exact hput.congr rfl rfl rfl rfl rfl rfl

/-! ## A mark that ends no CYCLE -/

/-- A mark that comes now ends no CYCLE (R36). -/
def Sequencer.GoesOn (tab : List Segment) (q : Sequencer) : Prop :=
  q.atCycle tab = true → (if q.clean then q.remaining - 1 else q.remaining) ≠ 0

theorem mark_of_goesOn {tab : List Segment} {q : Sequencer} (h : q.GoesOn tab) (m : Mode) (met : Bool) :
    q.mark tab m met = (((if q.atCycle tab then q.countCycle m else q).startWaiting tab m).openCycle, false) := by
  unfold Sequencer.mark Sequencer.closeCycle
  by_cases hat : q.atCycle tab = true
  · have hne : (q.countCycle m).remaining ≠ 0 := by
      rw [countCycle_eq]
      exact h hat
    rw [if_pos hat, if_pos hat]
    dsimp only
    rw [if_neg hne]
  · rw [if_neg hat, if_neg hat]

/-- R44: such a mark begins no soft start but in RUN and ASCENT. -/
theorem mark_softStep {tab : List Segment} {q : Sequencer} {m : Mode} (met : Bool) (h : q.GoesOn tab) (hm : ¬ (m = .run ∨ m = .ascent))
    (hnone : q.softStep = none) : (q.mark tab m met).1.softStep = none := by
  have hcount : (if q.atCycle tab then q.countCycle m else q).softStep = none := by
    rw [countCycle_eq]
    split <;> exact hnone
  rw [mark_of_goesOn h]
  show ((if q.atCycle tab then q.countCycle m else q).startWaiting tab m).softStep = none
  generalize (if q.atCycle tab then q.countCycle m else q) = p at hcount
  unfold Sequencer.startWaiting Sequencer.start
  split
  · split
    · exact hcount
    · exact hcount
    · exact hcount
    · rw [if_pos rfl, cycleEnvelope_eq]
      exact if_neg fun h => hm h.1
  · exact hcount

theorem programmeMark_eq_of_quiet (h : (s.seq.mark s.settings.segments s.control.mode s.barrierMet).2 = false) :
    s.programmeMark = State.clockMark { s with seq := (s.seq.mark s.settings.segments s.control.mode s.barrierMet).1 } := by
  unfold State.programmeMark State.withSequencer
  rw [h]
  rfl

/-- R54: the flags that the clock clears are no part of the law of G. -/
theorem clockMark_groupLaw (h : s.GroupLaw) : s.clockMark.GroupLaw :=
  groupLaw_map (f := fun e => { e with offsetValid := false }) (fun _ _ => rfl) (fun _ => rfl) h rfl rfl rfl

end Sys2Proof.Machine
end

section
/-! O36: the four events put together. -/

namespace Sys2Proof.Machine

variable {s t u : State}

theorem execPeerLost_of_expired {n : Nat} (hn : 1 ≤ n) (hn' : n ≤ 16) (hstate : (s.peers.entry n).state = .stale)
    (hage : s.settings.lostMs * 1000 ≤ (s.peers.entry n).ageUs) : exec (.peerLost n) s = .next (s.losePeer n).settle := by
  rw [execPeerLost_eq, if_pos]
  rw [Bool.and_eq_true, frameStation_iff, peer_expires_iff]
  exact ⟨⟨hn, hn'⟩, hstate, hage⟩

/-- R36, R52: a mark that ends no CYCLE answers the node's own rise of G, in either order of the blocks. -/
theorem handleMark_markAnswers (first : Bool) (site : Nat) (h : s.GroupLaw) (hs : s.Untripped) (hgoes : s.seq.GoesOn s.settings.segments) :
    s.MarkAnswers (s.handleMark first site) := by
  have hquiet {u : State} (hu : s.Responds u) : (u.seq.mark u.settings.segments u.control.mode u.barrierMet).2 = false := by
    rw [hu.seq_eq, hu.settings, mark_of_goesOn (by exact hgoes)]
  cases first with
  | true =>
    have hmark := programmeMark_eq_of_quiet (hquiet (scannerMark_responds s))
    have hanswers := recordsMark_markAnswers (s := s.scannerMark.programmeMark) site
      (by rw [hmark]; exact clockMark_groupLaw (s := { s.scannerMark with seq := _ }) h) (by rw [hmark]; exact hs)
    rw [hmark] at hanswers
    show s.MarkAnswers (s.scannerMark.programmeMark.recordsMark site)
    rw [hmark]
    exact hanswers.congr rfl rfl rfl rfl rfl rfl
  | false =>
    have hanswers := recordsMark_markAnswers (s := s.scannerMark) site h hs
    have hmark := programmeMark_eq_of_quiet (hquiet ((scannerMark_responds s).trans (recordsMark_responds (s := s.scannerMark) site hs)))
    show s.MarkAnswers (s.scannerMark.recordsMark site).programmeMark
    rw [hmark]
    exact hanswers.congr rfl rfl rfl rfl rfl rfl

/-- R45: a change of the frame mode at such a mark leaves no soft start, whichever blocks take it first. -/
theorem handleMark_softStep (first : Bool) (site : Nat) (hs : s.Untripped) (hgoes : s.seq.GoesOn s.settings.segments)
    (hm : (s.handleMark first site).control.mode ≠ s.control.mode) : (s.handleMark first site).seq.softStep = none := by
  obtain ⟨u, hu, ht, -, -⟩ := handleMark_around first site hs
  have hgoes' : u.seq.GoesOn u.settings.segments := by
    rw [hu.seq_eq, hu.settings]
    exact hgoes
  have hmark := programmeMark_eq_of_quiet (s := u) (by rw [mark_of_goesOn hgoes'])
  obtain ⟨hsame, hseq⟩ | ⟨-, hseq⟩ := ht.frame
  · rw [hmark] at hsame hseq
    obtain ⟨hsame', -⟩ | ⟨hyields, hseq'⟩ := hu.frame
    · exact absurd (hsame.trans hsame') hm
    · rw [hseq]
      exact mark_softStep u.barrierMet hgoes' hyields.not_rising (by rw [hseq'])
  · rw [hseq]

/-- Settles O36: each event is a forming of G with its response, and the answers are taken one after the other. -/
theorem peerLossAndPeerDropAreAnswered : Obligations.PeerLossAndPeerDropAreAnswered := by
  refine ⟨?_, ?_, ?_⟩
  · intro n s hn hn' hstate hage hlen hlaw hseq hs e loss
    have hheeds := losePeer_heeds n s
    obtain ⟨hlose, hresponds⟩ := losePeer_of_not_barrier n hs hseq
    have hloss : isLoss s.settings.group e = true ↔ loss := isLoss_of_stale _ hstate
    have hstand := formAlarm_mode_of_no_rise (expired_no_rise n hlaw)
    obtain ⟨⟨-, hscanner, hrecorder, hcracks, hpeers, -, hsettings, -, -⟩, hcontrol, hseq', -⟩ := settle_keeps (s.losePeer n)
    have hclock := (settle_keeps (s.losePeer n)).1.clock
    have hentries : (s.losePeer n).peers.entries = (s.expire n .lost).peers.entries := hresponds.entries
    have hself : (s.losePeer n).peers.entry n = { e with state := .lost } := by
      rw [PeerTable.entry, hentries]
      exact entry_setEntry_self _ _ hn (hlen ▸ hn')
    have hservo : (s.losePeer n).servo = s.servo := by
      have hformed := formAlarm_servo_accept (s := s.expire n .lost) hs
      rw [hlose]
      split
      · exact (respond_servo_accept _ ((formAlarm_responds (s := s.expire n .lost) hs).untripped hs)).1.trans hformed.1
      · exact hformed.1
    have hgroup : (s.losePeer n).peers.groupAlarm ≤ s.peers.groupAlarm := by
      have hpeers' : (s.losePeer n).peers = (s.expire n .lost).formAlarm.peers := by
        rw [hlose]
        split
        · exact (respond_keeps _ _).peers
        · rfl
      rw [hpeers', formAlarm_groupAlarm]
      exact expired_no_rise n hlaw
    refine ⟨_, execPeerLost_of_expired hn hn' hstate hage, ?_, fun m h₁ h₂ hne => ?_, ?_, fun h => ⟨?_, ?_⟩, fun h => ?_, ?_,
      kept_settle hservo, hclock.trans hheeds.clock, hscanner.trans hheeds.scanner, hrecorder.trans hheeds.recorder,
      hcracks.trans hheeds.cracks, hsettings.trans hheeds.settings, hheeds.promptsOnChange, hheeds.timer, hheeds.softStart⟩
    · rw [hpeers, hself]
    · rw [hpeers, PeerTable.entry, hentries]
      exact entry_setEntry_other _ _ hn h₁ hne
    · rw [hpeers]
      exact hgroup
    · rw [hcontrol, hlose, if_pos (hloss.mpr h), respond_mode_of_untripped _ ((formAlarm_responds (s := s.expire n .lost) hs).untripped hs), hstand]
      rfl
    · obtain ⟨hown, -, hengaged⟩ := h
      have hlen' : n ≤ (s.losePeer n).peers.entries.length := by
        rw [hentries]
        simpa [State.expire, PeerTable.setEntry, hlen] using hn'
      rw [hpeers]
      exact peerLost_of_entry hn hlen' (by rw [hself]) (by rw [hself]; exact hown) (by rw [hself]; exact hengaged)
    · rw [hcontrol, hlose, if_neg (mt hloss.mp h), hstand]
      rfl
    · rw [hseq', hresponds.seq_eq]
      rfl
  · intro source body s hline hready hsource hsource' hother hcode hlen hlaw hlevel hseq hs old hown hgroup hold
    have hin : byteAt body 0 ≤ 4 := by omega
    obtain ⟨m, hm, hexec⟩ := execBeatArrival_taken hline hready hsource hsource' hother (by omega) (by omega) hin
    obtain ⟨hservo, haccept, hmode⟩ := arrival_control (n := source.toNat) (m := m) (v := readBeat body) hs hseq
    have hheeds := arrival_heeds source.toNat m (readBeat body) s
    obtain ⟨-, hcontrol, -, -⟩ := settle_keeps (s.arrival source.toNat m (readBeat body))
    have hstand := formAlarm_mode_of_no_rise (heard_no_rise (m := m) hsource (hlen ▸ hsource') hlaw (v := readBeat body) hlevel)
    have hdrop := isDrop_heard_iff (s := s) (own := s.settings.group) (held := old.group) (m := m) (v := readBeat body) hsource (hlen ▸ hsource')
    refine ⟨_, hexec, ?_, (congrArg Control.accept hcontrol).trans haccept, kept_settle hservo, hheeds.promptsOnChange, hheeds.timer,
      hheeds.softStart⟩
    rw [hcontrol, hmode, hstand, (heard_frame ..).2.2.1]
    refine if_congr (hdrop.trans ?_) rfl rfl
    rw [stopped_iff_code, hm, loading_iff]
    have hgroup' : ((readBeat body).group = s.settings.group ∧ s.settings.group ≠ 0)
        ∨ ((readBeat body).group = 0 ∧ old.group = s.settings.group) := hgroup.imp_left fun h => ⟨h.1, hown⟩
    exact ⟨fun h => h.2.2.1, fun h => ⟨hcode, hold, h, hgroup'⟩⟩
  · intro answer
    refine ⟨?_, ?_⟩
    · intro source body s hline hready hsource hsource' hother hcode hcode' hlen hlaw hgroup hown hown' hseq hs level old drop hrise
      obtain ⟨m, hm, hexec⟩ := execBeatArrival_taken hline hready hsource hsource' hother hcode hcode' (by omega)
      obtain ⟨hservo, haccept, hmode⟩ := arrival_control (n := source.toNat) (m := m) (v := readBeat body) hs hseq
      have hheeds := arrival_heeds source.toNat m (readBeat body) s
      obtain ⟨⟨-, -, -, -, hpeers, -⟩, hcontrol, -, -⟩ := settle_keeps (s.arrival source.toNat m (readBeat body))
      have hformed := heard_rise (m := m) (v := readBeat body) hsource (hlen ▸ hsource') hlaw hgroup (by omega) hrise
      have hanswer : (s.heard source.toNat m (readBeat body)).formAlarm.control.mode = answer level s := heard_rise_mode hs hformed hrise
      have hdrop := isDrop_heard_iff (s := s) (own := s.settings.group) (held := old.group) (m := m) (v := readBeat body) hsource
        (hlen ▸ hsource')
      have hdrop' : isDrop s.settings.group old.group ((s.heard source.toNat m (readBeat body)).peers.entry source.toNat) = true ↔ drop := by
        rw [hdrop, stopped_iff_code, hm, loading_iff]
        have hgroup' : ((readBeat body).group = s.settings.group ∧ s.settings.group ≠ 0)
            ∨ ((readBeat body).group = 0 ∧ old.group = s.settings.group) := .inl ⟨hgroup, by omega⟩
        exact ⟨fun ⟨h₁, h₂, h₃, _⟩ => ⟨h₁, h₂, h₃⟩, fun ⟨h₁, h₂, h₃⟩ => ⟨h₁, h₂, h₃, hgroup'⟩⟩
      have hpin := arrival_alarmPinLaw (n := source.toNat) (m := m) (v := readBeat body) hs hseq (by rw [hformed]; exact hrise)
      have halarm : (s.arrival source.toNat m (readBeat body)).peers.groupAlarm = level := (arrival_groupAlarm ..).trans hformed
      rw [hanswer] at hmode
      have htripped : (s.arrival source.toNat m (readBeat body)).control.mode = .tripped ↔ s.control.mode = .tripped := by
        rw [hmode]
        split
        · rw [answered_eq_tripped_iff]
          exact answer_eq_tripped_iff level s
        · exact answer_eq_tripped_iff level s
      refine ⟨_, hexec, (congrArg PeerTable.groupAlarm hpeers).trans halarm, fun h => ?_, fun h => ?_,
        (congrArg Control.accept hcontrol).trans haccept, ?_, kept_settle hservo, hheeds.promptsOnChange, hheeds.timer, hheeds.softStart⟩
      · rw [hcontrol, hmode, if_pos (hdrop'.mpr h)]
      · rw [hcontrol, hmode, if_neg (mt hdrop'.mp h)]
      · unfold State.AlarmPinLaw at hpin
        rw [hcontrol, hpin, halarm, htripped]
    · intro first site s hrunning hlaw hgoes hs
      have hgoes' : s.seq.GoesOn s.settings.segments := by
        intro hat
        obtain ⟨hactive, hstarted, hcycle⟩ := (atCycle_iff s).mp hat
        rw [hactive, hstarted, hcycle] at hgoes
        obtain h | h | h | h | ⟨hclean, h⟩ := hgoes
        · exact absurd rfl h
        · exact Bool.noConfusion h
        · exact Bool.noConfusion h
        · split <;> omega
        · rw [hclean, if_neg Bool.false_ne_true]
          omega
      obtain ⟨⟨-, -, -, hcracks, hpeers, -⟩, hcontrol, hseq, -⟩ := compose_keeps .mark (s.handleMark first site)
      have hanswers := handleMark_markAnswers first site hlaw hs hgoes'
      have hwithdraws := handleMark_withdraws first site s
      have hends := hanswers.congr (s' := s) (t' := (s.handleMark first site).compose .mark) rfl rfl rfl (by rw [hpeers]) hcontrol hcracks
      refine ⟨_, execCycleMark_of_running first site hrunning, hwithdraws.compose_reports .mark, compose_timerFollows .mark hwithdraws.timerFollows,
        fun hm => ?_, hends.rise, hends.stand⟩
      rw [hseq]
      rw [hcontrol] at hm
      exact handleMark_softStep first site hs hgoes' hm

end Sys2Proof.Machine
end

section
/-! O37, and the release of a barrier at an event of the peer view table (O60). -/

namespace Sys2Proof.Machine

variable {s t u w : State} {q : Sequencer}

/-! ## The duplicate station (R155) -/

/-- The line unit silenced by a BEAT of the node's own number. -/
def LineUnit.silenced (u : LineUnit) : LineUnit :=
  { u with line := .listenOnly, duplicate := true, held := none, beatSlot := none, replySlot := none, transmitter := .idle }

theorem execBeatArrival_of_own {source : Byte} {body : List Byte} (hline : s.line.line = .active ∨ s.line.line = .listenOnly)
    (hready : s.line.assembler = .ready) (hown : source.toNat = s.startUp.station) :
    exec (.beatArrival source body) s = .next s.duplicateStation.settle := by
  show execBeatArrival source body s = _
  rw [execBeatArrival, arrive_of_ready _ _ hline hready, State.receiveBeat, if_pos hown]

theorem compose_of_listenOnly (c : Cause) (h : s.line.line = .listenOnly) : s.compose c = { s with line := { s.line with prompt := false } } := by
  unfold State.compose
  rw [h]
  rfl

/-- A silenced line composes nothing: the PROMPT cause is spent. -/
theorem settle_of_listenOnly (h : s.line.line = .listenOnly) : s.settle = { s with line := { s.line with prompt := false } } := by
  obtain ⟨-, hsettle⟩ | ⟨hspent, hsettle⟩ := settle_cases s <;> rw [hsettle]
  · exact compose_of_listenOnly .prompt h
  · rw [← hspent]

/-- R140, R141: a DESCENT response where no change of mode trips. -/
theorem respond_descent_eq (hs : s.Untripped) : s.respond .descent =
    if s.control.mode = .run ∨ s.control.mode = .ascent ∨ s.control.mode = .hold then s.enterMode .descent else s := by
  by_cases h : s.control.mode = .run ∨ s.control.mode = .ascent ∨ s.control.mode = .hold
  · have hengaged : s.control.mode.engaged = true := by obtain hm | hm | hm := h <;> rw [hm] <;> rfl
    rw [if_pos h, ← changeMode_of_engaged .descent hs hengaged]
    unfold State.respond
    obtain hm | hm | hm := h <;> rw [hm]
  · rw [if_neg h]
    obtain h' | ⟨hhold, -⟩ | ⟨-, hm, -⟩ := respond_cases .descent s
    · exact h'
    · exact Policy.noConfusion hhold
    · exact absurd hm h

/-- Settles O37: the line is silenced, and the response composes nothing. -/
theorem aDuplicateStationSilencesTheNode : Obligations.ADuplicateStationSilencesTheNode := by
  intro source body s hready hown hspent hs
  refine ⟨fun hline => ?_, fun hline => ?_⟩
  · have hrespond : State.respond .descent { s with line := s.line.silenced } =
        if s.control.mode = .run ∨ s.control.mode = .ascent ∨ s.control.mode = .hold then
          State.enterMode .descent { s with line := s.line.silenced }
        else { s with line := s.line.silenced } := respond_descent_eq (s := { s with line := s.line.silenced }) hs
    have hlisten : (State.respond .descent { s with line := s.line.silenced }).line.line = .listenOnly := by
      have h := (respond_withdraws .descent { s with line := s.line.silenced }).line
      rw [h]
      rfl
    have hends : s.duplicateStation.settle = { State.respond .descent { s with line := s.line.silenced } with
        line := { (State.respond .descent { s with line := s.line.silenced }).line with prompt := false } } := by
      rw [State.duplicateStation, if_pos hline]
      exact settle_of_listenOnly hlisten
    have hsilenced : { s.line.silenced with prompt := false } = s.line.silenced := by
      rw [← hspent]
      rfl
    refine ⟨_, (execBeatArrival_of_own (.inl hline) hready hown).trans (congrArg _ hends), ?_⟩
    rw [hrespond]
    by_cases h : s.control.mode = .run ∨ s.control.mode = .ascent ∨ s.control.mode = .hold
    · rw [if_pos h, if_pos h, if_pos h]
      refine ⟨hsilenced, ?_, rfl, rfl, ⟨rfl, rfl, rfl, rfl, rfl, rfl, rfl, rfl, rfl⟩⟩
      show s.control.enter s.settings.lockstepTimeout s.peers.groupAlarm .descent = _
      simp [Control.enter, qAtEntry, releaseAtEntry, alarmPin]
    · rw [if_neg h, if_neg h, if_neg h]
      exact ⟨hsilenced, rfl, rfl, rfl, ⟨rfl, rfl, rfl, rfl, rfl, rfl, rfl, rfl, rfl⟩⟩
  · rw [execBeatArrival_of_own (.inr hline) hready hown, State.duplicateStation, if_neg (by rw [hline]; exact LineState.noConfusion),
      settle_of_spent hspent]

/-! ## The release of a barrier (R38 to R42) -/

/-- The release as a state of which the soft start alone has changed gives it. -/
theorem released_congr {starts : Bool} (hseq : w.seq = { s.seq with softStep := w.seq.softStep }) (hsettings : w.settings = s.settings)
    (h : w.Released starts q) : s.Released starts q := by
  unfold State.Released State.segment at *
  rw [hseq, hsettings] at h
  exact h

/-- R38, R41, R42: what the end of the segment at a barrier comes to, whatever becomes of the soft start. -/
theorem passOn_released (m : Mode) (soft : Option Nat) :
    s.Released false { (s.seq.passOn s.settings.segments false m).1 with softStep := soft } := by
  unfold State.Released
  obtain ⟨hlink, h⟩ | ⟨k, hlink, hpause, h⟩ | ⟨k, hlink, hpause, h⟩ := passOn_cases s.settings.segments false m s.seq <;>
    rw [h, State.segment, hlink]
  · dsimp only
    rw [if_pos ⟨hpause, rfl⟩]
    unfold Sequencer.moveTo Segment.count
    rfl
  · dsimp only
    rw [hpause, if_neg fun h => Bool.false_ne_true h.1]
    unfold Sequencer.start Sequencer.moveTo Segment.count
    dsimp only
    cases hbody : (segmentAt s.settings.segments k).body <;> simp

/-- R40, R138: what an examination of the barrier leaves. -/
theorem examineBarrier_releases (hs : s.Untripped) (hrunning : s.running = true) (hstate : s.seq.state = .barrier) :
    (s.barrierMet = true → s.Released false s.examineBarrier.seq
        ∧ (s.segment.link = none ∨ s.segment.pause = true → s.examineBarrier.control.mode ≠ .run))
      ∧ (s.barrierMet = false → s.examineBarrier = s) := by
  have hexamine : s.examineBarrier = s.withSequencer (s.seq.examine s.settings.segments s.control.mode s.barrierMet) := if_pos hrunning
  unfold Sequencer.examine at hexamine
  refine ⟨fun hmet => ?_, fun hmet => ?_⟩
  · rw [if_pos ⟨hstate, hmet⟩] at hexamine
    have hreleased := passOn_released (s := s) s.control.mode
    rw [hexamine, withSequencer_of_untripped _ hs]
    split
    next h =>
      exact ⟨hreleased none, fun _ => Mode.noConfusion⟩
    next h =>
      refine ⟨hreleased _, fun hrequest hm => h ⟨?_, hm⟩⟩
      obtain ⟨-, h⟩ | ⟨k, -, -, h⟩ | ⟨k, hlink, hpause, -⟩ := passOn_cases s.settings.segments false s.control.mode s.seq
      · rw [h]
      · rw [h]
      · rw [State.segment, hlink, hpause] at hrequest
        obtain h | h := hrequest
        · exact absurd h (Option.some_ne_none k)
        · exact absurd h Bool.false_ne_true
  · rw [if_neg fun h => Bool.false_ne_true (hmet.symm.trans h.2)] at hexamine
    exact hexamine

/-! ## The events of the peer view table that examine the barrier -/

theorem State.Responds.running (h : s.Responds t) : t.running = s.running := by
  obtain ⟨hm, -⟩ | ⟨hyields, -⟩ := h.frame
  · unfold State.running
    rw [hm]
  · rw [running_of_engaged hyields.engaged.1, running_of_engaged hyields.engaged.2]

/-- O60, an arrival or an expiry: the frame at most answers, and then the barrier is examined. -/
theorem settle_of_examined {p : PeerTable} (hs : s.Untripped) (hrunning : s.running = true) (hstate : s.seq.state = .barrier)
    (hw : State.Responds { s with peers := p } w) (hheeds : s.Heeds w.examineBarrier) :
    (w.examineBarrier.settle.peers.Clears s.settings.group s.seq.index s.segment.link →
        s.Released false w.examineBarrier.settle.seq
          ∧ (s.segment.link = none ∨ s.segment.pause = true → w.examineBarrier.settle.control.mode ≠ .run))
      ∧ (¬ w.examineBarrier.settle.peers.Clears s.settings.group s.seq.index s.segment.link →
          w.examineBarrier.settle.seq = { s.seq with softStep := w.examineBarrier.settle.seq.softStep })
      ∧ s.PromptsOnChange w.examineBarrier.settle ∧ s.TimerFollows w.examineBarrier.settle
      ∧ s.SoftStartFollows w.examineBarrier.settle := by
  have hseq : w.seq = { s.seq with softStep := w.seq.softStep } := hw.seq_eq
  have hsettings : w.settings = s.settings := hw.settings
  have hsegment : w.segment = s.segment := by
    unfold State.segment
    rw [hseq, hsettings]
  obtain ⟨hmet, hunmet⟩ := examineBarrier_releases (hw.untripped hs) (hw.running.trans hrunning) (by rw [hseq]; exact hstate)
  obtain ⟨⟨-, -, -, -, hpeers, -⟩, hcontrol, hseq', -⟩ := settle_keeps w.examineBarrier
  rw [hpeers, (examineBarrier_keeps w).peers, hcontrol, hseq']
  have hclears : w.barrierMet = true ↔ w.peers.Clears s.settings.group s.seq.index s.segment.link := by
    unfold State.barrierMet
    rw [barrierMet_iff, hsegment, hsettings, hseq]
  rw [hsegment] at hmet
  refine ⟨fun h => ?_, fun h => ?_, hheeds.promptsOnChange, hheeds.timer, hheeds.softStart⟩
  · obtain ⟨hreleased, hleaves⟩ := hmet (hclears.mpr h)
    exact ⟨released_congr hseq hsettings hreleased, hleaves⟩
  · rw [hunmet (Bool.eq_false_iff.mpr (mt hclears.mp h))]
    exact hseq

theorem arrival_examines (n : Nat) (m : Mode) (v : BeatView) (hs : s.Untripped) :
    ∃ p w, s.arrival n m v = w.examineBarrier ∧ State.Responds { s with peers := p } w := by
  have hs' := heard_untripped n m v hs
  have hformed := formAlarm_responds hs'
  refine ⟨{ s.peers with entries := (s.heard n m v).peers.entries }, _, rfl, ?_⟩
  rw [← heard_eq]
  change (s.heard n m v).Responds (if isDrop s.settings.group (s.peers.entry n).group ((s.heard n m v).peers.entry n) then
    (s.heard n m v).formAlarm.respond (s.heard n m v).formAlarm.settings.dropPolicy else (s.heard n m v).formAlarm)
  split
  · exact hformed.trans (respond_responds _ (hformed.untripped hs'))
  · exact hformed

theorem losePeer_examines (n : Nat) (hs : s.Untripped) : ∃ p w, s.losePeer n = w.examineBarrier ∧ State.Responds { s with peers := p } w := by
  have hformed := formAlarm_responds (s := s.expire n .lost) hs
  refine ⟨(s.expire n .lost).peers, _, rfl, ?_⟩
  split
  · exact hformed.trans (respond_responds _ (hformed.untripped hs))
  · exact hformed

theorem execPeerStale_of_expired {n : Nat} (hn : 1 ≤ n) (hn' : n ≤ 16) (hstate : (s.peers.entry n).state = .fresh)
    (hage : s.settings.staleMs * 1000 ≤ (s.peers.entry n).ageUs) :
    exec (.peerStale n) s = .next ((s.expire n .stale).formAlarm.examineBarrier).settle := by
  rw [execPeerStale_eq, if_pos]
  rw [Bool.and_eq_true, frameStation_iff, peer_expires_iff]
  exact ⟨⟨hn, hn'⟩, hstate, hage⟩

end Sys2Proof.Machine
end

section
/-! O41 and O43: directives adopted by the mode alone, and what any adopted directive leaves. -/

namespace Sys2Proof.Machine

variable {s t u : State} {d : Directive}

/-! ## What an adopted directive leaves -/

/-- `t` is what an adopted directive leaves, whose action has brought the node to `u`: the record and the report beside (R132, R160). -/
structure State.AdoptedAs (d : Directive) (s u t : State) : Prop where
  records : s.Records d .adopted t
  reports : s.Reports .prompt t
  kept : u.RecordsKept t
  servo : u.servo.Kept t.servo
  control : t.control = u.control
  seq : t.seq = u.seq

theorem State.Adopts.adoptedAs {action : State → Decision} (h : s.Adopts d) (code : Byte) (hmode : s.control.mode ≠ .cfgFault)
    (haction : action (s.seeEpoch d.epoch) = u.adopt)
    (hline : u.line = { s.line with seenEpoch := some d.epoch, prompt := u.line.prompt })
    (hclamp : u.servo.clampFlag = s.servo.clampFlag) (hrefusals : u.control.refusals = s.control.refusals) :
    s.AdoptedAs d u (s.directive code d action) := by
  rw [h.directive_of_decided code hmode haction]
  obtain ⟨hkept, hcontrol, hseq, hservo⟩ := settle_keeps (u.record .adopted)
  obtain ⟨hrecords, hreports⟩ := record_settle_reports (s := s) (u := u) (d := d) .adopted hline hclamp hrefusals
  exact ⟨hrecords, hreports, hkept, hservo, hcontrol.trans (by rw [State.record_control, if_pos rfl]), hseq⟩

/-! ## HOLD and UNLOAD (R135) -/

theorem decideHold_eq (s : State) : s.decideHold =
    if s.control.mode = .run ∨ s.control.mode = .ascent then (s.changeMode .hold).adopt else s.refuse .refusedMode := by
  unfold State.decideHold
  cases s.control.mode <;> rfl

theorem decideUnload_eq (s : State) : s.decideUnload =
    if s.control.mode = .run ∨ s.control.mode = .ascent ∨ s.control.mode = .hold then (s.changeMode .descent).adopt
    else s.refuse .refusedMode := by
  unfold State.decideUnload
  cases s.control.mode <;> rfl

/-- A directive whose action refuses by the mode. -/
theorem State.Adopts.refused_by_mode {action : State → Decision} (h : s.Adopts d) (code : Byte)
    (haction : action (s.seeEpoch d.epoch) = State.refuse .refusedMode (s.seeEpoch d.epoch)) :
    s.Refused d .refusedMode (s.directive code d action) := by
  by_cases hcfg : s.control.mode = .cfgFault
  · exact h.refused_of_cfgFault _ _ hcfg
  · exact h.refused _ hcfg haction (by decide)

/-- Settles O41: the mode decides, and the adopted change is the mode's entry. -/
theorem holdAndUnloadAreDecidedByTheMode : Obligations.HoldAndUnloadAreDecidedByTheMode := by
  intro d s h
  refine ⟨⟨_, rfl, ?hold⟩, _, rfl, ?unload⟩
  case hold =>
    split
    next hm =>
      intro hopen
      have hcfg : s.control.mode ≠ .cfgFault := fun hc => by rw [hc] at hm; simp at hm
      have hdecided : (s.seeEpoch d.epoch).decideHold = (State.enterMode .hold (s.seeEpoch d.epoch)).adopt := by
        rw [decideHold_eq, changeMode_of_open .hold (s := s.seeEpoch d.epoch) hopen]
        exact if_pos hm
      obtain ⟨hrecords, hreports, hkept, hservo, hcontrol, hseq⟩ := h.adoptedAs 2#8 hcfg hdecided rfl rfl rfl
      refine ⟨hrecords, hreports, hkept, hservo, hseq, hcontrol.trans ?_⟩
      show s.control.enter s.settings.lockstepTimeout s.peers.groupAlarm .hold = _
      simp [Control.enter, qAtEntry, releaseAtEntry, alarmPin]
    next hm => exact h.refused_by_mode 2#8 ((decideHold_eq _).trans (if_neg hm))
  case unload =>
    split
    next hm =>
      intro hopen
      have hcfg : s.control.mode ≠ .cfgFault := fun hc => by rw [hc] at hm; simp at hm
      have hdecided : (s.seeEpoch d.epoch).decideUnload = (State.enterMode .descent (s.seeEpoch d.epoch)).adopt := by
        rw [decideUnload_eq, changeMode_of_open .descent (s := s.seeEpoch d.epoch) hopen]
        exact if_pos hm
      obtain ⟨hrecords, hreports, hkept, hservo, hcontrol, hseq⟩ := h.adoptedAs 3#8 hcfg hdecided rfl rfl rfl
      refine ⟨hrecords, hreports, hkept, hservo, hseq, hcontrol.trans ?_⟩
      show s.control.enter s.settings.lockstepTimeout s.peers.groupAlarm .descent = _
      simp [Control.enter, qAtEntry, releaseAtEntry, alarmPin]
    next hm => exact h.refused_by_mode 3#8 ((decideUnload_eq _).trans (if_neg hm))

/-! ## SCALE and BASELINE (R46, R110, R137) -/

theorem mode_ne_cfgFault_of_running (h : s.running = true) : s.control.mode ≠ .cfgFault := fun hm => by
  unfold State.running at h
  rw [hm] at h
  exact Bool.noConfusion h

/-- Settles O43: both actions write their own block alone. -/
theorem scaleAndBaselineAreAdopted : Obligations.ScaleAndBaselineAreAdopted := by
  intro d s h hrunning
  have hcfg := mode_ne_cfgFault_of_running hrunning
  refine ⟨⟨_, rfl, ?scale⟩, _, rfl, ?baseline⟩
  case scale =>
    obtain ⟨hrecords, hreports, hkept, hservo, hcontrol, hseq⟩ :=
      h.adoptedAs 7#8 hcfg (action := State.decideScale d) (u := (s.seeEpoch d.epoch).writeScale (directiveScale d)) rfl rfl rfl rfl
    exact ⟨hrecords, hreports, hkept, hservo, hcontrol, hseq⟩
  case baseline =>
    obtain ⟨hrecords, hreports, hkept, hservo, hcontrol, hseq⟩ :=
      h.adoptedAs 6#8 hcfg (action := State.decideBaseline)
        (u := { s.seeEpoch d.epoch with cracks := s.cracks.rebase s.settings.sites }) rfl rfl rfl rfl
    obtain ⟨hclock, hscanner, hrecorder, hcracks, hrest⟩ := hkept
    refine ⟨hrecords, hreports, ⟨hclock, hscanner, hrecorder, rfl, hrest⟩, hservo, hcontrol, hseq, ?_, ?_, fun k c r hc hr => ?_⟩
    · exact (congrArg Cracks.level hcracks :)
    · exact (congrArg Cracks.sensorFault hcracks :)
    · show (s.directive 6#8 d State.decideBaseline).cracks.sites[k]? = _
      rw [hcracks]
      show (List.zipWith Site.rebase s.settings.sites s.cracks.sites)[k]? = _
      rw [List.getElem?_zipWith, hc, hr]
      rfl

/-! ## RUN: the checks (R133, R134) -/

theorem execRun_of_entry {entry : Entry} (first : Bool) (hentry : Entry.ofCode d.entry.toNat = some entry) :
    exec (.run d first) s = .next (s.directive 1#8 d (State.decideRun d entry first)) := by
  show execRun d first s = _
  rw [execRun, hentry]

theorem entry_ofCode {n : Nat} (h : n = 1 ∨ n = 2) : Entry.ofCode n = some (if n = 1 then .resume else .restart) := by
  obtain rfl | rfl := h <;> rfl

/-- A RUN passes the checks of the programme, the cutoff and the alarm level (R133). -/
structure State.Passes (d : Directive) (s : State) : Prop where
  programme : d.programme = s.settings.programme
  opened : s.servo.cutoff = false
  alarm : ¬ (s.settings.policyFor s.peers.groupAlarm ≠ .note ∧ min d.accept.toNat 3 < s.peers.groupAlarm)

theorem alarmForbids_eq (d : Directive) (s : State) : s.alarmForbids (directiveAccept d)
    = decide (s.settings.policyFor s.peers.groupAlarm ≠ .note ∧ min d.accept.toNat 3 < s.peers.groupAlarm) :=
  (Bool.decide_and _ _).symm

/-- R134: such a RUN is refused where the mode has no target. -/
theorem decideRun_of_refused {entry : Entry} {o : DirectiveOutcome} (first : Bool) (h : s.Passes d)
    (htarget : s.runTarget entry = .inr o) : s.decideRun d entry first = s.refuse o := by
  unfold State.decideRun
  rw [if_neg (not_not.mpr h.programme), h.opened, if_neg Bool.false_ne_true, alarmForbids_eq, decide_eq_false h.alarm,
    if_neg Bool.false_ne_true, htarget]

/-- R133: and adopted into its target where it has one. -/
theorem decideRun_of_target {entry : Entry} {m : Mode} (first : Bool) (h : s.Passes d) (htarget : s.runTarget entry = .inl m) :
    s.decideRun d entry first = ((s.engage d entry).runInto m first).adopt := by
  unfold State.decideRun
  rw [if_neg (not_not.mpr h.programme), h.opened, if_neg Bool.false_ne_true, alarmForbids_eq, decide_eq_false h.alarm,
    if_neg Bool.false_ne_true, htarget]

/-- R134: a RUN that completes no position is refused. -/
theorem runTarget_of_complete (hmode : s.control.mode = .standby) (h : s.seq.state = .idle ∨ s.seq.complete = true) :
    s.runTarget .resume = .inr .refusedComplete := by
  unfold State.runTarget
  rw [hmode]
  exact if_pos h

/-- R134: the modes in which a RUN is refused. -/
theorem runTarget_of_mode {entry : Entry} (h : s.control.mode = .ascent ∨ s.control.mode = .run ∨ s.control.mode = .descent
    ∨ s.control.mode = .tripped ∨ (s.control.mode = .parked ∧ entry = .restart)) : s.runTarget entry = .inr .refusedMode := by
  unfold State.runTarget
  obtain hm | hm | hm | hm | ⟨hm, rfl⟩ := h <;> rw [hm]

/-- Settles O40: the first check that fails refuses, and a refusal leaves what `State.Refused` says. -/
theorem refusalsComeInOrderAndChangeNothing : Obligations.RefusalsComeInOrderAndChangeNothing := by
  refine ⟨?run, ?others⟩
  case run =>
    intro first d s h hentry m programme cutoff alarm complete mode
    have hexec := execRun_of_entry (s := s) first (entry_ofCode hentry)
    refine ⟨fun hm => ⟨_, hexec, h.refused_of_cfgFault _ _ hm⟩, fun hm hprogramme => ⟨_, hexec, h.refused _ hm ?_ (by decide)⟩,
      fun hm hprogramme hcutoff => ⟨_, hexec, h.refused _ hm ?_ (by decide)⟩,
      fun hm hprogramme hcutoff halarm => ⟨_, hexec, h.refused _ hm ?_ (by decide)⟩,
      fun hprogramme hcutoff halarm hcomplete => ⟨_, hexec, h.refused _ ?_ ?_ (by decide)⟩,
      fun hprogramme hcutoff halarm hmode => ⟨_, hexec, h.refused _ ?_ ?_ (by decide)⟩⟩
    · exact if_pos hprogramme
    · unfold State.decideRun
      rw [if_neg (show ¬ d.programme ≠ (s.seeEpoch d.epoch).settings.programme from hprogramme)]
      exact if_pos hcutoff
    · have hforbids : (s.seeEpoch d.epoch).alarmForbids (directiveAccept d) = true := (alarmForbids_eq d _).trans (decide_eq_true halarm)
      unfold State.decideRun
      rw [if_neg (show ¬ d.programme ≠ (s.seeEpoch d.epoch).settings.programme from hprogramme),
        if_neg (show ¬ (s.seeEpoch d.epoch).servo.cutoff = true from hcutoff), if_pos hforbids]
    · obtain ⟨hm, -⟩ := hcomplete
      exact fun hc => Mode.noConfusion (hm.symm.trans hc)
    · obtain ⟨hm, hresume, hplace⟩ := hcomplete
      rw [if_pos hresume]
      exact decideRun_of_refused first ⟨not_not.mp hprogramme, Bool.eq_false_iff.mpr hcutoff, halarm⟩ (runTarget_of_complete hm hplace)
    · intro hc
      have hm : m = .cfgFault := hc
      simp [mode, hm] at hmode
    · refine decideRun_of_refused first ⟨not_not.mp hprogramme, Bool.eq_false_iff.mpr hcutoff, halarm⟩ (runTarget_of_mode ?_)
      refine hmode.imp_right (.imp_right (.imp_right (.imp_right fun hparked => ⟨hparked.1, ?_⟩)))
      rw [hparked.2]
      rfl
  case others =>
    intro d s i h hcfg hi
    simp only [List.mem_cons, List.not_mem_nil, or_false] at hi
    obtain rfl | rfl | rfl | rfl | rfl | rfl := hi <;> exact ⟨_, rfl, h.refused_of_cfgFault _ _ hcfg⟩

end Sys2Proof.Machine
end

section
/-! O38, O39 and the second half of O60: an adopted RUN. -/

namespace Sys2Proof.Machine

variable {s t u r : State} {d : Directive} {q : Sequencer} {tab : List Segment}

/-! ## The mode of an adopted RUN (R134) -/

/-- The mode that a RUN is adopted into. -/
def State.runMode (s : State) : Mode := if s.control.mode = .hold ∧ 4096000 ≤ s.control.qAcc then .run else .ascent

theorem q_full_iff (s : State) : Config.full ≤ s.q ↔ 4096000 ≤ s.control.qAcc := by
  unfold State.q Config.full Config.accUnit
  omega

theorem runMode_of_hold (h : s.control.mode = .hold) : s.runMode = if Config.full ≤ s.q then .run else .ascent := by
  unfold State.runMode
  simp only [h, true_and, q_full_iff]

theorem runMode_of_other (h : s.control.mode ≠ .hold) : s.runMode = .ascent := if_neg fun hm => h hm.1

theorem runTarget_of_hold {entry : Entry} (h : s.control.mode = .hold) : s.runTarget entry = .inl s.runMode := by
  rw [runMode_of_hold h]
  unfold State.runTarget
  rw [h]
  dsimp only
  split <;> rfl

theorem runTarget_resume (h : (s.control.mode = .standby ∧ s.seq.state ≠ .idle ∧ s.seq.complete = false) ∨ s.control.mode = .parked
    ∨ s.control.mode = .hold) : s.runTarget .resume = .inl s.runMode := by
  obtain ⟨hm, hidle, hcomplete⟩ | hm | hm := h
  · rw [runMode_of_other (by rw [hm]; exact Mode.noConfusion)]
    unfold State.runTarget
    rw [hm]
    exact if_neg fun h => h.elim hidle fun h => Bool.false_ne_true (hcomplete.symm.trans h)
  · rw [runMode_of_other (by rw [hm]; exact Mode.noConfusion)]
    unfold State.runTarget
    rw [hm]
  · exact runTarget_of_hold hm

theorem runTarget_restart (h : s.control.mode = .standby ∨ s.control.mode = .hold) : s.runTarget .restart = .inl s.runMode := by
  obtain hm | hm := h
  · rw [runMode_of_other (by rw [hm]; exact Mode.noConfusion)]
    unfold State.runTarget
    rw [hm]
  · exact runTarget_of_hold hm

theorem runMode_cases (s : State) : s.runMode = .run ∨ s.runMode = .ascent := by
  unfold State.runMode
  split
  · exact .inl rfl
  · exact .inr rfl

/-! ## The adoption (R133) -/

/-- The node as the adopted RUN finds it, with what the RUN writes. -/
def State.engaged (d : Directive) (entry : Entry) (s : State) : State := (s.seeEpoch d.epoch).engage d entry

/-- R40: what the change of mode and the examination leave of the line unit, the clamp flag and the refusal count. -/
theorem runInto_frame (m : Mode) (first : Bool) (r : State) :
    (r.runInto m first).line = { r.line with prompt := (r.runInto m first).line.prompt }
      ∧ (r.runInto m first).servo.clampFlag = r.servo.clampFlag ∧ (r.runInto m first).control.refusals = r.control.refusals
      ∧ r.RecordsKept (r.runInto m first) := by
  have hchange (v : State) : (v.changeMode m).line = { v.line with prompt := (v.changeMode m).line.prompt }
      ∧ (v.changeMode m).servo.clampFlag = v.servo.clampFlag ∧ (v.changeMode m).control.refusals = v.control.refusals := by
    obtain h | ⟨-, -, h⟩ := changeMode_cases m v <;> rw [h]
    · exact ⟨rfl, Servo.enter_clampFlag m v.servo, rfl⟩
    · exact ⟨rfl, Servo.enter_clampFlag m v.servo, rfl⟩
  have hexamine (v : State) : v.examineBarrier.control.refusals = v.control.refusals := by
    obtain h | ⟨-, -, h⟩ := examineBarrier_cases v <;> rw [h]
    unfold State.withSequencer
    split
    · obtain ⟨-, h⟩ | ⟨-, h⟩ := holdRequest_cases { v with seq := (v.seq.passOn v.settings.segments false v.control.mode).1 } <;> rw [h]
      obtain h | ⟨-, -, h⟩ := changeMode_cases .hold { v with seq := (v.seq.passOn v.settings.segments false v.control.mode).1 } <;> rw [h]
      · rfl
      · rfl
    · rfl
  unfold State.runInto
  cases first with
  | true =>
    have hheeds := examineBarrier_heeds r
    obtain ⟨hline, hclamp, hrefusals⟩ := hchange r.examineBarrier
    rw [if_pos rfl]
    refine ⟨?_, hclamp.trans hheeds.clamp, hrefusals.trans (hexamine r), (examineBarrier_keeps r).trans (changeMode_keeps m _)⟩
    rw [hline, hheeds.line]
  | false =>
    have hheeds := examineBarrier_heeds (r.changeMode m)
    obtain ⟨hline, hclamp, hrefusals⟩ := hchange r
    rw [if_neg Bool.false_ne_true]
    refine ⟨?_, hheeds.clamp.trans hclamp, (hexamine _).trans hrefusals, (changeMode_keeps m r).trans (examineBarrier_keeps _)⟩
    rw [hheeds.line, hline]

theorem run_adoptedAs {entry : Entry} {m : Mode} (first : Bool) (h : s.Adopts d) (hentry : Entry.ofCode d.entry.toNat = some entry)
    (hpasses : s.Passes d) (htarget : s.runTarget entry = .inl m) :
    ∃ t, exec (.run d first) s = .next t ∧ s.AdoptedAs d ((s.engaged d entry).runInto m first) t := by
  refine ⟨_, execRun_of_entry first hentry, ?_⟩
  obtain ⟨-, hmode⟩ := runTarget_inl htarget
  have hcfg : s.control.mode ≠ .cfgFault := fun hc => by rw [hc] at hmode; simp at hmode
  obtain ⟨hline, hclamp, hrefusals, -⟩ := runInto_frame m first (s.engaged d entry)
  exact h.adoptedAs 1#8 hcfg (decideRun_of_target (s := s.seeEpoch d.epoch) first ⟨hpasses.programme, hpasses.opened, hpasses.alarm⟩ htarget)
    hline hclamp hrefusals

/-! ## Where no barrier waits -/

theorem enter_state {m : Mode} (h : (q.enter tab m).state = .barrier) : q.state = .barrier := by
  unfold Sequencer.enter Sequencer.start at h
  split at h
  · split at h
    · split at h <;> first | exact h | exact SeqState.noConfusion h
    · exact h
  all_goals exact h

theorem runInto_of_not_barrier {m : Mode} (first : Bool) (hopen : r.servo.cutoff = false) (hseq : r.seq.state ≠ .barrier) :
    r.runInto m first = r.enterMode m := by
  unfold State.runInto
  split
  · rw [examineBarrier_of_not_barrier hseq, changeMode_of_open m hopen]
  · rw [changeMode_of_open m hopen]
    exact examineBarrier_of_not_barrier fun h => hseq (enter_state h)

/-- R127, R131, R142: the mode controller as the entry to RUN or ASCENT leaves it. -/
theorem enter_runMode_control {m : Mode} (hm : m = .run ∨ m = .ascent) (c : Control) (timeout g a : Nat) :
    Control.enter timeout g m { c with accept := a } = { c with
      mode := m, accept := a, qAcc := if m = .run then 4096000 else c.qAcc
      release := if m = .run then none else some (timeout * 1000000)
      released := false, alarm := decide (2 ≤ g) } := by
  obtain rfl | rfl := hm <;> simp [Control.enter, qAtEntry, releaseAtEntry, alarmPin, Config.accFull]

theorem passes_of {d : Directive} (hprogramme : d.programme = s.settings.programme) (hopen : s.servo.cutoff = false)
    (halarm : s.settings.policyFor s.peers.groupAlarm = .note ∨ s.peers.groupAlarm ≤ min d.accept.toNat 3) : s.Passes d :=
  ⟨hprogramme, hopen, fun h => halarm.elim h.1 fun hle => absurd h.2 (Nat.not_lt.mpr hle)⟩

theorem servo_enter_of_runMode {m : Mode} (hm : m = .run ∨ m = .ascent) (v : Servo) : v.enter m = v := by
  obtain rfl | rfl := hm <;> rfl

/-- Settles O38: the position is kept, and starts at the entry to RUN where it is not started. -/
theorem aRunResumesTheProgramme : Obligations.ARunResumesTheProgramme := by
  intro first d s h hentry hprogramme hopen halarm hseq hmode target
  have hresume : Entry.ofCode d.entry.toNat = some .resume := by rw [hentry]; rfl
  have htarget : s.runMode = target := rfl
  have hm := runMode_cases s
  obtain ⟨t, hexec, hadopted⟩ := run_adoptedAs first h hresume (passes_of hprogramme hopen halarm) (runTarget_resume hmode)
  rw [runInto_of_not_barrier (r := s.engaged d .resume) first hopen hseq] at hadopted
  rw [htarget] at hm hadopted
  obtain ⟨hrecords, hreports, hkept, hservo, hcontrol, hseq'⟩ := hadopted
  refine ⟨t, hexec, hrecords, hreports, hkept, ?_, hcontrol.trans (enter_runMode_control hm ..), ?_⟩
  · have hsame : (State.enterMode target (s.engaged d .resume)).servo = s.servo := servo_enter_of_runMode hm _
    rwa [hsame] at hservo
  · obtain hrun | hascent := hm
    · have hentered : t.seq = (s.engaged d .resume).entered := by
        rw [hseq', hrun]
        exact enterRun_eq (s.engaged d .resume)
      rw [hentered]
      unfold State.entered
      by_cases hwaits : s.seq.state = .active ∧ s.seq.started = false
      · rw [if_pos ⟨hrun, hwaits⟩, if_pos (show (s.engaged d .resume).seq.state = .active ∧ (s.engaged d .resume).seq.started = false from hwaits)]
        cases hbody : s.segment.body <;>
          simp only [show (s.engaged d .resume).segment.body = _ from hbody] <;> first | exact trivial | rfl
      · rw [if_neg fun h => hwaits h.2,
          if_neg (show ¬ ((s.engaged d .resume).seq.state = .active ∧ (s.engaged d .resume).seq.started = false) from hwaits)]
        rfl
    · rw [if_neg fun h => Mode.noConfusion (hascent.symm.trans h.1), hseq', hascent]
      rfl

/-! ## RESTART -/

/-- A position that is started, or waits for its mark, stands at an entry to RUN or ASCENT (R48). -/
theorem enter_of_placed {m : Mode} (hm : m = .run ∨ m = .ascent) (h : ¬ (q.state = .active ∧ q.started = false)) : q.enter tab m = q := by
  obtain rfl | rfl := hm
  · exact if_neg h
  · rfl

theorem start_state_ne_barrier (tab : List Segment) (m : Mode) (h : q.state ≠ .barrier) : (q.start tab false m).state ≠ .barrier := by
  unfold Sequencer.start
  split
  · exact h
  all_goals exact SeqState.noConfusion

/-- R33: a CYCLE that starts away from a mark waits for one. -/
theorem start_of_cycle_unmarked {mean : Int} {a period n soft : Nat} {shape : Shape} (m : Mode)
    (hbody : (segmentAt tab q.index).body = .cycle mean a period shape n soft) :
    q.start tab false m = { q with state := .preCycle, started := false } := by
  unfold Sequencer.start
  rw [hbody]
  exact if_neg Bool.false_ne_true

/-- The position that a RESTART takes up, before segment 0 starts (R47). -/
def State.rewound (d : Directive) (s : State) : Sequencer := { s.seq with
  scaleBuffer := min d.scale.toNat 10000, complete := false, base := if s.control.mode = .standby then s.settings.park else s.seq.base
  state := .active, index := 0, started := false, elapsed := 0, remaining := (segmentAt s.settings.segments 0).count, clean := false }

theorem engaged_restart_seq (d : Directive) (s : State) :
    (s.engaged d .restart).seq = (s.rewound d).start s.settings.segments false s.control.mode := rfl

/-- Settles O39: segment 0 starts from its base, and the entry to the mode finds it started or waiting for its mark. -/
theorem aRunRestartsTheProgramme : Obligations.ARunRestartsTheProgramme := by
  intro first d s h hentry hprogramme hopen halarm hmode target base
  have hrestart : Entry.ofCode d.entry.toNat = some .restart := by rw [hentry]; rfl
  have htarget : s.runMode = target := rfl
  have hm := runMode_cases s
  obtain ⟨t, hexec, hadopted⟩ := run_adoptedAs first h hrestart (passes_of hprogramme hopen halarm) (runTarget_restart hmode)
  have hnot : (s.engaged d .restart).seq.state ≠ .barrier := by
    rw [engaged_restart_seq]
    exact start_state_ne_barrier _ _ SeqState.noConfusion
  rw [runInto_of_not_barrier (r := s.engaged d .restart) first hopen hnot] at hadopted
  rw [htarget] at hm hadopted
  obtain ⟨hrecords, hreports, hkept, hservo, hcontrol, hseq⟩ := hadopted
  have hsame : (State.enterMode target (s.engaged d .restart)).servo = s.servo := servo_enter_of_runMode hm _
  rw [hsame] at hservo
  refine ⟨t, hexec, hrecords, hreports, hkept, hservo, hcontrol.trans (enter_runMode_control hm ..), ?_⟩
  change t.seq = (s.engaged d .restart).seq.enter s.settings.segments target at hseq
  rw [engaged_restart_seq] at hseq
  cases hbody : (segmentAt s.settings.segments 0).body with
  | none => trivial
  | ramp _ _ =>
    rw [hseq, start_of_ramp (q := s.rewound d) false _ hbody, enter_of_placed hm (by simp)]
    simp [State.rewound, Segment.count, hbody, base]
  | dwell _ =>
    rw [hseq, start_of_dwell (q := s.rewound d) false _ hbody, enter_of_placed hm (by simp)]
    simp [State.rewound, Segment.count, hbody, base]
  | cycle _ _ _ _ _ _ =>
    rw [hseq, start_of_cycle_unmarked (q := s.rewound d) _ hbody, enter_of_placed hm (by simp)]
    simp [State.rewound, Segment.count, hbody, base]

end Sys2Proof.Machine
end

section
/-! O60: a barrier that releases at an event of the peer view table, or at an adopted RUN. -/

namespace Sys2Proof.Machine

variable {s t u r : State} {d : Directive} {q : Sequencer} {tab : List Segment}

/-! ## The sequencer of an adopted RUN at a barrier -/

/-- R38, R138: which ends of a segment ask for HOLD. -/
theorem passOn_request_iff (tab : List Segment) (m : Mode) (q : Sequencer) :
    (q.passOn tab false m).2 = true ↔ (segmentAt tab q.index).link = none ∨ (segmentAt tab q.index).pause = true := by
  obtain ⟨hlink, h⟩ | ⟨k, hlink, hpause, h⟩ | ⟨k, hlink, hpause, h⟩ := passOn_cases tab false m q <;> rw [h, hlink]
  · simp
  · simp [hpause]
  · simp [hpause]

theorem examineBarrier_of_unmet (h : s.barrierMet = false) : s.examineBarrier = s := by
  obtain h' | ⟨-, hmet, -⟩ := examineBarrier_cases s
  · exact h'
  · exact absurd (h.symm.trans hmet) Bool.false_ne_true

theorem examineBarrier_of_met (hrunning : s.running = true) (hstate : s.seq.state = .barrier) (hmet : s.barrierMet = true) :
    s.examineBarrier = s.withSequencer (s.seq.passOn s.settings.segments false s.control.mode) := by
  unfold State.examineBarrier Sequencer.examine
  rw [if_pos hrunning, if_pos ⟨hstate, hmet⟩]

theorem moved_start_released {k : Nat} {starts : Bool} (m : Mode) (hlink : s.segment.link = some k)
    (hstarts : ¬ (s.segment.pause = true ∧ starts = false)) :
    s.Released starts ((s.seq.moveTo s.settings.segments k).start s.settings.segments false m) := by
  unfold State.Released
  rw [hlink]
  dsimp only
  rw [if_neg hstarts]
  unfold Sequencer.start Sequencer.moveTo Segment.count
  dsimp only
  cases hbody : (segmentAt s.settings.segments k).body <;> simp

/-- R33: away from a mark the mode has no part in a start. -/
theorem start_unmarked (tab : List Segment) (m n : Mode) (q : Sequencer) : q.start tab false m = q.start tab false n := by
  unfold Sequencer.start
  split <;> rfl

theorem enter_run_of_waiting (hstate : q.state = .active) (hstarted : q.started = false) : q.enter tab .run = q.start tab false .run := by
  show (if _ then _ else _) = _
  exact if_pos ⟨hstate, hstarted⟩

/-- R48: a segment that has just started stands at the entry to RUN. -/
theorem enter_run_of_start {k : Nat} (m : Mode) :
    ((q.moveTo tab k).start tab false m).enter tab .run = (q.moveTo tab k).start tab false m := by
  cases hbody : (segmentAt tab k).body with
  | none =>
    have hnone (n : Mode) : (q.moveTo tab k).start tab false n = q.moveTo tab k := by
      unfold Sequencer.start
      rw [show (segmentAt tab (q.moveTo tab k).index).body = .none from hbody]
    rw [hnone, enter_run_of_waiting rfl rfl, hnone]
  | ramp _ _ =>
    rw [start_of_ramp (q := q.moveTo tab k) false m hbody]
    exact enter_of_placed (.inl rfl) (by simp)
  | dwell _ =>
    rw [start_of_dwell (q := q.moveTo tab k) false m hbody]
    exact enter_of_placed (.inl rfl) (by simp)
  | cycle _ _ _ _ _ _ =>
    rw [start_of_cycle_unmarked (q := q.moveTo tab k) m hbody]
    exact enter_of_placed (.inl rfl) (by simp)

/-- R48: a position that a RUN has released from its barrier, and that its entry to RUN starts where it waits after a pause. -/
theorem passOn_enter_released (m : Mode) : s.Released true ((s.seq.passOn s.settings.segments false m).1.enter s.settings.segments .run) := by
  obtain ⟨hlink, h⟩ | ⟨k, hlink, hpause, h⟩ | ⟨k, hlink, hpause, h⟩ := passOn_cases s.settings.segments false m s.seq <;> rw [h]
  · unfold State.Released State.segment
    rw [hlink, enter_of_placed (.inl rfl) (by simp)]
  · rw [enter_run_of_waiting rfl rfl]
    exact moved_start_released .run hlink fun h => Bool.noConfusion h.2
  · rw [enter_run_of_start]
    exact moved_start_released m hlink fun h => Bool.noConfusion h.2

/-! ## The three outcomes of an adopted RUN at a barrier -/

theorem enter_of_barrier {m : Mode} (hm : m = .run ∨ m = .ascent) (h : q.state = .barrier) : q.enter tab m = q :=
  enter_of_placed hm fun hwaits => SeqState.noConfusion (h.symm.trans hwaits.1)

theorem enterMode_barrierMet {m : Mode} (hm : m = .run ∨ m = .ascent) (hstate : r.seq.state = .barrier) :
    (r.enterMode m).barrierMet = r.barrierMet :=
  barrierMet_congr (t := r.enterMode m) rfl rfl (congrArg Sequencer.index (enter_of_barrier hm hstate))

/-- R40: a barrier whose condition is not met stands through the adoption. -/
theorem runInto_of_unmet {m : Mode} (first : Bool) (hopen : r.servo.cutoff = false) (hmet : r.barrierMet = false)
    (hm : m = .run ∨ m = .ascent) (hstate : r.seq.state = .barrier) : r.runInto m first = r.enterMode m := by
  unfold State.runInto
  rw [changeMode_of_open m hopen]
  have hmet' : (r.enterMode m).barrierMet = false := (enterMode_barrierMet hm hstate).trans hmet
  rw [examineBarrier_of_unmet hmet, examineBarrier_of_unmet hmet', changeMode_of_open m hopen, ite_self]

/-- R40: the examination before the change of mode: the released position enters the mode. -/
theorem runInto_of_met_first {m : Mode} (hopen : r.servo.cutoff = false) (hrunning : r.running = true) (hrun : r.control.mode ≠ .run)
    (hstate : r.seq.state = .barrier) (hmet : r.barrierMet = true) : r.runInto m true =
      { r.enterMode m with seq := (r.seq.passOn r.settings.segments false r.control.mode).1.enter r.settings.segments m } := by
  unfold State.runInto
  rw [if_pos rfl, examineBarrier_of_met hrunning hstate hmet, withSequencer_of_untripped _ (.inl hopen), if_neg fun h => hrun h.2]
  exact changeMode_of_open (s := { r with seq := (r.seq.passOn r.settings.segments false r.control.mode).1 }) m hopen

/-- R40, R138: the examination after the change of mode: in RUN an end or a pause asks for HOLD. -/
theorem runInto_of_met_last {m : Mode} (hopen : r.servo.cutoff = false) (hm : m = .run ∨ m = .ascent)
    (hstate : r.seq.state = .barrier) (hmet : r.barrierMet = true) : r.runInto m false =
      if (r.segment.link = none ∨ r.segment.pause = true) ∧ m = .run then
        State.enterMode .hold { r.enterMode m with seq := (r.seq.passOn r.settings.segments false m).1 }
      else { r.enterMode m with seq := (r.seq.passOn r.settings.segments false m).1 } := by
  have hseq : (r.enterMode m).seq = r.seq := enter_of_barrier hm hstate
  have hrunning : (r.enterMode m).running = true := by obtain rfl | rfl := hm <;> rfl
  have hmet' : (r.enterMode m).barrierMet = true := (enterMode_barrierMet hm hstate).trans hmet
  have hopen' : (r.enterMode m).servo.cutoff = false := by
    show (r.servo.enter m).cutoff = false
    rw [servo_enter_of_runMode hm]
    exact hopen
  unfold State.runInto
  rw [if_neg Bool.false_ne_true, changeMode_of_open m hopen, examineBarrier_of_met hrunning (by rw [hseq]; exact hstate) hmet',
    withSequencer_of_untripped _ (.inl hopen'), hseq]
  exact if_congr (and_congr_left' (passOn_request_iff ..)) rfl rfl

/-! ## O60 -/

theorem passOn_enter_softStep {m n : Mode} (hm : m = .run ∨ m = .ascent) (q : Sequencer) :
    ((q.passOn tab false n).1.enter tab m).softStep = q.softStep := by
  have henter (p : Sequencer) : (p.enter tab m).softStep = p.softStep := by
    obtain rfl | rfl := hm
    · show (if _ then _ else _ : Sequencer).softStep = _
      split
      · exact start_softStep tab .run p
      · rfl
    · rfl
  rw [henter, passOn_softStep]

/-- Settles O60: the events of the table by `settle_of_examined`, the RUN by the order of the examination. -/
theorem aBarrierReleasesWhenItsConditionHolds : Obligations.ABarrierReleasesWhenItsConditionHolds := by
  refine ⟨?_, ?_⟩
  · intro i s hstate hrunning hs hlen hevent
    obtain ⟨source, body, rfl, hline, hready, hsource, hsource', hother, hcode, hcode', hgroup⟩ | ⟨n, hn, hn', rfl, hfresh, hage⟩
      | ⟨n, hn, hn', rfl, hstale, hage⟩ := hevent
    · obtain ⟨m, -, hexec⟩ := execBeatArrival_taken hline hready hsource hsource' hother hcode hcode' hgroup
      have hheeds := arrival_heeds source.toNat m (readBeat body) s
      obtain ⟨p, w, hw, hresponds⟩ := arrival_examines source.toNat m (readBeat body) hs
      rw [hw] at hexec hheeds
      exact ⟨_, hexec, settle_of_examined hs hrunning hstate hresponds hheeds⟩
    · exact ⟨_, execPeerStale_of_expired hn hn' hfresh hage, settle_of_examined hs hrunning hstate
        (formAlarm_responds (s := s.expire n .stale) hs) ((expired_heeds n .stale s).trans (examineBarrier_heeds _))⟩
    · have hheeds := losePeer_heeds n s
      obtain ⟨p, w, hw, hresponds⟩ := losePeer_examines n hs
      have hexec := execPeerLost_of_expired hn hn' hstale hage
      rw [hw] at hexec hheeds
      exact ⟨_, hexec, settle_of_examined hs hrunning hstate hresponds hheeds⟩
  · intro first d s h hentry hprogramme hopen halarm hstate hmode target scaled
    have hresume : Entry.ofCode d.entry.toNat = some .resume := by rw [hentry]; rfl
    have htarget : s.runMode = target := rfl
    have hm := runMode_cases s
    have hplace : (s.control.mode = .standby ∧ s.seq.state ≠ .idle ∧ s.seq.complete = false) ∨ s.control.mode = .parked
        ∨ s.control.mode = .hold := hmode.imp_left fun hmode => ⟨hmode.1, by rw [hstate]; exact SeqState.noConfusion, hmode.2⟩
    obtain ⟨t, hexec, hrecords, hreports, hkept, hservo, hcontrol, hseq⟩ :=
      run_adoptedAs first h hresume (passes_of hprogramme hopen halarm) (runTarget_resume hplace)
    rw [htarget] at hm hkept hservo hcontrol hseq
    have hrecordsKept : s.RecordsKept t := (runInto_frame target first (s.engaged d .resume)).2.2.2.trans hkept
    have hengaged : (s.engaged d .resume).barrierMet = true ↔ s.peers.Clears s.settings.group s.seq.index s.segment.link := barrierMet_iff ..
    have hentered := enter_runMode_control hm s.control s.settings.lockstepTimeout s.peers.groupAlarm (min d.accept.toNat 3)
    refine ⟨t, hexec, hrecords, hreports, hrecordsKept, ?_⟩
    by_cases hmet : s.peers.Clears s.settings.group s.seq.index s.segment.link
    · have hmet' := hengaged.mpr hmet
      have hne : target ≠ .hold := by obtain h | h := hm <;> rw [h] <;> exact Mode.noConfusion
      cases first with
      | true =>
        have hrunning : (s.engaged d .resume).running = true := by
          unfold State.running
          obtain ⟨hm, -⟩ | hm | hm := hmode <;> rw [show (s.engaged d .resume).control.mode = _ from hm]
        have hrun : (s.engaged d .resume).control.mode ≠ .run := by
          obtain ⟨hm, -⟩ | hm | hm := hmode <;> rw [show (s.engaged d .resume).control.mode = _ from hm] <;> exact Mode.noConfusion
        have hinto := runInto_of_met_first (r := s.engaged d .resume) (m := target) hopen hrunning hrun hstate hmet'
        rw [hinto] at hcontrol hseq
        have hcontrol' := hcontrol.trans hentered
        have hmode' : t.control.mode = target := congrArg Control.mode hcontrol'
        refine ⟨by rw [hmode']; exact hcontrol', ?_, fun _ => ⟨?_, ?_⟩, fun h => absurd hmet h⟩
        · rw [hmode', if_neg hne, hseq]
          exact passOn_enter_softStep hm _
        · rw [hseq]
          obtain hrun | hascent := hm
          · rw [hrun, decide_eq_true ⟨rfl, rfl⟩]
            exact passOn_enter_released (s := s.engaged d .resume) _
          · rw [hascent, decide_eq_false fun h => Mode.noConfusion h.2]
            exact passOn_released (s := s.engaged d .resume) _ _
        · rw [hmode', if_neg fun h => Bool.noConfusion h.1]
      | false =>
        have hinto := runInto_of_met_last (r := s.engaged d .resume) hopen hm hstate hmet'
        have hreleased := passOn_released (s := s.engaged d .resume) target
        have hlast : decide (false = true ∧ target = .run) = false := decide_eq_false fun h => Bool.noConfusion h.1
        rw [hlast]
        by_cases hask : ((s.engaged d .resume).segment.link = none ∨ (s.engaged d .resume).segment.pause = true) ∧ target = .run
        · rw [hinto, if_pos hask] at hcontrol hseq
          have hmode' : t.control.mode = .hold := congrArg Control.mode hcontrol
          obtain ⟨hends, hrun⟩ := hask
          refine ⟨?_, ?_, fun _ => ⟨?_, ?_⟩, fun h => absurd hmet h⟩
          · have hheld : t.control = Control.enter s.settings.lockstepTimeout s.peers.groupAlarm .hold
                (Control.enter s.settings.lockstepTimeout s.peers.groupAlarm target { s.control with accept := min d.accept.toNat 3 }) := hcontrol
            rw [hentered, hrun] at hheld
            rw [hmode', hheld, hrun]
            simp [Control.enter, qAtEntry, releaseAtEntry, alarmPin]
          · rw [hmode', if_pos rfl, hseq]
            rfl
          · rw [hseq]
            exact hreleased none
          · rw [hmode', if_pos ⟨rfl, hrun, hends⟩]
        · rw [hinto, if_neg hask] at hcontrol hseq
          have hcontrol' := hcontrol.trans hentered
          have hmode' : t.control.mode = target := congrArg Control.mode hcontrol'
          refine ⟨by rw [hmode']; exact hcontrol', ?_, fun _ => ⟨?_, ?_⟩, fun h => absurd hmet h⟩
          · rw [hmode', if_neg hne, hseq]
            exact passOn_softStep ..
          · rw [hseq]
            exact hreleased _
          · rw [hmode', if_neg fun h => hask ⟨h.2.2, h.2.1⟩]
    · have hunmet := runInto_of_unmet (r := s.engaged d .resume) first hopen (Bool.eq_false_iff.mpr (mt hengaged.mp hmet)) hm hstate
      rw [hunmet] at hcontrol hseq
      have hcontrol' := hcontrol.trans hentered
      have hseq' : t.seq = scaled.seq := hseq.trans (enter_of_barrier hm hstate)
      have hmode' : t.control.mode = target := congrArg Control.mode hcontrol'
      refine ⟨?_, ?_, fun h => absurd h hmet, fun _ => ⟨hseq', hmode'⟩⟩
      · rw [hmode']
        exact hcontrol'
      · rw [hmode', if_neg (by obtain h | h := hm <;> rw [h] <;> exact Mode.noConfusion), hseq']

end Sys2Proof.Machine
end

section
/-! O44: which directives are acted on, and when the seen epoch moves. -/

namespace Sys2Proof.Machine

variable {s t u : State} {d : Directive} {i : Instr}

/-! ## Operations that leave the seen epoch -/

/-- The seen epoch stands. -/
@[reducible] def State.SameEpoch (s t : State) : Prop := t.line.seenEpoch = s.line.seenEpoch

theorem sameEpoch_of_prompt (h : t.line = { s.line with prompt := t.line.prompt }) : s.SameEpoch t := by
  show t.line.seenEpoch = _
  rw [h]

theorem sameEpoch_ite {c : Prop} [Decidable c] (ht : s.SameEpoch t) (hu : s.SameEpoch u) : s.SameEpoch (if c then t else u) := by
  split
  · exact ht
  · exact hu

theorem settle_sameEpoch (s : State) : s.SameEpoch s.settle := by
  obtain ⟨-, h⟩ | ⟨-, h⟩ := settle_cases s <;> rw [h]
  exact (compose_seenEpoch_outcome .prompt s).1

theorem wake_seenEpoch (v : LineUnit) : v.wake.seenEpoch = v.seenEpoch := by
  obtain ⟨h, -⟩ | ⟨-, -, -, h⟩ := wake_cases v <;> rw [h]

theorem trip_sameEpoch (code : TripCode) (s : State) : s.SameEpoch (s.trip code) := by
  obtain ⟨-, h⟩ | ⟨-, h⟩ := trip_cases code s <;> rw [h]
  exact rfl

theorem arrive_sameEpoch (message : List Byte) {handOn : State → State} (h : ∀ v : State, v.SameEpoch (handOn v)) (s : State) :
    s.SameEpoch (s.arrive message handOn) := by
  unfold State.arrive
  split
  · exact (h _).trans rfl
  · exact rfl

theorem duplicateStation_sameEpoch (s : State) : s.SameEpoch s.duplicateStation := by
  unfold State.duplicateStation
  split
  · exact (sameEpoch_of_prompt (respond_withdraws .descent { s with line := s.line.silenced }).line).trans rfl
  · exact rfl

theorem receiveBeat_sameEpoch (source : Nat) (body : List Byte) (s : State) : s.SameEpoch (s.receiveBeat source body) := by
  unfold State.receiveBeat
  split
  · exact duplicateStation_sameEpoch s
  · split
    · split
      · exact sameEpoch_of_prompt (arrival_heeds _ _ _ s).line
      · exact rfl
    · exact rfl

theorem query_sameEpoch (kind : Nat) (q : Query) (content : State → Option (List Byte)) (s : State) :
    s.SameEpoch (s.query kind q content) := by
  refine arrive_sameEpoch _ (fun v => sameEpoch_ite ?_ rfl) s
  have hcount : v.SameEpoch v.countOverrun := by
    unfold State.countOverrun
    exact sameEpoch_ite rfl rfl
  exact (wake_seenEpoch _).trans hcount

theorem takeCodes_sameEpoch (n : Nat) (codes : List Half) {ended : State → State} (s : State) (h : s.SameEpoch (ended s)) :
    s.SameEpoch (s.takeCodes n codes ended) := sameEpoch_ite h (sameEpoch_ite rfl rfl)

theorem startUp_sameEpoch (m : List Byte) (first : Nat) (s : State) : s.SameEpoch (s.endStartUp m first) := by
  obtain ⟨-, -, -, -, hline, -⟩ := readied_spec m first s
  have hput : (s.readied m first).SameEpoch (s.startedUp m first) := by
    rw [startedUp_eq]
    exact sameEpoch_of_prompt (s := s.readied m first) (by
      rw [State.enterMode_line, (putCracks_withdraws (s.readied m first).formed (s.readied m first)).line])
  have hstarted : s.SameEpoch (s.startedUp m first) := hput.trans (by rw [hline]; rfl)
  have hreached : s.SameEpoch (s.reachStandby m first) := (settle_sameEpoch _).trans hstarted
  unfold State.endStartUp
  obtain ⟨-, h⟩ | ⟨-, h⟩ := reportCutoff_cases (s.reachStandby m first) <;> rw [h]
  · exact hreached
  · exact (trip_sameEpoch _ _).trans hreached

/-- The commands that carry a directive of one of the seven actions. -/
def Instr.isDirective : Instr → Bool
  | .run .. | .hold _ | .unload _ | .stop _ | .resetTrip _ | .baseline _ | .scale _ => true
  | _ => false

theorem sameEpoch_of_exec {v : State} (h : exec i s = .next t) (hv : exec i s = .next v) (hsame : s.SameEpoch v) : s.SameEpoch t := by
  rw [h] at hv
  cases hv
  exact hsame

/-- R159: no command but a directive and a reset moves the seen epoch. -/
theorem exec_sameEpoch (h : exec i s = .next t) (hdirective : Instr.isDirective i = false) (hpower : i ≠ .powerOnReset)
    (hpin : i ≠ .resetPinAssert) : s.SameEpoch t := by
  cases i with
  | powerOnReset => exact absurd rfl hpower
  | resetPinAssert => exact absurd rfl hpin
  | run | hold | unload | stop | resetTrip | baseline | scale => exact Bool.noConfusion hdirective
  | resetRelease straps => exact sameEpoch_of_exec h rfl (sameEpoch_ite rfl rfl)
  | imageReadComplete image p =>
    refine sameEpoch_of_exec h rfl (sameEpoch_ite ((settle_sameEpoch _).trans ?_) rfl)
    split
    next code _ =>
      have hchange := changeMode_cases .cfgFault
        { s with startUp := { s.startUp with loader := .ended, fault := code }, line := s.line.open (lineBitUs (imageOf image)) }
      unfold State.failStartUp
      obtain h | ⟨-, -, h⟩ := hchange <;> rw [h] <;> rfl
    next => exact startUp_sameEpoch _ p s
  | servoTick order rawLoad rawDisp =>
    refine sameEpoch_of_exec h rfl ((settle_sameEpoch _).trans ?_)
    have hblocks := sameEpoch_of_prompt (allBlocks_tickMoves (tickOrder order) rawLoad rawDisp s).line
    unfold State.noteMove
    exact sameEpoch_ite hblocks hblocks
  | carrierPeriodStart | cutoffRelease => exact sameEpoch_of_exec h rfl rfl
  | cutoffAssert =>
    refine sameEpoch_of_exec h rfl ((settle_sameEpoch _).trans ?_)
    exact sameEpoch_ite ((trip_sameEpoch _ _).trans rfl) rfl
  | cycleMark first site =>
    refine sameEpoch_of_exec h rfl (sameEpoch_ite ?_ rfl)
    exact (compose_seenEpoch_outcome .mark _).1.trans (sameEpoch_of_prompt (handleMark_withdraws first site s).line)
  | scanPointFire point => exact sameEpoch_of_exec h rfl (sameEpoch_ite rfl rfl)
  | recordComplete codes =>
    refine sameEpoch_of_exec h rfl ?_
    split
    · exact takeCodes_sameEpoch _ codes s rfl
    · exact rfl
  | ladderReadComplete codes =>
    refine sameEpoch_of_exec h rfl ?_
    split
    · exact takeCodes_sameEpoch _ codes s rfl
    · exact rfl
  | beatArrival source body =>
    exact sameEpoch_of_exec h rfl (arrive_sameEpoch _ (fun v => (settle_sameEpoch _).trans (receiveBeat_sameEpoch _ body v)) s)
  | replyReceived source body => exact sameEpoch_of_exec h rfl (arrive_sameEpoch _ (fun v => rfl) s)
  | receiveDiscard error =>
    cases error with
    | unfinished characters => exact sameEpoch_of_exec h rfl (sameEpoch_ite rfl rfl)
    | parity | framing | tooLong | rejected => exact sameEpoch_of_exec h rfl (sameEpoch_ite rfl rfl)
  | receiveGapExpiry => exact sameEpoch_of_exec h rfl (sameEpoch_ite rfl rfl)
  | peerStale n =>
    refine sameEpoch_of_exec h rfl (sameEpoch_ite ((settle_sameEpoch _).trans ?_) rfl)
    exact sameEpoch_of_prompt ((expired_heeds n .stale s).trans (examineBarrier_heeds _)).line
  | peerLost n =>
    refine sameEpoch_of_exec h rfl (sameEpoch_ite ((settle_sameEpoch _).trans ?_) rfl)
    exact sameEpoch_of_prompt (losePeer_heeds n s).line
  | lockstepRelease => exact sameEpoch_of_exec h rfl (sameEpoch_ite rfl rfl)
  | intervalBeat => exact sameEpoch_of_exec h rfl (sameEpoch_ite (compose_seenEpoch_outcome .interval s).1 rfl)
  | channel q | histLo q | histHi q | crack q | segment q | counters q | peer q | queryUnknownKind kind q =>
    exact sameEpoch_of_exec h rfl (query_sameEpoch _ q _ s)
  | transmitStart =>
    refine sameEpoch_of_exec h rfl ?_
    split <;> exact rfl
  | transmitComplete =>
    refine sameEpoch_of_exec h rfl ?_
    split
    · exact wake_seenEpoch _
    · exact rfl
  | collision bit =>
    refine sameEpoch_of_exec h rfl ?_
    split
    · exact sameEpoch_ite rfl rfl
    · exact rfl
  | jamEnd =>
    refine sameEpoch_of_exec h rfl ?_
    split
    · exact sameEpoch_ite (wake_seenEpoch _) rfl
    · exact rfl
  | backoffEnd =>
    refine sameEpoch_of_exec h rfl ?_
    split <;> exact rfl
  | lineStuck =>
    refine sameEpoch_of_exec h rfl ?_
    split <;> exact rfl
  | lineStuckRelease => exact sameEpoch_of_exec h rfl (sameEpoch_ite (wake_seenEpoch _) rfl)
  | receiveAssemblerReady => exact sameEpoch_of_exec h rfl (sameEpoch_ite rfl rfl)
  | directiveUnknownAction action d => exact sameEpoch_of_exec h rfl (arrive_sameEpoch _ (fun v => rfl) s)

/-! ## Directives -/

/-- R158: whether a directive is addressed to the node, in the words of the statements. -/
theorem addressed_iff (d : Directive) (s : State) : s.addressed d = true ↔ (17 ≤ d.source.toNat ∧ d.source.toNat ≤ 30)
    ∧ (if s.settings.group = 0 then d.mask.toNat % 16 ≠ 0 else d.mask.toNat % 16 / 2 ^ (s.settings.group - 1) % 2 = 1) := by
  unfold State.addressed maskNames bitOf consoleStation
  rw [Bool.and_eq_true, decide_eq_true_eq]
  split <;> rw [decide_eq_true_eq]

theorem newerEpoch_iff (n o : Half) : newerEpoch n o = true ↔ 1 ≤ (n - o).toNat ∧ (n - o).toNat ≤ 32767 := decide_eq_true_iff

/-- R159: the seen epoch stands, or gives way to a newer one. -/
def State.MovesEpoch (s t : State) : Prop :=
  s.SameEpoch t ∨ ∀ o, s.line.seenEpoch = some o → ∃ n, t.line.seenEpoch = some n ∧ newerEpoch n o = true

theorem directive_movesEpoch (code : Byte) (d : Directive) {action : State → Decision}
    (haction : ∀ v : State, v.SameEpoch (action v).2) (s : State) : s.MovesEpoch (s.directive code d action) := by
  unfold State.directive State.arrive
  split
  · dsimp only
    split
    · unfold State.judgeEpoch
      split
      next hnone => exact .inr fun o ho => absurd (ho.symm.trans hnone) (Option.some_ne_none o)
      next o ho =>
        split
        next hnewer =>
          refine .inr fun o' ho' => ⟨d.epoch, ?_, ?_⟩
          · have hjudged (v : State) : v.SameEpoch (v.judge action).2 := by
              unfold State.judge
              split
              · exact rfl
              · exact haction v
            rw [settle_sameEpoch]
            exact hjudged _
          · cases ho.symm.trans ho'
            exact hnewer
        next => exact .inl (settle_sameEpoch _)
    · exact .inl rfl
  · exact .inl rfl

theorem changeMode_sameEpoch (m : Mode) (s : State) : s.SameEpoch (s.changeMode m) := by
  obtain h | ⟨-, -, h⟩ := changeMode_cases m s <;> rw [h] <;> exact rfl

theorem decideRun_sameEpoch (d : Directive) (entry : Entry) (first : Bool) (v : State) : v.SameEpoch (v.decideRun d entry first).2 := by
  unfold State.decideRun
  repeat' split
  · exact rfl
  · exact rfl
  · exact rfl
  · exact rfl
  · exact sameEpoch_of_prompt (s := v.engage d entry) (runInto_frame _ first _).1

/-- R159: a directive moves the seen epoch to a newer one, or not at all. -/
theorem exec_movesEpoch (h : exec i s = .next t) (hdirective : Instr.isDirective i = true) : s.MovesEpoch t := by
  have hends {v : State} (hv : exec i s = .next v) (hmoves : s.MovesEpoch v) : s.MovesEpoch t := by
    rw [h] at hv
    cases hv
    exact hmoves
  cases i with
  | run d first =>
    refine hends rfl ?_
    split
    · exact directive_movesEpoch 1#8 d (decideRun_sameEpoch d _ first) s
    · exact .inl (arrive_sameEpoch _ (fun v => rfl) s)
  | hold d =>
    refine hends rfl (directive_movesEpoch 2#8 d (fun v => ?_) s)
    rw [decideHold_eq]
    split
    · exact changeMode_sameEpoch _ v
    · exact rfl
  | unload d =>
    refine hends rfl (directive_movesEpoch 3#8 d (fun v => ?_) s)
    rw [decideUnload_eq]
    split
    · exact changeMode_sameEpoch _ v
    · exact rfl
  | stop d =>
    refine hends rfl (directive_movesEpoch 4#8 d (fun v => ?_) s)
    unfold State.decideStop
    split
    · exact changeMode_sameEpoch _ v
    · exact rfl
  | resetTrip d =>
    refine hends rfl (directive_movesEpoch 5#8 d (fun v => ?_) s)
    unfold State.decideResetTrip
    split
    · exact rfl
    · split
      · exact rfl
      · exact changeMode_sameEpoch .standby { v with control := { v.control with trip := .none } }
  | baseline d => exact hends rfl (directive_movesEpoch 6#8 d (fun v => rfl) s)
  | scale d => exact hends rfl (directive_movesEpoch 7#8 d (fun v => rfl) s)
  | _ => exact Bool.noConfusion hdirective

end Sys2Proof.Machine
end

section
/-! O44, put together. -/

namespace Sys2Proof.Machine

variable {s t u : State} {d : Directive} {i : Instr}

/-! ## A message that ends none in progress -/

/-- The line unit is ready for a message: it is on the line, with its assembler free (R146). -/
def State.Ready (s : State) : Prop := (s.line.line = .active ∨ s.line.line = .listenOnly) ∧ s.line.assembler = .ready

theorem arrive_of_untaken (message : List Byte) (handOn : State → State) (huntaken : ∀ l, s.line.assembler ≠ .taking l) :
    (s.Ready ∧ s.arrive message handOn = handOn s) ∨ (¬ s.Ready ∧ s.arrive message handOn = s) := by
  by_cases hready : s.Ready
  · exact .inl ⟨hready, arrive_of_ready message handOn hready.1 hready.2⟩
  · refine .inr ⟨hready, if_neg fun hreceives => hready ?_⟩
    obtain ⟨hline, haccepts⟩ := (Bool.and_eq_true _ _).mp hreceives
    rw [Bool.or_eq_true, decide_eq_true_eq, decide_eq_true_eq] at hline
    refine ⟨hline, ?_⟩
    cases hassembler : s.line.assembler with
    | ready => rfl
    | taking l => exact absurd hassembler (huntaken l)
    | off | waiting =>
      rw [hassembler] at haccepts
      exact Bool.noConfusion haccepts

theorem arrive_id_of_untaken (message : List Byte) (huntaken : ∀ l, s.line.assembler ≠ .taking l) : s.arrive message id = s := by
  obtain ⟨-, h⟩ | ⟨-, h⟩ := arrive_of_untaken message id huntaken <;> rw [h]
  rfl

/-- The meaning of the seven actions, but for a RUN of no entry. -/
theorem exec_of_isDirective (h : i ∈ [.run d first, .hold d, .unload d, .stop d, .resetTrip d, .baseline d, .scale d])
    (hentry : i = .run d first → d.entry.toNat = 1 ∨ d.entry.toNat = 2) :
    ∃ code action, ∀ v, exec i v = .next (v.directive code d action) := by
  simp only [List.mem_cons, List.not_mem_nil, or_false] at h
  obtain rfl | rfl | rfl | rfl | rfl | rfl | rfl := h
  · exact ⟨_, _, fun v => execRun_of_entry first (entry_ofCode (hentry rfl))⟩
  all_goals exact ⟨_, _, fun v => rfl⟩

theorem entry_ofCode_none {n : Nat} (h : ¬ (n = 1 ∨ n = 2)) : Entry.ofCode n = none := by
  unfold Entry.ofCode
  split <;> first | rfl | exact absurd (by decide) h

theorem directive_of_unaddressed (code : Byte) (action : State → Decision) (huntaken : ∀ l, s.line.assembler ≠ .taking l)
    (h : s.addressed d = false) : s.directive code d action = s := by
  unfold State.directive
  obtain ⟨-, h'⟩ | ⟨-, h'⟩ := arrive_of_untaken (directiveMessage code d)
    (fun t => if t.addressed d then (t.judgeEpoch d.epoch action).settle else t) huntaken <;> rw [h']
  simp only [h, Bool.false_eq_true, if_false]

/-- R159: an epoch that is not newer is no event. -/
theorem directive_of_stale (code : Byte) (action : State → Decision) {o : Half} (huntaken : ∀ l, s.line.assembler ≠ .taking l)
    (hspent : s.line.prompt = false) (hseen : s.line.seenEpoch = some o) (hnewer : newerEpoch d.epoch o = false) :
    s.directive code d action = s := by
  have hjudged : s.judgeEpoch d.epoch action = s := by
    unfold State.judgeEpoch
    rw [hseen]
    dsimp only
    rw [hnewer, if_neg Bool.false_ne_true]
  unfold State.directive
  obtain ⟨-, h⟩ | ⟨-, h⟩ := arrive_of_untaken (directiveMessage code d)
    (fun t => if t.addressed d then (t.judgeEpoch d.epoch action).settle else t) huntaken <;> rw [h]
  rw [hjudged, settle_of_spent hspent, ite_self]

theorem directive_of_first (code : Byte) (action : State → Decision) (hready : s.Ready) (hspent : s.line.prompt = false)
    (haddressed : s.addressed d = true) (hseen : s.line.seenEpoch = none) : s.directive code d action = s.seeEpoch d.epoch := by
  unfold State.directive
  rw [arrive_of_ready _ _ hready.1 hready.2, if_pos haddressed]
  unfold State.judgeEpoch
  rw [hseen]
  exact settle_of_spent hspent

/-- Settles O44: the filter and the epoch decide before any action; and of all commands a directive alone moves the seen epoch, but for
the resets. -/
theorem onlyNewerEpochsAreObeyed : Obligations.OnlyNewerEpochsAreObeyed := by
  refine ⟨?_, ?_⟩
  · intro d s i first action hspent huntaken ready named console entry hi
    refine ⟨fun hbad => ?_, fun hready hconsole hnamed hentry hseen => ?_, fun o hseen hold => ?_, ?_⟩
    · by_cases hentry : i = .run d first → entry
      · obtain ⟨code, act, hexec⟩ := exec_of_isDirective hi hentry
        have hunaddressed : s.addressed d = false := Bool.eq_false_iff.mpr fun haddressed => by
          obtain ⟨hconsole, hnamed⟩ := (addressed_iff d s).mp haddressed
          obtain h | h | ⟨hrun, h⟩ := hbad
          · exact h hconsole
          · exact h hnamed
          · exact h (hentry hrun)
        rw [hexec, directive_of_unaddressed code act huntaken hunaddressed]
      · obtain ⟨rfl, hno⟩ := Classical.not_imp.mp hentry
        show execRun d first s = _
        rw [execRun, entry_ofCode_none hno]
        exact congrArg _ (arrive_id_of_untaken _ huntaken)
    · obtain ⟨code, act, hexec⟩ := exec_of_isDirective hi hentry
      rw [hexec, directive_of_first code act hready hspent ((addressed_iff d s).mpr ⟨hconsole, hnamed⟩) hseen]
      rfl
    · have hstale : newerEpoch d.epoch o = false := Bool.eq_false_iff.mpr fun hnewer => by
        obtain ⟨hlow, hhigh⟩ := (newerEpoch_iff _ _).mp hnewer
        obtain rfl | hold := hold
        · simp at hlow
        · omega
      by_cases hentry : i = .run d first → entry
      · obtain ⟨code, act, hexec⟩ := exec_of_isDirective hi hentry
        rw [hexec, directive_of_stale code act huntaken hspent hseen hstale]
      · obtain ⟨rfl, hno⟩ := Classical.not_imp.mp hentry
        show execRun d first s = _
        rw [execRun, entry_ofCode_none hno]
        exact congrArg _ (arrive_id_of_untaken _ huntaken)
    · exact congrArg _ (arrive_id_of_untaken _ huntaken)
  · intro s t o hseen hstep
    obtain ⟨-, rfl⟩ | ⟨i, rest, hpending, hexec⟩ := step_cases hstep
    · exact .inl hseen
    · by_cases hdirective : Instr.isDirective i = true
      · obtain hsame | hmoves := exec_movesEpoch hexec hdirective
        · exact .inl (hsame.trans hseen)
        · obtain ⟨n, hn, hnewer⟩ := hmoves o hseen
          exact .inr (.inl ⟨n, hn, (newerEpoch_iff n o).mp hnewer⟩)
      · by_cases hpower : i = .powerOnReset
        · subst hpower
          cases hexec
          exact .inr (.inr ⟨rfl, rest, .inl hpending⟩)
        · by_cases hpin : i = .resetPinAssert
          · subst hpin
            cases hexec
            exact .inr (.inr ⟨rfl, rest, .inr hpending⟩)
          · exact .inl ((exec_sameEpoch hexec (Bool.eq_false_iff.mpr hdirective) hpower hpin).trans hseen)

end Sys2Proof.Machine
end

section
/-! O45 and O46: the replies to the queries. -/

namespace Sys2Proof.Machine

variable {s t u : State} {q : Query}

/-! ## The reply that a query leaves (R149, R161) -/

theorem wake_of_reply {v : LineUnit} {r : Reply} (hline : v.line = .active) (hreply : v.replySlot = some r) :
    v.wake = { v with transmitter := if v.transmitter = .idle then .waitGap else v.transmitter } := by
  unfold LineUnit.wake
  by_cases hidle : v.transmitter = .idle
  · rw [if_pos ⟨hline, hidle, by rw [hreply, Option.isSome_some, Bool.or_true]⟩, if_pos hidle]
  · rw [if_neg fun h => hidle h.2.1, if_neg hidle]

/-- R149, R150: a REPLY put into its slot wakes an idle transmitter. -/
theorem putReply_of_active (r : Reply) (hline : s.line.line = .active) : s.putReply r = { s with line := { s.line with
    replySlot := some r, transmitter := if s.line.transmitter = .idle then .waitGap else s.line.transmitter } } :=
  congrArg (fun v => { s with line := v }) (wake_of_reply (v := { s.line with replySlot := some r }) hline rfl)

/-- R161: the overrun of a waiting reply is counted in the line unit alone. -/
theorem countOverrun_eq (s : State) : s.countOverrun = { s with line := { s.line with
    queryOverruns := if s.line.replySlot.isSome then min 255 (s.line.queryOverruns + 1) else s.line.queryOverruns } } := by
  unfold State.countOverrun
  rw [satAdd_eq_min]
  split <;> rfl

theorem query_of_answers (h : s.Answers q) (kind : Nat) (content : State → Option (List Byte)) :
    s.query kind q content = s.replied (BitVec.ofNat 8 kind) q.index (content s.countOverrun) := by
  obtain ⟨hline, hready, hsource, hsource', htarget⟩ := h
  have hasked : s.asked q = true := by simp [State.asked, consoleStation, hsource, hsource', htarget]
  rw [query_of_asked kind q content hline hready hasked]
  generalize content s.countOverrun = c
  rw [countOverrun_eq, putReply_of_active]
  · rfl
  · exact hline

theorem countOverrun_frame (s : State) : s.countOverrun.recorder = s.recorder ∧ s.countOverrun.cracks = s.cracks
    ∧ s.countOverrun.seq = s.seq ∧ s.countOverrun.peers = s.peers ∧ s.countOverrun.settings = s.settings
    ∧ s.countOverrun.control = s.control ∧ s.countOverrun.scanner = s.scanner := by
  rw [countOverrun_eq]
  exact ⟨rfl, rfl, rfl, rfl, rfl, rfl, rfl⟩

/-! ## Queries that are not answered -/

theorem query_of_unasked (kind : Nat) (content : State → Option (List Byte)) (huntaken : ∀ l, s.line.assembler ≠ .taking l)
    (h : q.source.toNat < 17 ∨ 30 < q.source.toNat ∨ q.target.toNat ≠ s.startUp.station ∨ s.line.line = .listenOnly) :
    s.query kind q content = s := by
  have hno : (s.asked q && s.line.line.composes) = false := by
    rw [Bool.and_eq_false_iff, State.asked, Bool.and_eq_false_iff, consoleStation, decide_eq_false_iff_not, decide_eq_false_iff_not]
    obtain h | h | h | h := h
    · exact .inl (.inl (by omega))
    · exact .inl (.inl (by omega))
    · exact .inl (.inr h)
    · exact .inr (by rw [h]; rfl)
  unfold State.query
  obtain ⟨-, h⟩ | ⟨-, h⟩ := arrive_of_untaken (framed queryKind q.source.toNat (queryBody (BitVec.ofNat 8 kind) q))
    (fun t => if t.asked q && t.line.line.composes then
      t.countOverrun.putReply { kind := BitVec.ofNat 8 kind, index := q.index, content := content t.countOverrun } else t)
    huntaken <;> rw [h]
  rw [hno, if_neg Bool.false_ne_true]

/-! ## CHANNEL, HIST_LO and HIST_HI (R92) -/

theorem indexed_of_some {α : Type} {l : List α} {i : Nat} {x : α} (h : l[i]? = some x) (f : α → List Byte) :
    indexed l i f = some (f x) := by rw [indexed, h, Option.map_some]

theorem indexed_of_le {α : Type} {l : List α} {i : Nat} (h : l.length ≤ i) (f : α → List Byte) : indexed l i f = none := by
  rw [indexed, List.getElem?_eq_none h, Option.map_none]

theorem flagByte_eq (b : Bool) : flagByte b = [if b then 1#8 else 0#8] := by cases b <;> rfl

/-- R92: eight bins from a bin on are the eight that a list shows there. -/
theorem histogram_eq {r : Channel} {k : Nat} (h : k + 8 ≤ r.bins.length) :
    r.histogram k = ((r.bins.drop k).take 8).flatMap (bytesOf 4) := by
  have hlist : (List.range 8).map (fun i => r.bins.getD (k + i) 0) = (r.bins.drop k).take 8 := by
    refine List.ext_getElem (by simp; omega) fun i h₁ h₂ => ?_
    have hi : k + i < r.bins.length := by simp at h₁; omega
    simp [List.getElem?_eq_getElem hi]
  rw [Channel.histogram, ← hlist, List.flatMap_map]

/-- Settles O45: the reply is `query_of_answers`, and its content the channel's own record. -/
theorem channelQueriesAreAnswered : Obligations.ChannelQueriesAreAnswered := by
  intro q s hlen
  have hframe := (countOverrun_frame s).1
  refine ⟨fun h => ⟨fun hindex => ?_, fun r hr hbins => ?_⟩, fun h huntaken kind i hi => ?_⟩
  · have hcontent (f : Channel → List Byte) : indexed s.countOverrun.recorder.channels q.index.toNat f = none := by
      rw [hframe]
      exact indexed_of_le (hlen ▸ hindex) f
    have hquery (kind : Nat) (f : Channel → List Byte) :
        s.query kind q (fun t => indexed t.recorder.channels q.index.toNat f) = s.replied (BitVec.ofNat 8 kind) q.index none := by
      rw [query_of_answers h, hcontent]
    exact ⟨congrArg _ (hquery 1 _), congrArg _ (hquery 2 _), congrArg _ (hquery 3 _)⟩
  · have hquery (kind : Nat) (f : Channel → List Byte) :
        s.query kind q (fun t => indexed t.recorder.channels q.index.toNat f) = s.replied (BitVec.ofNat 8 kind) q.index (some (f r)) := by
      rw [query_of_answers h, hframe, indexed_of_some hr]
    refine ⟨congrArg _ ((hquery 1 _).trans ?_), congrArg _ ((hquery 2 _).trans ?_), congrArg _ ((hquery 3 _).trans ?_)⟩
    · rw [Channel.content, flagByte_eq]
    · rw [histogram_eq (by omega), List.drop_zero]
    · rw [histogram_eq (by omega), List.take_of_length_le (by simp; omega)]
  · simp only [List.mem_cons, List.not_mem_nil, or_false] at hi
    obtain rfl | rfl | rfl | rfl | rfl | rfl | rfl | rfl := hi <;> exact congrArg _ (query_of_unasked _ _ huntaken h)

end Sys2Proof.Machine
end

section
/-! O46: the records of CRACK, SEGMENT, COUNTERS and PEER. -/

namespace Sys2Proof.Machine

variable {s t u : State} {q : Query}

/-! ## CRACK (R111, R170) -/

/-- The content of a CRACK reply by what it shows of the reading: whether there is one, whether it is open, and its count. -/
def Site.shownContent (total : Nat) (r : Site) (shown isOpen : Bool) (broken : Nat) : List Byte :=
  bytesOf 1 r.state.code
    ++ bytesOf 1 ((if r.baseline.isSome then 1 else 0) + (if shown then 2 else 0) + (if isOpen then 4 else 0)
      + (if r.refRange.isSome then 8 else 0) + (if r.confirmCycle.isSome then 16 else 0))
    ++ bytesOf 1 (r.baseline.getD 0) ++ bytesOf 1 r.brokenMax ++ bytesOf 1 broken
    ++ bytesOf 4 (if shown then total - r.stamp else 0) ++ bytesOf 2 r.evidence ++ bytesOf 2 r.clears
    ++ bytesOf 2 (r.refRange.getD 0) ++ bytesOf 1 r.captureCount ++ bytesOf 2 r.growth ++ bytesOf 4 (r.confirmCycle.getD 0)

theorem presenceByte_eq (b0 reading isOpen refRange confirm : Bool) : presenceByte b0 reading isOpen refRange confirm =
    (if b0 then 1 else 0) + (if reading then 2 else 0) + (if isOpen then 4 else 0) + (if refRange then 8 else 0) + (if confirm then 16 else 0) := by
  have hbit (b : Bool) (i : Nat) : atBit b i = if b then 2 ^ i else 0 := by cases b <;> simp [atBit]
  simp only [presenceByte, hbit]
  rfl

/-- R170: a site with no reading to show. -/
theorem content_of_unshown {c : SiteConst} {r : Site} (total : Nat) (h : r.shownReading c = none) :
    r.content c total = r.shownContent total false false 0 := by
  unfold Site.content Site.shownContent
  rw [h]
  dsimp only
  rw [presenceByte_eq]
  rfl

theorem content_of_shown {c : SiteConst} {r : Site} {x : Int} (total : Nat) (h : r.shownReading c = some x) :
    r.content c total = r.shownContent total true (decide (c.rOpen ≤ x)) (if c.rOpen ≤ x then 0 else brokenOf c x) := by
  unfold Site.content Site.shownContent
  rw [h]
  dsimp only
  rw [presenceByte_eq]
  simp only [Option.any_some, Option.isSome_some, Option.map_some, Option.getD_some, decide_eq_true_eq, if_true]

theorem shownReading_of_ladder {c : SiteConst} {r : Site} {x : Int} (hreading : r.reading = some x) (hladder : c.ladder.isSome = true) :
    r.shownReading c = some x := by
  unfold Site.shownReading
  rw [hreading]
  exact if_pos hladder

theorem shownReading_of_none {c : SiteConst} {r : Site} (h : r.reading = none ∨ c.ladder = none) : r.shownReading c = none := by
  unfold Site.shownReading
  split
  next x hreading =>
    obtain h | h := h
    · exact absurd (h.symm.trans hreading) (Option.some_ne_none x).symm
    · rw [h]
      rfl
  · rfl

theorem crackContent_countOverrun (i : Nat) (s : State) : s.countOverrun.crackContent i = s.crackContent i := by
  rw [countOverrun_eq]
  rfl

theorem execCrack_of_some {r : Site} (h : s.Answers q) (hr : s.cracks.sites[q.index.toNat]? = some r) :
    exec (.crack q) s = .next (s.replied 4#8 q.index (some (r.content (s.shownSite q.index.toNat) s.recorder.total))) := by
  show execCrack q s = _
  rw [execCrack, query_of_answers h, crackContent_countOverrun, State.crackContent, indexed_of_some hr]

theorem shownSite_of_settings {c : SiteConst} {i : Nat} (hmode : s.control.mode ≠ .cfgFault) (hc : s.settings.sites[i]? = some c) :
    s.shownSite i = c := by
  rw [State.shownSite, if_neg hmode, List.getD_eq_getElem?_getD, hc, Option.getD_some]

/-- R93: a reading below r_intact counts no strand. -/
theorem broken_eq (c : SiteConst) (x : Int) : (if c.rOpen ≤ x then 0 else brokenOf c x) =
    if c.rOpen ≤ x ∨ x < c.rIntact then 0 else min c.strands ((x - c.rIntact + (c.step / 2 : Nat)).toNat / c.step) := by
  unfold brokenOf
  by_cases hopen : c.rOpen ≤ x <;> simp [hopen]

/-- Assumption 7: the free constants of CFG_FAULT name a ladder of at most ten strands. -/
theorem freeSite_broken_le (i : Nat) (x : Int) : brokenOf (freeSite i) x ≤ 10 := by
  unfold brokenOf
  split
  · exact Nat.zero_le _
  · refine (Nat.min_le_left _ _).trans ?_
    show (Config.freeConstant i 1).natAbs % 11 ≤ 10
    omega

/-! ## SEGMENT, COUNTERS and PEER -/

theorem sequencer_content_eq (p : Sequencer) : p.content =
    if p.state = .idle then [255#8, 0#8, 0#8, 0#8, 0#8, 0#8, 0#8, 0#8, 0#8]
    else bytesOf 1 p.index ++ [if p.started then 1#8 else 0#8] ++ bytesOf 1 p.state.code ++ bytesOf 3 p.remaining ++ bytesOf 3 p.elapsed := by
  unfold Sequencer.content Sequencer.shownIndex Sequencer.shownRemaining
  rw [flagByte_eq]
  by_cases hidle : p.state = .idle
  · simp only [hidle, if_true]
    rfl
  · simp [hidle]

theorem peer_content_eq (e : Peer) : e.content =
    bytesOf 1 e.state.code ++ bytesOf 2 (min 65535 (e.ageUs / 1000)) ++ bytesOf 1 e.group ++ bytesOf 1 e.mode.code
      ++ bytesOf 1 (match e.previous with | some m => m.code | none => 0)
      ++ bytesOf 1 (e.ownLevel % 4 * 16 + e.groupLevel % 4) ++ bytesOf 1 e.flags.byte ++ bytesOf 1 e.segIndex
      ++ bytesOf 3 e.remaining ++ bytesOf 2 e.q ++ bytesOf 3 e.period ++ bytesOf 4 e.cycles
      ++ bytesOf 4 (BitVec.ofInt 32 e.offset).toNat ++ [if e.offsetValid then 1#8 else 0#8] := by
  unfold Peer.content Peer.ageMs levelsByte
  rw [flagByte_eq]
  cases e.previous <;> rfl

/-- Settles O46: each reply is `query_of_answers` with the record's content. -/
theorem recordQueriesAreAnswered : Obligations.RecordQueriesAreAnswered := by
  intro q kind s h hsites hconsts hentries
  refine ⟨fun hindex => ?_, ?_, ?_, ?_, fun hindex => ?_, fun e hindex hindex' he => ?_, ?_⟩
  · show execCrack q s = _
    rw [execCrack, query_of_answers h, crackContent_countOverrun, State.crackContent, indexed_of_le (hsites ▸ hindex)]
  · intro c r hc hr content
    refine ⟨fun x hmode hreading hladder => ?_, fun hnone => ?_, fun x hmode hreading => ?_⟩
    · rw [execCrack_of_some h hr, shownSite_of_settings hmode hc, content_of_shown _ (shownReading_of_ladder hreading hladder), broken_eq]
      rfl
    · have hunshown : r.shownReading (s.shownSite q.index.toNat) = none := by
        obtain hnone | ⟨hmode, hladder⟩ := hnone
        · exact shownReading_of_none (.inl hnone)
        · rw [shownSite_of_settings hmode hc]
          exact shownReading_of_none (.inr hladder)
      rw [execCrack_of_some h hr, content_of_unshown _ hunshown]
      rfl
    · have hfree : s.shownSite q.index.toNat = freeSite q.index.toNat := if_pos hmode
      refine ⟨decide ((freeSite q.index.toNat).rOpen ≤ x),
        if (freeSite q.index.toNat).rOpen ≤ x then 0 else brokenOf (freeSite q.index.toNat) x,
        ?_, fun hopen => if_pos (of_decide_eq_true hopen), ?_⟩
      · split
        · exact Nat.zero_le _
        · exact freeSite_broken_le _ x
      · rw [execCrack_of_some h hr, hfree, content_of_shown _ (shownReading_of_ladder hreading rfl)]
        rfl
  · show execSegment q s = _
    rw [execSegment, query_of_answers h, (countOverrun_frame s).2.2.1, sequencer_content_eq]
  · show execCounters q s = _
    rw [execCounters, query_of_answers h, countOverrun_eq]
    rfl
  · have hno : frameStation q.index.toNat = false := Bool.eq_false_iff.mpr fun hstation => by
      obtain ⟨hlow, hhigh⟩ := (frameStation_iff _).mp hstation
      omega
    show execPeer q s = _
    rw [execPeer, query_of_answers h, State.peerContent, hno, if_neg Bool.false_ne_true]
  · have hentry : s.peers.entry q.index.toNat = e := by
      rw [PeerTable.entry, List.getD_eq_getElem?_getD, he, Option.getD_some]
    show execPeer q s = _
    rw [execPeer, query_of_answers h, State.peerContent, if_pos ((frameStation_iff _).mpr ⟨hindex, hindex'⟩),
      (countOverrun_frame s).2.2.2.1, hentry]
    exact congrArg (fun content => Host.Outcome.next (s.replied 7#8 q.index (some content))) (peer_content_eq e)
  · show execQueryUnknownKind kind q s = _
    rw [execQueryUnknownKind, query_of_answers h, BitVec.ofNat_toNat, BitVec.setWidth_eq]

end Sys2Proof.Machine
end

section
/-! O47, O48 and O50: what the transmitter starts, what a collision costs, and the INTERVAL beat. -/

namespace Sys2Proof.Machine

variable {s t u : State}

/-! ## The start of a transmission (R149, R150) -/

theorem execTransmitStart_of_held {h : Held} (hline : s.line.line = .active) (hgap : s.line.transmitter = .waitGap)
    (hheld : s.line.nextHeld = some h) : exec .transmitStart s = .next (s.beginSending h) := by
  show execTransmitStart s = _
  rw [execTransmitStart, hline, hgap, hheld]

/-- What stands in the slots while a message is sent: it takes no slot, or its own. -/
theorem beginSending_eq {h : Held} {beat : Option Beat} {reply : Option Reply} {wire : List Byte}
    (hbeat : (if s.line.takesBeat then none else s.line.beatSlot) = beat)
    (hreply : (if s.line.takesReply then none else s.line.replySlot) = reply) (hwire : s.wireOf h.message = wire) :
    s.beginSending h = { s with line := { s.line with
      held := some h, beatSlot := beat, replySlot := reply, assembler := .waiting
      transmitter := .sending wire (wire.length * (11 * s.line.bitUs)) } } := by
  rw [← hbeat, ← hreply, ← hwire]
  rfl

/-- R61: the deferral, from the mark that the BEAT's cause counts from. -/
theorem deferral_eq (b : Beat) (s : State) :
    s.deferral b = match (if b.cause = .mark then b.markedAt else s.clock.lastMark) with
      | some t => min 65535 (s.now - t)
      | none => 0 := by
  unfold State.deferral State.deferralMark
  generalize (if b.cause = .mark then b.markedAt else s.clock.lastMark) = m
  cases m <;> rfl

theorem wireOf_beat (b : Beat) (s : State) : s.wireOf (.beat b) =
    framed 1 s.startUp.station (b.body (match (if b.cause = .mark then b.markedAt else s.clock.lastMark) with
      | some t => min 65535 (s.now - t)
      | none => 0)) := congrArg (fun n => framed 1 s.startUp.station (b.body n)) (deferral_eq b s)

/-- Settles O47: the four cases of what is held and what waits. -/
theorem theTransmitterStartsFromItsGap : Obligations.TheTransmitterStartsFromItsGap := by
  intro s hline hgap beatWire replyWire sends
  have hstarts {h : Held} {beat : Option Beat} {reply : Option Reply} {wire : List Byte} (hheld : s.line.nextHeld = some h)
      (hbeat : (if s.line.takesBeat then none else s.line.beatSlot) = beat)
      (hreply : (if s.line.takesReply then none else s.line.replySlot) = reply) (hwire : s.wireOf h.message = wire) :
      sends h wire beat reply :=
    (execTransmitStart_of_held hline hgap hheld).trans (congrArg _ (beginSending_eq hbeat hreply hwire))
  have hbeatWire (b : Beat) : s.wireOf (.beat b) = beatWire b := wireOf_beat b s
  refine ⟨fun r n hheld => ?_, fun b hslot hheld => ⟨?_, ?_⟩, fun b n hheld hslot => ?_, fun r hheld hslot hreply => ?_⟩
  · refine hstarts ?_ ?_ ?_ rfl
    · rw [LineUnit.nextHeld, hheld]
    · rw [LineUnit.takesBeat, hheld]
      rfl
    · rw [LineUnit.takesReply, hheld]
      rfl
  · refine hstarts ?_ ?_ ?_ (hbeatWire b)
    · obtain hheld | ⟨a, n, hheld⟩ := hheld <;> rw [LineUnit.nextHeld, hheld, hslot]
    · obtain hheld | ⟨a, n, hheld⟩ := hheld <;> rw [LineUnit.takesBeat, hheld, hslot] <;> rfl
    · rw [LineUnit.takesReply, hslot, Option.isNone_some, Bool.and_false]
      rfl
  · rw [framed_length, Beat.body_length]
  · refine hstarts ?_ ?_ ?_ (hbeatWire b)
    · rw [LineUnit.nextHeld, hheld, hslot]
    · rw [hslot, ite_self]
    · rw [LineUnit.takesReply, hheld]
      rfl
  · refine hstarts ?_ ?_ ?_ rfl
    · rw [LineUnit.nextHeld, hheld, hslot, hreply]
    · rw [hslot, ite_self]
    · rw [LineUnit.takesReply, hheld, hslot]
      rfl

/-! ## Collisions (R150 to R152) -/

/-- R150: a line unit that lets its message go waits for its gap where it is ACTIVE and a slot holds a message. -/
theorem letGo_eq (v : LineUnit) : v.letGo = { v with
    held := none
    transmitter := if v.line = .active ∧ (v.beatSlot.isSome ∨ v.replySlot.isSome) then .waitGap else .idle } := by
  unfold LineUnit.letGo LineUnit.wake
  by_cases h : v.line = .active ∧ (v.beatSlot.isSome ∨ v.replySlot.isSome)
  · rw [if_pos ⟨h.1, rfl, (Bool.or_eq_true _ _).mpr h.2⟩, if_pos h]
  · rw [if_neg fun h' => h ⟨h'.1, (Bool.or_eq_true _ _).mp h'.2.2⟩, if_neg h]

theorem collisions_of_held {v : LineUnit} {h : Held} (hheld : v.held = some h) : v.collisions = h.collisions := by
  rw [LineUnit.collisions, hheld]
  rfl

/-- Settles O48: each command by the state of the transmitter. -/
theorem collisionsJamAndBackOff : Obligations.CollisionsJamAndBackOff := by
  intro s after
  refine ⟨fun wire left hsending => ⟨?_, fun bit h hheld => ⟨fun hbit => ?_, fun hbit => ?_⟩⟩,
    fun left h hjam hheld => ⟨fun hlast => ?_, fun hearlier => ?_⟩, fun left hbackoff => ?_⟩
  · show execTransmitComplete s = _
    rw [execTransmitComplete, hsending]
    exact congrArg (fun v => Host.Outcome.next { s with line := v }) (letGo_eq s.line)
  · show execCollision bit s = _
    rw [execCollision, hsending]
    dsimp only
    rw [List.getD_eq_getElem?_getD, hbit, Option.getD_some, if_pos rfl, hheld]
    rfl
  · show execCollision bit s = _
    rw [execCollision, hsending]
    dsimp only
    rw [List.getD_eq_getElem?_getD, hbit, Option.getD_some, if_neg Bool.false_ne_true]
  · show execJamEnd s = _
    rw [execJamEnd, hjam]
    dsimp only
    rw [collisions_of_held hheld, if_pos (show Config.collisionLimit ≤ h.collisions from hlast.ge), LineUnit.abandon, satAdd_eq_min, letGo_eq]
  · show execJamEnd s = _
    rw [execJamEnd, hjam]
    dsimp only
    rw [collisions_of_held hheld, if_neg (show ¬ Config.collisionLimit ≤ h.collisions from Nat.not_le.mpr hearlier)]
    rfl
  · show execBackoffEnd s = _
    rw [execBackoffEnd, hbackoff]

/-! ## The INTERVAL beat (R156, R157) -/

theorem compose_of_silent (c : Cause) (hline : s.line.line = .off ∨ s.line.line = .listenOnly) (hspent : s.line.prompt = false) :
    s.compose c = s := by
  have hno : s.line.line.composes = false := by obtain h | h := hline <;> rw [h] <;> rfl
  rw [State.compose, hno, if_neg Bool.false_ne_true, ← hspent]

theorem execIntervalBeat_eq (s : State) : exec .intervalBeat s = .next (if s.line.intervalOver then s.compose .interval else s) := rfl

theorem intervalOver_of_some {v : LineUnit} {n : Nat} (hn : v.intervalUs = some n) : v.intervalOver = decide (1000000 ≤ n) := by
  rw [LineUnit.intervalOver, hn]
  rfl

/-- R150: the wake of a line unit whose BEAT slot has just been filled. -/
theorem wake_of_beat {v : LineUnit} {b : Beat} (hbeat : v.beatSlot = some b) :
    v.wake = { v with transmitter := if v.line = .active ∧ v.transmitter = .idle then .waitGap else v.transmitter } := by
  unfold LineUnit.wake
  by_cases h : v.line = .active ∧ v.transmitter = .idle
  · rw [if_pos ⟨h.1, h.2, by rw [hbeat]; rfl⟩, if_pos h]
  · rw [if_neg fun h' => h ⟨h'.1, h'.2.1⟩, if_neg h]

/-- Settles O50: the snapshot is that of R157, and a line that composes nothing, or a timer that is not over, leaves the node as it is. -/
theorem anIntervalBeatIsASnapshot : Obligations.AnIntervalBeatIsASnapshot := by
  intro s hspent
  refine ⟨fun n hn hover hline => ?_, fun h => ?_⟩
  · have hcomposes : s.line.line.composes = true := by obtain h | h := hline <;> rw [h] <;> rfl
    rw [execIntervalBeat_eq, intervalOver_of_some hn, if_pos (decide_eq_true hover), State.compose, if_pos hcomposes, wake_of_beat rfl, ← hspent,
      snapshot_shown]
    rfl
  · rw [execIntervalBeat_eq]
    obtain h | h | h := h
    · rw [compose_of_silent .interval (.inl h) hspent, ite_self]
    · rw [compose_of_silent .interval (.inr h) hspent, ite_self]
    · have hnot : s.line.intervalOver = false := by
        cases hn : s.line.intervalUs with
        | none =>
          rw [LineUnit.intervalOver, hn]
          rfl
        | some n =>
          rw [intervalOver_of_some hn]
          exact decide_eq_false (Nat.not_le.mpr (h n hn))
      rw [hnot, if_neg Bool.false_ne_true]

end Sys2Proof.Machine
end

section
/-! O51: the body of a BEAT reads back. -/

namespace Sys2Proof.Machine

/-! ## Fields one after another -/

/-- The field that a list of bytes begins with. -/
theorem fieldAt_bytesOf_head {k n : Nat} (h : n < 256 ^ k) (r : List Byte) : fieldAt (bytesOf k n ++ r) 0 k = n :=
  fieldAt_bytesOf h [] r

/-- A field behind the first one is read from what follows it. -/
theorem fieldAt_bytesOf_skip {j i : Nat} (h : j ≤ i) (n k : Nat) (r : List Byte) :
    fieldAt (bytesOf j n ++ r) i k = fieldAt r (i - j) k := by
  have hbyte (o : Nat) : byteAt (bytesOf j n ++ r) (i + o) = byteAt r (i - j + o) := by
    rw [byteAt, byteAt, List.getD_append_right _ _ _ _ (by rw [bytesOf_length]; omega), bytesOf_length, Nat.sub_add_comm h]
  simp only [fieldAt, hbyte]

/-! ## The bytes that hold two fields or the flags -/

/-- The parity of a number tells a flag from it. -/
theorem decide_odd_eq {b : Bool} {n : ℕ} (h : n % 2 = b.toNat) : decide (n % 2 = 1) = b := by
  cases b <;> simp [h]

theorem flags_ofByte_byte (f : BeatFlags) : BeatFlags.ofByte f.byte = f := by
  obtain ⟨a, b, c, d, e, g, h⟩ := f
  have := a.toNat_le; have := b.toNat_le; have := c.toNat_le; have := d.toNat_le; have := e.toNat_le; have := g.toNat_le
  have := h.toNat_le
  simp only [BeatFlags.ofByte, BeatFlags.byte, bitOf, atBit]
  congr <;> exact decide_odd_eq (by omega)

theorem flags_byte_lt (f : BeatFlags) : f.byte < 128 := by
  obtain ⟨a, b, c, d, e, g, h⟩ := f
  have := a.toNat_le; have := b.toNat_le; have := c.toNat_le; have := d.toNat_le; have := e.toNat_le; have := g.toNat_le
  have := h.toNat_le
  simp only [BeatFlags.byte, atBit]
  omega

theorem Mode.code_le (m : Mode) : m.code ≤ 8 := by cases m <;> decide

theorem Cause.code_le (c : Cause) : c.code ≤ 3 := by cases c <;> decide

theorem Cause.ofCode_code (c : Cause) : Cause.ofCode c.code = some c := by cases c <;> rfl

theorem Lock.code_le (l : Lock) : l.code ≤ 2 := by cases l <;> decide

theorem DirectiveOutcome.code_le (o : DirectiveOutcome) : o.code ≤ 255 := by cases o <;> decide

theorem causeByte_reads (c : Cause) (l : Lock) : causeCodeOf (causeByte c l) = c.code ∧ lockCodeOf (causeByte c l) = l.code := by
  have := l.code_le
  unfold causeCodeOf lockCodeOf causeByte
  omega

theorem levelsByte_reads {own group : Nat} (hown : own ≤ 3) (hgroup : group ≤ 3) : levelsByte own group = own * 16 + group
    ∧ ownLevelOf (levelsByte own group) = own ∧ groupLevelOf (levelsByte own group) = group := by
  unfold ownLevelOf groupLevelOf levelsByte
  omega

/-! ## The layout -/

/-- The fields of a BEAT's body, one behind another. -/
theorem Beat.body_eq (b : Beat) (deferral : Nat) : b.body deferral =
    bytesOf 1 b.group ++ (bytesOf 1 b.mode.code ++ (bytesOf 1 (levelsByte b.ownLevel b.groupLevel) ++ (bytesOf 1 b.flags.byte
      ++ (bytesOf 1 (causeByte b.cause b.lock) ++ (bytesOf 1 b.segIndex ++ (bytesOf 3 b.remaining ++ (bytesOf 4 b.total
      ++ (bytesOf 2 b.q ++ (bytesOf 3 b.period ++ (bytesOf 2 deferral ++ (bytesOf 2 (BitVec.ofInt 16 b.load).toNat
      ++ (bytesOf 2 (BitVec.ofInt 16 b.command).toNat ++ (bytesOf 2 (BitVec.ofInt 16 b.disp).toNat
      ++ (bytesOf 2 b.epoch.toNat ++ (bytesOf 1 b.outcome.code ++ (bytesOf 1 b.lineErrors
      ++ (bytesOf 1 b.faultCode ++ []))))))))))))))))) := by
  simp only [Beat.body, signedBytes, List.append_assoc, List.append_nil]

/-- Settles O51: each field is the head of what its offset leaves of the body. -/
theorem aBeatReadsBackFromItsBody : Obligations.ABeatReadsBackFromItsBody := by
  intro b deferral hgroup hown hlevel hseg hremaining htotal hq hperiod hdeferral hload hload' hcommand hcommand' hdisp hdisp'
    herrors hfault body
  have hmode := b.mode.code_le
  have hcause := b.cause.code_le
  have hlock := b.lock.code_le
  have houtcome := b.outcome.code_le
  have hflags := flags_byte_lt b.flags
  obtain ⟨hlevels, hownOf, hgroupOf⟩ := levelsByte_reads hown hlevel
  obtain ⟨hcauseOf, hlockOf⟩ := causeByte_reads b.cause b.lock
  have hcauseByte : causeByte b.cause b.lock < 256 ^ 1 := by unfold causeByte; omega
  have hlevelsByte : levelsByte b.ownLevel b.groupLevel < 256 ^ 1 := by omega
  have hword (x : Int) : (BitVec.ofInt 16 x).toNat < 256 ^ 2 := (BitVec.ofInt 16 x).isLt
  have hloadWord := hword b.load
  have hcommandWord := hword b.command
  have hdispWord := hword b.disp
  have hepoch : b.epoch.toNat < 256 ^ 2 := b.epoch.isLt
  refine ⟨Beat.body_length b deferral, ?_, ?_, ?_, ?_, ?_, ?_, ?_, ?_, ?_, ?_, ?_⟩ <;>
    simp (disch := omega) only [readBeat, body, byteAt_eq_fieldAt, Beat.body_eq, fieldAt_bytesOf_skip, fieldAt_bytesOf_head,
        Nat.reduceSub]
  · rw [hownOf, hgroupOf, hcauseOf, hlockOf, flags_ofByte_byte, Cause.ofCode_code]
  · exact hlevels
  · exact hflags
  · rfl
  · exact signed16_ofInt hload hload'
  · exact signed16_ofInt hcommand hcommand'
  · exact signed16_ofInt hdisp hdisp'

end Sys2Proof.Machine
end

section
/-! The CRC of R145 tells apart two messages that differ in one byte. -/

namespace Sys2Proof.Machine

/-! ## One bit into the register -/

/-- A step as a shift and the combination that the bit shifted out decides. -/
theorem crcBit_eq (r : Half) (b : Bool) : crcBit r b = (r <<< 1) ^^^ (if r.msb = b then 0#16 else 0x1021#16) := by
  unfold crcBit
  split
  · rw [BitVec.xor_zero]
  · rfl

theorem getLsbD_crcBit (r : Half) (b : Bool) (i : Nat) : (crcBit r b).getLsbD i =
    ((decide (i < 16) && !decide (i < 1) && r.getLsbD (i - 1)) ^^ (if r.msb = b then 0#16 else 0x1021#16).getLsbD i) := by
  rw [crcBit_eq, BitVec.getLsbD_xor, BitVec.getLsbD_shiftLeft]

/-- The lowest bit after a step says whether the bit shifted out differed from the message bit. -/
theorem getLsbD_crcBit_zero (r : Half) (b : Bool) : (crcBit r b).getLsbD 0 = !decide (r.msb = b) := by
  rw [getLsbD_crcBit]
  by_cases h : r.msb = b <;> simp [h]

/-- Two registers that agree in their lowest bit after a step agreed in whether the bit shifted out differed. -/
theorem msb_eq_iff_of_crcBit {r r' : Half} {b b' : Bool} (h : (crcBit r b).getLsbD 0 = (crcBit r' b').getLsbD 0) :
    r.msb = b ↔ r'.msb = b' := by
  rw [getLsbD_crcBit_zero, getLsbD_crcBit_zero] at h
  simpa using h

/-- Registers that agree in their low bits after a step agreed in all but the last of them before it. -/
theorem getLsbD_of_crcBit {r r' : Half} {b b' : Bool} {n i : Nat} (hn : n + 1 ≤ 16)
    (h : ∀ j < n + 1, (crcBit r b).getLsbD j = (crcBit r' b').getLsbD j) (hi : i < n) : r.getLsbD i = r'.getLsbD i := by
  have hdiffers := msb_eq_iff_of_crcBit (h 0 (by omega))
  have hbit := h (i + 1) (by omega)
  have hhigh : decide (i + 1 < 16) = true := decide_eq_true (by omega)
  have hlow : decide (i + 1 < 1) = false := decide_eq_false (by omega)
  rw [getLsbD_crcBit, getLsbD_crcBit, hhigh, hlow, Nat.add_sub_cancel] at hbit
  simpa [hdiffers] using hbit

/-- A step loses nothing of the register. -/
theorem crcBit_injective (b : Bool) : Function.Injective (crcBit · b) := by
  intro r r' h
  have hbits (j : Nat) : (crcBit r b).getLsbD j = (crcBit r' b).getLsbD j := congrArg (BitVec.getLsbD · j) h
  have hmsb := msb_eq_iff_of_crcBit (hbits 0)
  refine BitVec.eq_of_getLsbD_eq fun i hi => ?_
  by_cases hlast : i = 15
  · have : r.msb = r'.msb := by
      cases hr : r.msb <;> cases hr' : r'.msb <;> cases b <;> simp_all
    subst hlast
    simpa only [BitVec.msb_eq_getLsbD_last] using this
  · exact getLsbD_of_crcBit le_rfl (fun j _ => hbits j) (by omega)

/-! ## Several bits into the register -/

/-- Whatever the `k` bits that led to the same register, the registers before them agree in their low `16 - k` bits. -/
theorem getLsbD_of_foldl_crcBit : ∀ {bits bits' : List Bool} {r r' : Half} {i : Nat}, bits.length = bits'.length →
    bits.foldl crcBit r = bits'.foldl crcBit r' → i + bits.length < 16 → r.getLsbD i = r'.getLsbD i
  | [], [], _, _, _, _, h, _ => congrArg (BitVec.getLsbD · _) h
  | b :: bits, b' :: bits', r, r', i, hlength, h, hi => by
    have hlength' : bits.length = bits'.length := Nat.succ.inj hlength
    rw [List.length_cons] at hi
    refine getLsbD_of_crcBit (n := 15 - bits.length) (b := b) (b' := b') (by omega) (fun j hj => ?_) (by omega)
    exact getLsbD_of_foldl_crcBit hlength' h (by omega)

/-- From one register, no two strings of the same number of bits, 16 at most, lead to the same register. -/
theorem bits_eq_of_foldl_crcBit : ∀ {bits bits' : List Bool} {r : Half}, bits.length = bits'.length → bits.length ≤ 16 →
    bits.foldl crcBit r = bits'.foldl crcBit r → bits = bits'
  | [], [], _, _, _, _ => rfl
  | b :: bits, b' :: bits', r, hlength, hle, h => by
    have hlength' : bits.length = bits'.length := Nat.succ.inj hlength
    rw [List.length_cons] at hle
    have hdiffers := msb_eq_iff_of_crcBit (getLsbD_of_foldl_crcBit hlength' h (i := 0) (by omega))
    have hb : b = b' := by
      cases hr : r.msb <;> cases b <;> cases b' <;> simp_all
    subst hb
    rw [bits_eq_of_foldl_crcBit hlength' (by omega) h]

/-! ## Bytes into the register -/

theorem dataBits_injective : Function.Injective dataBits := by
  intro b b' h
  refine BitVec.eq_of_getLsbD_eq fun i hi => ?_
  have hbit := congrArg (·[i]?) h
  show b.toNat.testBit i = b'.toNat.testBit i
  simpa [dataBits, hi, bitOf_eq_testBit] using hbit

theorem crcByte_injective_register (b : Byte) : Function.Injective (crcByte · b) := by
  suffices h : ∀ bits : List Bool, Function.Injective (bits.foldl crcBit ·) from h _
  intro bits
  induction bits with
  | nil => exact Function.injective_id
  | cons b bits ih => exact ih.comp (crcBit_injective b)

theorem crcByte_injective (r : Half) : Function.Injective (crcByte r) := by
  intro b b' h
  refine dataBits_injective (List.reverse_injective (bits_eq_of_foldl_crcBit ?_ ?_ h)) <;> simp

theorem foldl_crcByte_injective (bytes : List Byte) : Function.Injective (bytes.foldl crcByte ·) := by
  induction bytes with
  | nil => exact Function.injective_id
  | cons b bytes ih => exact ih.comp (crcByte_injective_register b)

/-- Two byte strings with one CRC that differ at one place at most do not differ there. -/
theorem byte_eq_of_crc {l r : List Byte} {b b' : Byte} (h : crc (l ++ b :: r) = crc (l ++ b' :: r)) : b = b' := by
  simp only [crc, List.foldl_append, List.foldl_cons] at h
  exact crcByte_injective _ (foldl_crcByte_injective r h)

end Sys2Proof.Machine
end

section
/-! O52: a framed message is valid, no neighbour of it is, and it arrives as its command. -/

namespace Sys2Proof.Machine

variable {kind source : Nat} {body bytes : List Byte}

/-! ## The bytes of a framed message (section 9.2) -/

theorem headed_eq (kind source : Nat) (body : List Byte) : headed kind source body =
    BitVec.ofNat 8 kind :: BitVec.ofNat 8 source :: BitVec.ofNat 8 body.length :: body := by
  simp [headed, bytesOf]

theorem framed_eq (kind source : Nat) (body : List Byte) : framed kind source body =
    BitVec.ofNat 8 kind :: BitVec.ofNat 8 source :: BitVec.ofNat 8 body.length
      :: (body ++ bytesOf 2 (crc (headed kind source body)).toNat) := by
  rw [framed, headed_eq]
  rfl

theorem byteAt_framed_kind (h : kind ≤ 255) (source : Nat) (body : List Byte) : byteAt (framed kind source body) 0 = kind := by
  rw [framed_eq]
  exact Nat.mod_eq_of_lt (by omega)

theorem getD_framed_source (kind source : Nat) (body : List Byte) : (framed kind source body).getD 1 0 = BitVec.ofNat 8 source := by
  rw [framed_eq]
  rfl

theorem bodyLength_framed (h : body.length ≤ 255) (kind source : Nat) : bodyLength (framed kind source body) = body.length := by
  rw [framed_eq]
  exact Nat.mod_eq_of_lt (by omega)

theorem take_framed (kind source : Nat) (body : List Byte) : (framed kind source body).take (3 + body.length) = headed kind source body :=
  List.take_left' (headed_length kind source body)

theorem drop_framed (kind source : Nat) (body : List Byte) :
    (framed kind source body).drop (3 + body.length) = bytesOf 2 (crc (headed kind source body)).toNat :=
  List.drop_left' (headed_length kind source body)

theorem bodyOf_framed (h : body.length ≤ 255) (kind source : Nat) : bodyOf (framed kind source body) = body := by
  rw [bodyOf, bodyLength_framed h, framed_eq]
  exact List.take_left

/-! ## The checks (R147) -/

theorem arrivalValid_iff (bytes : List Byte) : arrivalValid bytes = true ↔ (1 ≤ byteAt bytes 0 ∧ byteAt bytes 0 ≤ 4)
    ∧ ((byteAt bytes 0 = 1 → bodyLength bytes = 31) ∧ (byteAt bytes 0 = 2 → bodyLength bytes = 10)
      ∧ (byteAt bytes 0 = 3 → bodyLength bytes = 3))
    ∧ bytes.drop (3 + bodyLength bytes) = bytesOf 2 (crc (bytes.take (3 + bodyLength bytes))).toNat := by
  simp only [arrivalValid, kindKnown, lengthFits, crcGood, Bool.and_eq_true, decide_eq_true_eq, and_assoc]
  rfl

/-- A message whose last two characters are its CRC has no other characters than its length names. -/
theorem length_of_crcGood (h : bytes.drop (3 + bodyLength bytes) = bytesOf 2 (crc (bytes.take (3 + bodyLength bytes))).toNat) :
    bytes.length = 5 + bodyLength bytes := by
  have := congrArg List.length h
  rw [List.length_drop, bytesOf_length] at this
  omega

/-- R145, R147: a framed message passes. -/
theorem arrivalValid_framed (h1 : 1 ≤ kind) (h4 : kind ≤ 4) (hlength : body.length ≤ 255) (hbeat : kind = 1 → body.length = 31)
    (hdirective : kind = 2 → body.length = 10) (hquery : kind = 3 → body.length = 3) : arrivalValid (framed kind source body) = true := by
  rw [arrivalValid_iff, byteAt_framed_kind (by omega), bodyLength_framed hlength, drop_framed, take_framed]
  exact ⟨⟨h1, h4⟩, ⟨hbeat, hdirective, hquery⟩, rfl⟩

/-- The two characters of a CRC give it back. -/
theorem crc_eq_of_bytesOf {r r' : Half} (h : bytesOf 2 r.toNat = bytesOf 2 r'.toNat) : r = r' := by
  have hread := congrArg (fun l => bigEndian (l.map BitVec.toNat)) h
  simp only [bigEndian_bytesOf] at hread
  rw [Nat.mod_eq_of_lt (b := 256 ^ 2) r.isLt, Nat.mod_eq_of_lt (b := 256 ^ 2) r'.isLt] at hread
  exact BitVec.eq_of_toNat_eq hread

/-- A byte set in a byte string with the same CRC is the byte that stood there. -/
theorem getElem?_of_crc_set {i : Nat} {x : Byte} (hi : i < bytes.length) (h : crc (bytes.set i x) = crc bytes) :
    bytes[i]? = some x := by
  have hbytes : bytes = bytes.take i ++ bytes[i] :: bytes.drop (i + 1) := by
    rw [← List.drop_eq_getElem_cons, List.take_append_drop]
  rw [List.set_eq_take_append_cons_drop, if_pos hi] at h
  rw [List.getElem?_eq_getElem hi, byte_eq_of_crc (h.trans (congrArg crc hbytes))]

/-- Two byte strings of one declared length that both end in their CRC and differ at one place at most do not differ. -/
theorem getElem?_of_crcGood_set {i n : Nat} {x : Byte} (hi : i < bytes.length)
    (h : bytes.drop n = bytesOf 2 (crc (bytes.take n)).toNat)
    (h' : (bytes.set i x).drop n = bytesOf 2 (crc ((bytes.set i x).take n)).toNat) : bytes[i]? = some x := by
  by_cases hin : i < n
  · rw [List.drop_set_of_lt hin, h, List.take_set] at h'
    rw [← List.getElem?_take_of_lt hin]
    exact getElem?_of_crc_set (by rw [List.length_take]; omega) (crc_eq_of_bytesOf h').symm
  · rw [List.take_set_of_le (by omega), ← h, List.drop_set, if_neg hin] at h'
    have hat := congrArg (·[i - n]?) h'
    simp only [List.getElem?_set_self', List.getElem?_drop, Nat.add_sub_cancel' (Nat.le_of_not_lt hin)] at hat
    rw [← hat, List.getElem?_eq_getElem hi]
    rfl

/-- R147: no framed message with any one byte changed passes. -/
theorem arrivalValid_framed_set {i : Nat} {x : Byte} (hi : i < 5 + body.length)
    (hx : (framed kind source body)[i]? ≠ some x) : arrivalValid ((framed kind source body).set i x) = false := by
  refine Bool.eq_false_iff.mpr fun hvalid => hx ?_
  obtain ⟨-, -, hcrc⟩ := (arrivalValid_iff _).mp hvalid
  have hsame : bodyLength ((framed kind source body).set i x) = body.length := by
    have := length_of_crcGood hcrc
    rw [List.length_set, framed_length] at this
    omega
  rw [hsame] at hcrc
  refine getElem?_of_crcGood_set (n := 3 + body.length) (by rwa [framed_length]) ?_ hcrc
  rw [drop_framed, take_framed]

/-! ## What a framed message arrives as (R146, R158, R162) -/

theorem arrivalCommand_of_valid {first : Bool} (hlength : bodyLength bytes ≤ 48) (hvalid : arrivalValid bytes = true) :
    arrivalCommand bytes first =
      if byteAt bytes 0 = 1 then .beatArrival (bytes.getD 1 0) (bodyOf bytes)
      else if byteAt bytes 0 = 2 then directiveCommand ((bodyOf bytes).getD 3 0) (readDirective (bytes.getD 1 0) (bodyOf bytes)) first
      else if byteAt bytes 0 = 3 then queryCommand ((bodyOf bytes).getD 1 0) (readQuery (bytes.getD 1 0) (bodyOf bytes))
      else .replyReceived (bytes.getD 1 0) (bodyOf bytes) := by
  show (if 48 < bodyLength bytes then _ else if arrivalValid bytes = false then _ else _) = _
  rw [if_neg (by omega), hvalid, if_neg Bool.noConfusion]
  rfl

theorem arrivalCommand_framed {source : Byte} {first : Bool} (h1 : 1 ≤ kind) (h4 : kind ≤ 4) (hlength : body.length ≤ 48)
    (hbeat : kind = 1 → body.length = 31) (hdirective : kind = 2 → body.length = 10) (hquery : kind = 3 → body.length = 3) :
    arrivalCommand (framed kind source.toNat body) first =
      if kind = 1 then .beatArrival source body
      else if kind = 2 then directiveCommand (body.getD 3 0) (readDirective source body) first
      else if kind = 3 then queryCommand (body.getD 1 0) (readQuery source body)
      else .replyReceived source body := by
  rw [arrivalCommand_of_valid (by rwa [bodyLength_framed (by omega)]) (arrivalValid_framed h1 h4 (by omega) hbeat hdirective hquery),
    byteAt_framed_kind (by omega), getD_framed_source, bodyOf_framed (by omega), BitVec.ofNat_toNat, BitVec.setWidth_eq]

theorem directiveBody_length (action : Byte) (d : Directive) : (directiveBody action d).length = 10 := by
  simp [directiveBody]

theorem getD_directiveBody_action (action : Byte) (d : Directive) : (directiveBody action d).getD 3 0 = action := rfl

theorem bitVec_fieldAt_bytesOf (w : Half) (l r : List Byte) : BitVec.ofNat 16 (fieldAt (l ++ (bytesOf 2 w.toNat ++ r)) l.length 2) = w := by
  rw [fieldAt_bytesOf w.isLt, BitVec.ofNat_toNat, BitVec.setWidth_eq]

/-- Section 12.1: every field of a DIRECTIVE reads back. -/
theorem readDirective_directiveBody (action : Byte) (d : Directive) : readDirective d.source (directiveBody action d) = d := by
  have hepoch : BitVec.ofNat 16 (fieldAt (directiveBody action d) 1 2) = d.epoch := bitVec_fieldAt_bytesOf d.epoch [d.mask]
    ([action, d.entry] ++ bytesOf 2 d.programme.toNat ++ bytesOf 2 d.scale.toNat ++ [d.accept])
  have hprogramme : BitVec.ofNat 16 (fieldAt (directiveBody action d) 5 2) = d.programme :=
    bitVec_fieldAt_bytesOf d.programme ([d.mask] ++ bytesOf 2 d.epoch.toNat ++ [action, d.entry]) (bytesOf 2 d.scale.toNat ++ [d.accept])
  have hscale : BitVec.ofNat 16 (fieldAt (directiveBody action d) 7 2) = d.scale := bitVec_fieldAt_bytesOf d.scale
    ([d.mask] ++ bytesOf 2 d.epoch.toNat ++ [action, d.entry] ++ bytesOf 2 d.programme.toNat) [d.accept]
  rw [readDirective, hepoch, hprogramme, hscale]
  rfl

theorem directiveCommand_of_unknown {action : Byte} {d : Directive} {first : Bool} (h : action.toNat = 0 ∨ 7 < action.toNat) :
    directiveCommand action d first = .directiveUnknownAction action d := by
  unfold directiveCommand
  split <;> first | omega | rfl

theorem queryCommand_of_unknown {kind : Byte} {q : Query} (h : kind.toNat = 0 ∨ 7 < kind.toNat) :
    queryCommand kind q = .queryUnknownKind kind q := by
  unfold queryCommand
  split <;> first | omega | rfl

theorem arrivalCommand_directive (d : Directive) (first : Bool) (action : Byte) :
    arrivalCommand (framed 2 d.source.toNat (directiveBody action d)) first = directiveCommand action d first := by
  have hlength := directiveBody_length action d
  rw [arrivalCommand_framed (kind := 2) (by decide) (by decide) (by omega) nofun (fun _ => hlength) nofun, readDirective_directiveBody]
  rfl

theorem arrivalCommand_query (q : Query) (first : Bool) (kind : Byte) :
    arrivalCommand (framed 3 q.source.toNat (queryBody kind q)) first = queryCommand kind q :=
  arrivalCommand_framed (body := queryBody kind q) (by decide) (by decide) (by decide : (3 : Nat) ≤ 48) nofun nofun (fun _ => rfl)

/-- Settles O52: each part is the lemma on framed messages for its kind. -/
theorem aFramedMessageIsValidAndGuarded : Obligations.AFramedMessageIsValidAndGuarded := by
  refine ⟨fun kind source body h1 h4 _ hlength hbeat hdirective hquery => ⟨framed_length _ _ _, ?_, fun i x hi hx => ?_⟩,
    fun source body first => ⟨fun hlength => ?_, fun hlength => ?_⟩, fun d first action => ?_, fun q first kind => ?_,
    fun bytes first hlength hvalid => ?_⟩
  · exact arrivalValid_framed h1 h4 (by omega) hbeat hdirective hquery
  · exact arrivalValid_framed_set hi hx
  · exact arrivalCommand_framed le_rfl (by decide) (by omega) (fun _ => hlength) nofun nofun
  · exact arrivalCommand_framed (by decide) le_rfl (by omega) nofun nofun nofun
  · have harrives (code : Byte) := arrivalCommand_directive d first code
    exact ⟨harrives _, harrives _, harrives _, harrives _, harrives _, harrives _, harrives _,
      fun h => (harrives action).trans (directiveCommand_of_unknown h)⟩
  · have harrives (code : Byte) := arrivalCommand_query q first code
    exact ⟨harrives _, harrives _, harrives _, harrives _, harrives _, harrives _, harrives _,
      fun h => (harrives kind).trans (queryCommand_of_unknown h)⟩
  · have hshort : ¬ 48 < bodyLength bytes := Nat.not_lt.mpr hlength
    show (if 48 < bodyLength bytes then _ else if arrivalValid bytes = false then _ else _) = _
    rw [if_neg hshort, if_pos hvalid]

end Sys2Proof.Machine
end

section
/-! O49: the receiver, and a stuck line. -/

namespace Sys2Proof.Machine

variable {s : State} {bytes : List Byte} {first : Bool}

/-! ## A valid message is the framed one that its command names -/

theorem bytesOf_fieldAt_two (a b : Byte) : bytesOf 2 (BitVec.ofNat 16 (a.toNat * 256 + b.toNat)).toNat = [a, b] := by
  have hlow : (a.toNat * 256 + b.toNat) / 256 = a.toNat := by have := b.isLt; omega
  have hbytes : bytesOf 2 (a.toNat * 256 + b.toNat) = [a, b] := by
    have hb : BitVec.ofNat 8 (a.toNat * 256 + b.toNat) = b := BitVec.eq_of_toNat_eq (by
      have := b.isLt
      rw [BitVec.toNat_ofNat]
      omega)
    simp [bytesOf, hlow, hb]
  rwa [BitVec.toNat_ofNat, Nat.mod_eq_of_lt (by have := a.isLt; have := b.isLt; omega)]

/-- Section 12.1: the ten bytes of a DIRECTIVE's body are those of its fields. -/
theorem directiveBody_readDirective (source : Byte) {body : List Byte} (h : body.length = 10) :
    directiveBody (body.getD 3 0) (readDirective source body) = body := by
  match body, h with
  | [b0, b1, b2, b3, b4, b5, b6, b7, b8, b9], _ =>
    have hread (i : Nat) := fieldAt_two [b0, b1, b2, b3, b4, b5, b6, b7, b8, b9] i
    simp only [directiveBody, readDirective, hread]
    show [b0] ++ bytesOf 2 (BitVec.ofNat 16 (b1.toNat * 256 + b2.toNat)).toNat ++ [b3, b4]
      ++ bytesOf 2 (BitVec.ofNat 16 (b5.toNat * 256 + b6.toNat)).toNat
      ++ bytesOf 2 (BitVec.ofNat 16 (b7.toNat * 256 + b8.toNat)).toNat ++ [b9] = _
    rw [bytesOf_fieldAt_two, bytesOf_fieldAt_two, bytesOf_fieldAt_two]
    rfl

theorem queryBody_readQuery (source : Byte) {body : List Byte} (h : body.length = 3) :
    queryBody (body.getD 1 0) (readQuery source body) = body := by
  match body, h with
  | [_, _, _], _ => rfl

/-- Section 9.2: a message that ends in its CRC is its kind, source and body framed. -/
theorem framed_of_crcGood (h : bytes.drop (3 + bodyLength bytes) = bytesOf 2 (crc (bytes.take (3 + bodyLength bytes))).toNat) :
    framed (byteAt bytes 0) (bytes.getD 1 0).toNat (bodyOf bytes) = bytes ∧ (bodyOf bytes).length = bodyLength bytes := by
  have hlength := length_of_crcGood h
  have hbody : (bodyOf bytes).length = bodyLength bytes := by
    rw [bodyOf, List.length_take, List.length_drop]
    omega
  have hheaded : headed (byteAt bytes 0) (bytes.getD 1 0).toNat (bodyOf bytes) = bytes.take (3 + bodyLength bytes) := by
    rw [headed_eq, hbody]
    match bytes, hlength with
    | a :: b :: c :: rest, _ =>
      show BitVec.ofNat 8 a.toNat :: BitVec.ofNat 8 b.toNat :: BitVec.ofNat 8 c.toNat :: _ = _
      rw [Nat.add_comm]
      simp [bodyOf]
  refine ⟨?_, hbody⟩
  rw [framed, hheaded, ← h, List.take_append_drop]

/-- Whether a command is the arrival of a message: it hands the message on to something, in whatever state it finds the line. -/
def IsArrivalOf (i : Instr) (message : List Byte) : Prop := ∃ handOn, ∀ v : State, exec i v = .next (v.arrive message handOn)

theorem IsArrivalOf.congr {i : Instr} {message message' : List Byte} (h : IsArrivalOf i message) (heq : message = message') :
    IsArrivalOf i message' := heq ▸ h

theorem directiveCommand_isArrival (action : Byte) (d : Directive) (first : Bool) :
    IsArrivalOf (directiveCommand action d first) (framed 2 d.source.toNat (directiveBody action d)) := by
  have hcode {code : Byte} (h : action.toNat = code.toNat) : action = code := BitVec.eq_of_toNat_eq h
  unfold directiveCommand
  split
  case h_1 h =>
    obtain rfl := hcode (code := 1#8) h
    cases hentry : Entry.ofCode d.entry.toNat with
    | none => exact ⟨id, fun v => by show execRun d first v = _; rw [execRun, hentry]; rfl⟩
    | some entry => exact ⟨_, fun v => execRun_of_entry first hentry⟩
  case h_2 h => obtain rfl := hcode (code := 2#8) h; exact ⟨_, fun v => rfl⟩
  case h_3 h => obtain rfl := hcode (code := 3#8) h; exact ⟨_, fun v => rfl⟩
  case h_4 h => obtain rfl := hcode (code := 4#8) h; exact ⟨_, fun v => rfl⟩
  case h_5 h => obtain rfl := hcode (code := 5#8) h; exact ⟨_, fun v => rfl⟩
  case h_6 h => obtain rfl := hcode (code := 6#8) h; exact ⟨_, fun v => rfl⟩
  case h_7 h => obtain rfl := hcode (code := 7#8) h; exact ⟨_, fun v => rfl⟩
  case h_8 => exact ⟨id, fun v => rfl⟩

theorem queryCommand_isArrival (kind : Byte) (q : Query) :
    IsArrivalOf (queryCommand kind q) (framed 3 q.source.toNat (queryBody kind q)) := by
  have hquery (code : Nat) (h : kind.toNat = code) (content : State → Option (List Byte)) : ∃ handOn, ∀ v : State,
      v.query code q content = v.arrive (framed 3 q.source.toNat (queryBody kind q)) handOn := by
    obtain rfl : kind = BitVec.ofNat 8 code := by rw [← h, BitVec.ofNat_toNat, BitVec.setWidth_eq]
    exact ⟨_, fun v => rfl⟩
  suffices hmeans : ∃ code content, kind.toNat = code ∧ ∀ v : State, exec (queryCommand kind q) v = .next (v.query code q content) by
    obtain ⟨code, content, hcode, hexec⟩ := hmeans
    obtain ⟨handOn, harrives⟩ := hquery code hcode content
    exact ⟨handOn, fun v => (hexec v).trans (congrArg _ (harrives v))⟩
  unfold queryCommand
  split
  case h_8 => exact ⟨_, _, rfl, fun v => rfl⟩
  all_goals exact ⟨_, _, ‹_›, fun v => rfl⟩

/-- R146: the command of a valid message is its arrival. -/
theorem arrivalCommand_isArrival (hlength : bodyLength bytes ≤ 48) (hvalid : arrivalValid bytes = true) :
    IsArrivalOf (arrivalCommand bytes first) bytes := by
  obtain ⟨⟨h1, h4⟩, ⟨hbeat, hdirective, hquery⟩, hcrc⟩ := (arrivalValid_iff bytes).mp hvalid
  obtain ⟨hframed, hbody⟩ := framed_of_crcGood hcrc
  have hkind {kind : Nat} (h : byteAt bytes 0 = kind) : framed kind (bytes.getD 1 0).toNat (bodyOf bytes) = bytes := h ▸ hframed
  rw [arrivalCommand_of_valid hlength hvalid]
  obtain h | h | h | h : byteAt bytes 0 = 1 ∨ byteAt bytes 0 = 2 ∨ byteAt bytes 0 = 3 ∨ byteAt bytes 0 = 4 := by omega
  · rw [if_pos h]
    exact IsArrivalOf.congr ⟨_, fun v => rfl⟩ (hkind h)
  · rw [if_neg (by omega), if_pos h]
    refine (directiveCommand_isArrival _ _ _).congr ?_
    rw [directiveBody_readDirective _ (hbody.trans (hdirective h))]
    exact hkind h
  · rw [if_neg (by omega), if_neg (by omega), if_pos h]
    refine (queryCommand_isArrival _ _).congr ?_
    rw [queryBody_readQuery _ (hbody.trans (hquery h))]
    exact hkind h
  · rw [if_neg (by omega), if_neg (by omega), if_neg (by omega)]
    exact IsArrivalOf.congr ⟨_, fun v => rfl⟩ (hkind h)

/-! ## The assembler (R146, R147) -/

/-- A line unit that works and whose assembler holds the characters `l` of the message in progress, none where it is ready. -/
def LineUnit.Assembling (l : List Byte) (u : LineUnit) : Prop :=
  (u.line = .active ∨ u.line = .listenOnly) ∧ ((u.assembler = .ready ∧ l = []) ∨ (u.assembler = .taking l ∧ l ≠ []))

theorem LineUnit.Assembling.assembles {l : List Byte} {u : LineUnit} (h : u.Assembling l) :
    u.assembles = true ∧ u.assembler.characters = l := by
  obtain ⟨hline, ⟨ha, rfl⟩ | ⟨ha, hl⟩⟩ := h <;> obtain hline | hline := hline <;>
    simp_all [LineUnit.assembles, Assembler.characters]

theorem LineUnit.Assembling.accepts {l message : List Byte} {u : LineUnit} (h : u.Assembling l) (hbegins : l <+: message) :
    u.assembler.accepts message = true := by
  obtain ⟨-, ⟨ha, -⟩ | ⟨ha, -⟩⟩ := h <;> rw [ha]
  · rfl
  · exact List.isPrefixOf_iff_prefix.mpr hbegins

/-- R146: characters with which the message still expects more are taken. -/
theorem execReceiveDiscard_unfinished {l more : List Byte} (h : s.line.Assembling l) (hmore : expectsMore (l ++ more) = true) :
    exec (.receiveDiscard (.unfinished more)) s = .next { s with line := { s.line with assembler := .taking (l ++ more) } } := by
  obtain ⟨hassembles, hcharacters⟩ := h.assembles
  have htakes : (s.line.takeCharacters more).assembler.characters = l ++ more := by rw [← hcharacters]; rfl
  have htaken : s.takeUnfinished more = { s with line := s.line.takeCharacters more } :=
    if_pos (by rw [hassembles, htakes, hmore]; rfl)
  show Host.Outcome.next (s.takeUnfinished more) = _
  rw [htaken, LineUnit.takeCharacters, hcharacters]

/-- R147: a message that fails is discarded and counted. -/
theorem execReceiveDiscard_error {error : ReceiveError} (hassembles : s.line.assembles = true)
    (hcan : s.line.assembler.canFail error = true) (hreal : receiveErrorReal error = true) :
    exec (.receiveDiscard error) s = .next { s with line := s.line.discard } := by
  have herror : (s.line.assembles && s.line.assembler.canFail error && receiveErrorReal error) = true := by
    rw [hassembles, hcan, hreal]
    rfl
  cases error with
  | unfinished => exact Bool.noConfusion hreal
  | parity | framing | tooLong | rejected => exact congrArg Host.Outcome.next (if_pos herror)

theorem discard_eq (u : LineUnit) : u.discard = { u with lineErrors := min 255 (u.lineErrors + 1), assembler := .waiting } := by
  rw [LineUnit.discard, satAdd_eq_min]

/-- R147: a message of all its characters that a check fails is a receive error. -/
theorem receiveErrorReal_rejected (h3 : 3 ≤ bytes.length) (hlength : bytes.length = 5 + byteAt bytes 2) (hle : byteAt bytes 2 ≤ 48)
    (hinvalid : arrivalValid bytes = false) : receiveErrorReal (.rejected bytes) = true := by
  have hcomplete : isComplete bytes = true := decide_eq_true ⟨h3, hlength⟩
  have hshort : decide (bodyLength bytes ≤ 48) = true := decide_eq_true hle
  rw [receiveErrorReal, hcomplete, hshort, hinvalid]
  rfl

/-! ## A stuck line (R153) -/

theorem wake_eq (u : LineUnit) (h : u.transmitter = .idle) : u.wake = { u with transmitter :=
    if u.line = .active ∧ (u.beatSlot.isSome ∨ u.replySlot.isSome) then .waitGap else .idle } := by
  obtain ⟨hwake, hno⟩ | ⟨hline, -, hslots, hwake⟩ := wake_cases u <;> rw [hwake]
  · rw [if_neg fun ⟨hline, hslots⟩ => hno ⟨hline, h, (Bool.or_eq_true _ _).mpr hslots⟩, ← h]
  · rw [if_pos ⟨hline, (Bool.or_eq_true _ _).mp hslots⟩]

/-- R153: the line unit that a stuck line leaves. -/
theorem wake_afterStuck {u : LineUnit} (h : u.transmitter = .idle) : LineUnit.wake { u with line := u.afterStuck, assembler := .ready } =
    { u with
      line := if u.duplicate then .listenOnly else .active, assembler := .ready
      transmitter := if u.duplicate = false ∧ (u.beatSlot.isSome ∨ u.replySlot.isSome) then .waitGap else .idle } := by
  have hactive : u.afterStuck = .active ↔ u.duplicate = false := by
    unfold LineUnit.afterStuck
    cases u.duplicate <;> simp
  rw [wake_eq { u with line := u.afterStuck, assembler := .ready } h]
  simp only [hactive]
  rfl

/-- Settles O49: each part is the lemma on its event. -/
theorem theReceiverAndTheStuckLine : Obligations.TheReceiverAndTheStuckLine := by
  intro s works discarded unfinished holds
  refine ⟨fun hworks => ?_, fun hstuck hidle => ?_, fun hworks l hl => ?_, fun hworks l bytes first htaking hle hvalid => ?_,
    fun hwaiting hrests => ?_, fun hbusy => ?_, fun source body huntaken => ?_⟩
  · obtain h | h := hworks <;> show execLineStuck s = _ <;> rw [execLineStuck, h]
  · show execLineStuckRelease s = _
    rw [execLineStuckRelease, if_pos hstuck, wake_afterStuck hidle]
  · have hassembling : s.line.Assembling l := ⟨hworks, hl⟩
    obtain ⟨hassembles, hcharacters⟩ := hassembling.assembles
    refine ⟨fun more _ hmore => execReceiveDiscard_unfinished hassembling ((expectsMore_iff _).mpr hmore), fun hunfinished => ?_,
      fun hnone => ?_, fun error herror => ?_⟩
    · show execReceiveGapExpiry s = _
      rw [execReceiveGapExpiry, hassembles, hcharacters, (expectsMore_iff l).mpr hunfinished, discard_eq]
      rfl
    · show execReceiveGapExpiry s = _
      rw [execReceiveGapExpiry, hassembles, hcharacters, hnone]
      rfl
    · have hcanReal : s.line.assembler.canFail error = true ∧ receiveErrorReal error = true := by
        obtain rfl | rfl | ⟨n, rfl, hn, hl2⟩ | ⟨bytes, rfl, hbegins, h3, hlength, hle, hinvalid⟩ := herror
        · exact ⟨rfl, rfl⟩
        · exact ⟨rfl, rfl⟩
        · exact ⟨decide_eq_true (hcharacters ▸ hl2), decide_eq_true hn⟩
        · exact ⟨hassembling.accepts hbegins, receiveErrorReal_rejected h3 hlength hle hinvalid⟩
      rw [execReceiveDiscard_error hassembles hcanReal.1 hcanReal.2, discard_eq]
  · obtain ⟨handOn, harrives⟩ := arrivalCommand_isArrival (first := first) hle hvalid
    rw [harrives, harrives, arrive_of_taking _ l _ htaking]
    refine ⟨fun hbegins => ?_, fun hno => ?_⟩
    · rw [if_pos ⟨hworks, hbegins⟩, arrive_of_ready (s := { s with line := { s.line with assembler := .ready } }) _ _ hworks rfl]
    · rw [if_neg fun h => hno h.2]
  · have hdrives : s.line.transmitter.drives = false := by
      obtain h | h | ⟨left, h⟩ := hrests <;> rw [h] <;> rfl
    show execReceiveAssemblerReady s = _
    rw [execReceiveAssemblerReady, if_pos ⟨hwaiting, hdrives⟩]
  · show execReceiveAssemblerReady s = _
    rw [execReceiveAssemblerReady, if_neg]
    rintro ⟨hwaiting, hrests⟩
    obtain h | ⟨wire, left, h⟩ | ⟨left, h⟩ := hbusy
    · exact h hwaiting
    all_goals rw [h] at hrests; exact Bool.noConfusion hrests
  · exact congrArg _ (arrive_id_of_untaken _ huntaken)

end Sys2Proof.Machine
end

section
/-! The sine as the Horner form sums it: the tails of its series over x², each a factor of the one before (R9). -/

namespace Sys2Proof.Machine

open scoped Nat

/-- The series `∑ (-y)^j m! / (m + 2j)!`, what the Horner form of the sine approaches from the factor of `m! / (m + 2)!` on. -/
noncomputable def sineTail (m : ℕ) (y : ℝ) : ℝ := ∑' j, (-y) ^ j * ((m ! : ℝ) / (m + 2 * j)!)

theorem sineTail_term_norm_le {m : ℕ} {y : ℝ} (hm : 1 ≤ m) (hy : 0 ≤ y) (hy' : y ≤ 5 / 2) (j : ℕ) :
    ‖(-y) ^ j * ((m ! : ℝ) / (m + 2 * j)!)‖ ≤ (5 / 8) ^ j := by
  have hfactorial : m ! * 4 ^ j ≤ (m + 2 * j)! := calc
    m ! * 4 ^ j = m ! * 2 ^ (2 * j) := by rw [pow_mul 2 2 j]; rfl
    _ ≤ m ! * (m + 1) ^ (2 * j) := Nat.mul_le_mul_left _ (Nat.pow_le_pow_left (by omega) _)
    _ ≤ (m + 2 * j)! := Nat.factorial_mul_pow_le_factorial
  have hquotient : (m ! : ℝ) / (m + 2 * j)! ≤ (1 / 4) ^ j := by
    rw [div_pow, one_pow, div_le_div_iff₀ (by positivity) (by positivity), one_mul]
    exact_mod_cast hfactorial
  calc ‖(-y) ^ j * ((m ! : ℝ) / (m + 2 * j)!)‖ = y ^ j * ((m ! : ℝ) / (m + 2 * j)!) := by
        rw [norm_mul, norm_pow, norm_neg, Real.norm_of_nonneg hy, Real.norm_of_nonneg (by positivity)]
    _ ≤ (5 / 2) ^ j * (1 / 4) ^ j := by gcongr
    _ = (5 / 8) ^ j := by rw [← mul_pow]; norm_num

theorem sineTail_summable {m : ℕ} {y : ℝ} (hm : 1 ≤ m) (hy : 0 ≤ y) (hy' : y ≤ 5 / 2) :
    Summable fun j : ℕ => (-y) ^ j * ((m ! : ℝ) / (m + 2 * j)!) :=
  Summable.of_norm_bounded (summable_geometric_of_lt_one (by norm_num) (by norm_num)) (sineTail_term_norm_le hm hy hy')

theorem abs_sineTail_le {m : ℕ} {y : ℝ} (hm : 1 ≤ m) (hy : 0 ≤ y) (hy' : y ≤ 5 / 2) : |sineTail m y| ≤ 3 := by
  have hgeometric : HasSum (fun j : ℕ => (5 / 8 : ℝ) ^ j) (1 - 5 / 8)⁻¹ :=
    hasSum_geometric_of_lt_one (by norm_num) (by norm_num)
  calc |sineTail m y| ≤ (1 - 5 / 8)⁻¹ := tsum_of_norm_bounded hgeometric (sineTail_term_norm_le hm hy hy')
    _ ≤ 3 := by norm_num

/-- One factor of the Horner form. -/
theorem sineTail_eq {m : ℕ} {y : ℝ} (hm : 1 ≤ m) (hy : 0 ≤ y) (hy' : y ≤ 5 / 2) :
    sineTail m y = 1 - y * sineTail (m + 2) y / ((m + 1) * (m + 2)) := by
  have hterm (j : ℕ) : (-y) ^ (j + 1) * ((m ! : ℝ) / (m + 2 * (j + 1))!)
      = -y / ((m + 1) * (m + 2)) * ((-y) ^ j * (((m + 2)! : ℝ) / (m + 2 + 2 * j)!)) := by
    have hfactorial : ((m + 2)! : ℝ) = (m + 2) * ((m + 1) * m !) := by
      rw [Nat.factorial_succ, Nat.factorial_succ]
      push_cast
      ring
    rw [hfactorial, show m + 2 * (j + 1) = m + 2 + 2 * j by ring]
    field_simp
    ring
  have hsum := (sineTail_summable hm hy hy').tsum_eq_zero_add
  simp only [hterm, tsum_mul_left] at hsum
  rw [sineTail, hsum, ← sineTail]
  field_simp
  simp
  ring

/-- The sine of an angle, by the series over its square. -/
theorem sin_eq_mul_sineTail (x : ℝ) : Real.sin x = x * sineTail 1 (x ^ 2) := by
  rw [Real.sin_eq_tsum, sineTail, ← tsum_mul_left]
  refine tsum_congr fun j => ?_
  rw [show 1 + 2 * j = 2 * j + 1 by ring, Nat.factorial_one, neg_pow (x ^ 2), ← pow_mul]
  push_cast
  ring

theorem abs_sin_sub_sin_le (x y : ℝ) : |Real.sin x - Real.sin y| ≤ |x - y| := by
  have hhalf : |Real.sin ((x - y) / 2)| ≤ |(x - y) / 2| := Real.abs_sin_le_abs
  calc |Real.sin x - Real.sin y| = 2 * |Real.sin ((x - y) / 2)| * |Real.cos ((x + y) / 2)| := by
        rw [Real.sin_sub_sin, abs_mul, abs_mul, abs_of_pos (zero_lt_two' ℝ)]
    _ ≤ 2 * |(x - y) / 2| * 1 := by gcongr; exact Real.abs_cos_le_one _
    _ = |x - y| := by rw [abs_div, abs_of_pos (zero_lt_two' ℝ)]; ring

end Sys2Proof.Machine
end

section
/-! The fixed-point sine of the model lies within 10⁻¹⁰ of the sine function (R9, assumption 5). -/

namespace Sys2Proof.Machine

/-- The real number that a fixed-point number of the wave stands for. -/
noncomputable def fixedValue (n : ℕ) : ℝ := n / (waveUnit : ℝ)

theorem waveUnit_pos : (0 : ℝ) < waveUnit := by norm_num [waveUnit]

theorem one_div_waveUnit_le : 1 / (waveUnit : ℝ) ≤ 1 / 10 ^ 38 := by norm_num [waveUnit]

theorem fixedValue_waveUnit : fixedValue waveUnit = 1 := div_self waveUnit_pos.ne'

theorem fixedValue_nonneg (n : ℕ) : 0 ≤ fixedValue n := div_nonneg (Nat.cast_nonneg n) waveUnit_pos.le

/-- A quotient of natural numbers is the floor of the real one. -/
theorem natDiv_bounds (a : ℕ) {b : ℕ} (hb : 0 < b) : ((a / b : ℕ) : ℝ) ≤ a / b ∧ (a : ℝ) / b ≤ (a / b : ℕ) + 1 := by
  refine ⟨Nat.cast_div_le, ?_⟩
  rw [div_le_iff₀ (by exact_mod_cast hb), mul_comm]
  exact_mod_cast (Nat.lt_mul_div_succ a hb).le

/-! ## The Horner form -/

theorem sineHorner_le (x2 r k : ℕ) : sineHorner x2 r k ≤ waveUnit := by
  cases r with
  | zero => exact le_rfl
  | succ r => exact Nat.sub_le _ _

theorem fixedValue_le_of {x2 : ℕ} (hx : 2 * x2 ≤ 5 * waveUnit) : fixedValue x2 ≤ 5 / 2 := by
  have : (2 * x2 : ℝ) ≤ 5 * waveUnit := by exact_mod_cast hx
  rw [fixedValue, div_le_iff₀ waveUnit_pos]
  linarith

/-- One factor: the error of the inner one is divided, and a truncation is added. -/
theorem abs_sineHorner_succ_le {x2 : ℕ} (hx : 2 * x2 ≤ 5 * waveUnit) (r n : ℕ) :
    |fixedValue (sineHorner x2 (r + 1) (n + 1)) - sineTail (2 * n + 1) (fixedValue x2)|
      ≤ 1 / waveUnit + fixedValue x2 / ((2 * n + 2) * (2 * n + 3))
        * |fixedValue (sineHorner x2 r (n + 2)) - sineTail (2 * n + 3) (fixedValue x2)| := by
  have hU := waveUnit_pos
  set h := sineHorner x2 r (n + 2)
  have hy := fixedValue_le_of hx
  set c : ℕ := 2 * (n + 1) * (2 * (n + 1) + 1) with hc
  have hcReal : (c : ℝ) = (2 * n + 2) * (2 * n + 3) := by rw [hc]; push_cast; ring
  set q : ℕ := x2 * h / (waveUnit * c)
  have hfits : q ≤ waveUnit := by
    refine Nat.div_le_of_le_mul ?_
    have hc5 : 5 ≤ c := by rw [hc]; nlinarith
    calc x2 * h ≤ (5 * waveUnit) * waveUnit := Nat.mul_le_mul (by omega) (sineHorner_le _ _ _)
      _ ≤ waveUnit * c * waveUnit := Nat.mul_le_mul_right _ (by rw [Nat.mul_comm]; exact Nat.mul_le_mul_left _ hc5)
  have hhorner : fixedValue (sineHorner x2 (r + 1) (n + 1)) = 1 - fixedValue q := by
    rw [sineHorner, Nat.div_div_eq_div_mul, fixedValue, Nat.cast_sub hfits, sub_div, div_self hU.ne', fixedValue]
  have hc0 : (0 : ℝ) < c := by rw [hcReal]; positivity
  have hq : |fixedValue q - fixedValue x2 / c * fixedValue h| ≤ 1 / waveUnit := by
    obtain ⟨hlow, hhigh⟩ := natDiv_bounds (x2 * h) (b := waveUnit * c) (by exact_mod_cast mul_pos hU hc0)
    have hexact : fixedValue x2 / c * fixedValue h = ((x2 * h : ℕ) / (waveUnit * c : ℕ)) / (waveUnit : ℝ) := by
      unfold fixedValue
      push_cast
      field_simp
    rw [hexact, fixedValue, ← sub_div, abs_div, abs_of_pos hU, div_le_div_iff_of_pos_right hU, abs_le]
    constructor <;> linarith
  have htail := sineTail_eq (m := 2 * n + 1) (by omega) (fixedValue_nonneg x2) hy
  have hsplit : 1 - fixedValue q - sineTail (2 * n + 1) (fixedValue x2)
      = -(fixedValue q - fixedValue x2 / c * fixedValue h)
        - fixedValue x2 / c * (fixedValue h - sineTail (2 * n + 3) (fixedValue x2)) := by
    rw [htail, hcReal]
    push_cast
    field_simp
    ring
  rw [hhorner, hsplit, ← hcReal]
  calc _ ≤ |-(fixedValue q - fixedValue x2 / c * fixedValue h)|
        + |fixedValue x2 / c * (fixedValue h - sineTail (2 * n + 3) (fixedValue x2))| := abs_sub _ _
    _ = |fixedValue q - fixedValue x2 / c * fixedValue h|
        + fixedValue x2 / c * |fixedValue h - sineTail (2 * n + 3) (fixedValue x2)| := by
      rw [abs_neg, abs_mul, abs_of_nonneg (div_nonneg (fixedValue_nonneg x2) hc0.le)]
    _ ≤ _ := by gcongr

/-- From the second factor on, each factor divides the error by eight. -/
theorem abs_sineHorner_inner_le {x2 : ℕ} (hx : 2 * x2 ≤ 5 * waveUnit) (r : ℕ) : ∀ n, 1 ≤ n →
    |fixedValue (sineHorner x2 r (n + 1)) - sineTail (2 * n + 1) (fixedValue x2)| ≤ 4 * (1 / 8) ^ r + 2 / waveUnit := by
  have hU := waveUnit_pos
  have hy := fixedValue_nonneg x2
  have hy' := fixedValue_le_of hx
  induction r with
  | zero =>
    intro n _
    have htail := abs_le.mp (abs_sineTail_le (m := 2 * n + 1) (by omega) hy hy')
    have : 0 ≤ 2 / (waveUnit : ℝ) := by positivity
    rw [sineHorner, fixedValue_waveUnit, abs_le]
    constructor <;> linarith
  | succ r ih =>
    intro n hn
    have hn' : (1 : ℝ) ≤ n := by exact_mod_cast hn
    have hfactor : fixedValue x2 / ((2 * n + 2) * (2 * n + 3)) ≤ 1 / 8 := by
      rw [div_le_iff₀ (by positivity)]
      nlinarith
    have hinner := ih (n + 1) (by omega)
    calc _ ≤ 1 / waveUnit + fixedValue x2 / ((2 * n + 2) * (2 * n + 3))
          * |fixedValue (sineHorner x2 r (n + 2)) - sineTail (2 * n + 3) (fixedValue x2)| := abs_sineHorner_succ_le hx r n
      _ ≤ 1 / waveUnit + 1 / 8 * (4 * (1 / 8) ^ r + 2 / waveUnit) := by gcongr; exact hinner
      _ ≤ 4 * (1 / 8) ^ (r + 1) + 2 / waveUnit := by
        have : 0 ≤ 1 / (waveUnit : ℝ) := by positivity
        rw [pow_succ]
        ring_nf at this ⊢
        linarith

/-- The whole Horner form, of twenty factors. -/
theorem abs_sineHorner_le {x2 : ℕ} (hx : 2 * x2 ≤ 5 * waveUnit) :
    |fixedValue (sineHorner x2 20 1) - sineTail 1 (fixedValue x2)| ≤ 1 / 10 ^ 15 := by
  have hfirst := abs_sineHorner_succ_le hx 19 0
  have hinner := abs_sineHorner_inner_le hx 19 1 le_rfl
  have hunit := one_div_waveUnit_le
  have hfactor : fixedValue x2 / ((2 * (0 : ℕ) + 2) * (2 * (0 : ℕ) + 3)) ≤ 1 := by
    have := fixedValue_le_of hx
    rw [div_le_iff₀ (by positivity)]
    norm_num
    linarith
  calc _ ≤ 1 / waveUnit + fixedValue x2 / ((2 * (0 : ℕ) + 2) * (2 * (0 : ℕ) + 3))
        * |fixedValue (sineHorner x2 19 (0 + 2)) - sineTail (2 * 0 + 3) (fixedValue x2)| := hfirst
    _ ≤ 1 / waveUnit + 1 * (4 * (1 / 8) ^ 19 + 2 / waveUnit) := by gcongr
    _ = 4 * (1 / 8) ^ 19 + 3 * (1 / waveUnit) := by ring
    _ ≤ 4 * (1 / 8) ^ 19 + 3 * (1 / 10 ^ 38) := by gcongr
    _ ≤ 1 / 10 ^ 15 := by norm_num

/-! ## The sine of a quarter of the cycle -/

/-- The constant is 2π to its last digit. -/
theorem abs_twoPi_sub_le : |fixedValue twoPi - 2 * Real.pi| ≤ 1 / 10 ^ 19 := by
  have hlow := Real.pi_gt_d20
  have hhigh := Real.pi_lt_d20
  have hvalue : (6.28318530717958647692 : ℝ) ≤ fixedValue twoPi ∧ fixedValue twoPi ≤ 6.28318530717958647693 := by
    norm_num [fixedValue, twoPi, waveUnit]
  rw [abs_le]
  norm_num at hlow hhigh hvalue ⊢
  constructor <;> linarith

/-- The angle of the fixed-point sine. -/
theorem abs_angle_sub_le {n d : ℕ} (hd : 0 < d) (h : 4 * n ≤ d) :
    |fixedValue (twoPi * n / d) - 2 * Real.pi * (n / d)| ≤ 1 / 10 ^ 18 := by
  have hU := waveUnit_pos
  have hd' : (0 : ℝ) < d := by exact_mod_cast hd
  have hpart : (n : ℝ) / d ≤ 1 := by
    rw [div_le_one hd']
    exact_mod_cast (by omega : n ≤ d)
  have hpart0 : (0 : ℝ) ≤ n / d := by positivity
  have htrunc : |fixedValue (twoPi * n / d) - fixedValue twoPi * (n / d)| ≤ 1 / waveUnit := by
    obtain ⟨hlow, hhigh⟩ := natDiv_bounds (twoPi * n) hd
    have hexact : fixedValue twoPi * (n / d) = ((twoPi * n : ℕ) / d) / (waveUnit : ℝ) := by
      unfold fixedValue
      push_cast
      ring
    rw [hexact, fixedValue, ← sub_div, abs_div, abs_of_pos hU, div_le_div_iff_of_pos_right hU, abs_le]
    constructor <;> linarith
  calc _ ≤ |fixedValue (twoPi * n / d) - fixedValue twoPi * (n / d)|
        + |fixedValue twoPi * (n / d) - 2 * Real.pi * (n / d)| := abs_sub_le _ _ _
    _ = |fixedValue (twoPi * n / d) - fixedValue twoPi * (n / d)| + |fixedValue twoPi - 2 * Real.pi| * (n / d) := by
      rw [← sub_mul, abs_mul, abs_of_nonneg hpart0]
    _ ≤ 1 / 10 ^ 38 + 1 / 10 ^ 19 * 1 := by
      have := one_div_waveUnit_le
      have := abs_twoPi_sub_le
      gcongr
      linarith
    _ ≤ 1 / 10 ^ 18 := by norm_num

theorem angle_le {n d : ℕ} (hd : 0 < d) (h : 4 * n ≤ d) : fixedValue (twoPi * n / d) ≤ 1.5708 := by
  have hangle := abs_le.mp (abs_angle_sub_le hd h)
  have hd' : (0 : ℝ) < d := by exact_mod_cast hd
  have hpart : (n : ℝ) / d ≤ 1 / 4 := by
    rw [div_le_div_iff₀ hd' (by norm_num)]
    exact_mod_cast (by omega : n * 4 ≤ 1 * d)
  have hpi := Real.pi_lt_d6
  have hpi0 := Real.pi_pos
  have : 2 * Real.pi * (n / d) ≤ 2 * Real.pi * (1 / 4) := by gcongr
  norm_num at hpi hangle ⊢
  linarith

/-- A fixed-point product is the floor of the product. -/
theorem abs_fixedValue_mul_sub_le (a b : ℕ) :
    |fixedValue (a * b / waveUnit) - fixedValue a * fixedValue b| ≤ 1 / 10 ^ 38 := by
  have hU := waveUnit_pos
  obtain ⟨hlow, hhigh⟩ := natDiv_bounds (a * b) (b := waveUnit) (by exact_mod_cast hU)
  have hexact : fixedValue a * fixedValue b = ((a * b : ℕ) / (waveUnit : ℝ)) / waveUnit := by
    unfold fixedValue
    push_cast
    ring
  refine le_trans ?_ one_div_waveUnit_le
  rw [hexact, fixedValue, ← sub_div, abs_div, abs_of_pos hU, div_le_div_iff_of_pos_right hU, abs_le]
  constructor <;> linarith

/-- Assumption 5: the fixed-point sine. -/
theorem abs_sineOf_sub_sin_le {n d : ℕ} (hd : 0 < d) (h : 4 * n ≤ d) :
    |fixedValue (sineOf n d) - Real.sin (2 * Real.pi * (n / d))| ≤ 1 / 10 ^ 10 := by
  set x := twoPi * n / d with hx
  set y := fixedValue (x * x / waveUnit) with hy
  set H := fixedValue (sineHorner (x * x / waveUnit) 20 1)
  have hX0 := fixedValue_nonneg x
  have hX := angle_le hd h
  have hsquare := abs_le.mp (abs_fixedValue_mul_sub_le x x)
  have hy0 : 0 ≤ y := fixedValue_nonneg _
  have hy' : y ≤ 5 / 2 := by
    rw [← hx] at hX
    norm_num at hsquare hX ⊢
    nlinarith
  have hfits : 2 * (x * x / waveUnit) ≤ 5 * waveUnit := by
    have hU := waveUnit_pos
    rw [hy, fixedValue, div_le_iff₀ hU] at hy'
    have : (2 * (x * x / waveUnit : ℕ) : ℝ) ≤ 5 * waveUnit := by linarith
    exact_mod_cast this
  have hhorner : |H - sineTail 1 y| ≤ 1 / 10 ^ 15 := abs_sineHorner_le hfits
  have htail : |sineTail 1 y| ≤ 3 := abs_sineTail_le le_rfl hy0 hy'
  have hroot : |fixedValue x - √y| ≤ 1 / 10 ^ 18 := by
    have hsqrt0 := Real.sqrt_nonneg y
    have hsqrt := Real.sq_sqrt hy0
    refine abs_le_of_sq_le_sq ?_ (by norm_num)
    norm_num at hsquare ⊢
    obtain hle | hle := le_total (fixedValue x) √y <;> nlinarith
  have hsin : Real.sin √y = √y * sineTail 1 y := by rw [sin_eq_mul_sineTail, Real.sq_sqrt hy0]
  have hproduct : |fixedValue (sineOf n d) - fixedValue x * H| ≤ 1 / 10 ^ 38 := abs_fixedValue_mul_sub_le _ _
  have hangle : |Real.sin √y - Real.sin (2 * Real.pi * (n / d))| ≤ 1 / 10 ^ 18 + 1 / 10 ^ 18 := calc
    _ ≤ |√y - 2 * Real.pi * (n / d)| := abs_sin_sub_sin_le _ _
    _ ≤ |√y - fixedValue x| + |fixedValue x - 2 * Real.pi * (n / d)| := abs_sub_le _ _ _
    _ ≤ _ := add_le_add (by rwa [abs_sub_comm]) (abs_angle_sub_le hd h)
  have hsplit : fixedValue (sineOf n d) - Real.sin (2 * Real.pi * (n / d)) =
      (fixedValue (sineOf n d) - fixedValue x * H) + fixedValue x * (H - sineTail 1 y)
        + (fixedValue x - √y) * sineTail 1 y + (Real.sin √y - Real.sin (2 * Real.pi * (n / d))) := by
    rw [hsin]
    ring
  have hscaled : |fixedValue x * (H - sineTail 1 y)| ≤ 2 * (1 / 10 ^ 15) := by
    rw [abs_mul, abs_of_nonneg hX0]
    gcongr
    exact hX.trans (by norm_num)
  have hturned : |(fixedValue x - √y) * sineTail 1 y| ≤ 1 / 10 ^ 18 * 3 := by
    rw [abs_mul]
    gcongr
  rw [hsplit]
  refine (abs_add_le _ _).trans ?_
  have hthree := abs_add_three (fixedValue (sineOf n d) - fixedValue x * H) (fixedValue x * (H - sineTail 1 y))
    ((fixedValue x - √y) * sineTail 1 y)
  have hsum : (1 : ℝ) / 10 ^ 38 + 2 * (1 / 10 ^ 15) + 1 / 10 ^ 18 * 3 + (1 / 10 ^ 18 + 1 / 10 ^ 18) ≤ 1 / 10 ^ 10 := by norm_num
  linarith

end Sys2Proof.Machine
end

section
/-! O18: the waves of the command path. -/

namespace Sys2Proof.Machine

variable {n d p per : ℕ}

/-! ## SINE (R9) -/

/-- A quarter of the wave is the nearest integer to the fixed-point sine, but for the value half way. -/
theorem abs_quarterSine_sub_le (hd : 0 < d) (h : 4 * n ≤ d) :
    |(quarterSine n d : ℝ) - 32767 * Real.sin (2 * Real.pi * (n / d))| ≤ 1 / 2 + 1 / 1000 := by
  by_cases htwelfth : 12 * n = d
  · have hd' : (0 : ℝ) < d := by exact_mod_cast hd
    have hangle : 2 * Real.pi * (n / d) = Real.pi / 6 := by
      have : (d : ℝ) = 12 * n := by exact_mod_cast htwelfth.symm
      have hn : (n : ℝ) ≠ 0 := by
        rintro h0
        rw [this, h0] at hd'
        norm_num at hd'
      rw [this]
      field_simp
      norm_num
    rw [quarterSine, if_pos htwelfth, hangle, Real.sin_pi_div_six, abs_le]
    norm_num
  · have hU := waveUnit_pos
    have hround : |(quarterSine n d : ℝ) - 32767 * fixedValue (sineOf n d)| ≤ 1 / 2 := by
      obtain ⟨hlow, hhigh⟩ := natDiv_bounds (2 * 32767 * sineOf n d + waveUnit) (b := 2 * waveUnit)
        (Nat.mul_pos two_pos (by exact_mod_cast hU))
      have hexact : ((2 * 32767 * sineOf n d + waveUnit : ℕ) : ℝ) / (2 * waveUnit : ℕ) = 32767 * fixedValue (sineOf n d) + 1 / 2 := by
        unfold fixedValue
        push_cast
        field_simp
        ring
      rw [hexact] at hlow hhigh
      rw [quarterSine, if_neg htwelfth, abs_le]
      constructor <;> linarith
    have hsine := abs_le.mp (abs_sineOf_sub_sin_le hd h)
    have hrounded := abs_le.mp hround
    rw [abs_le]
    norm_num at hsine hrounded ⊢
    constructor <;> linarith

/-- The phase within its quarter has the sine of the phase, but for its sign. -/
theorem sineWave_cases (hper : 1 ≤ per) (hp : p < per) :
    ∃ n d : ℕ, ∃ σ : ℤ, 0 < d ∧ 4 * n ≤ d ∧ (σ = 1 ∨ σ = -1) ∧ waveOf .sine p per = σ * quarterSine n d
      ∧ Real.sin (2 * Real.pi * p / per) = σ * Real.sin (2 * Real.pi * (n / d)) := by
  have hper' : (0 : ℝ) < per := by exact_mod_cast hper
  show ∃ n d : ℕ, ∃ σ : ℤ, 0 < d ∧ 4 * n ≤ d ∧ (σ = 1 ∨ σ = -1) ∧ sineWave p per = σ * quarterSine n d ∧ _
  unfold sineWave
  split
  case isTrue h1 =>
    have hangle : 2 * Real.pi * ((2 * p : ℕ) / (2 * per : ℕ)) = 2 * Real.pi * p / per := by
      push_cast
      field_simp
    refine ⟨2 * p, 2 * per, 1, by omega, by omega, .inl rfl, (one_mul _).symm, ?_⟩
    rw [hangle, Int.cast_one, one_mul]
  case isFalse h1 =>
  split
  case isTrue h2 =>
    have hangle : 2 * Real.pi * ((per - 2 * p : ℕ) / (2 * per : ℕ)) = Real.pi - 2 * Real.pi * p / per := by
      rw [Nat.cast_sub (by omega)]
      push_cast
      field_simp
    refine ⟨per - 2 * p, 2 * per, 1, by omega, by omega, .inl rfl, (one_mul _).symm, ?_⟩
    rw [hangle, Real.sin_pi_sub, Int.cast_one, one_mul]
  case isFalse h2 =>
  split
  case isTrue h3 =>
    have hangle : 2 * Real.pi * ((2 * p - per : ℕ) / (2 * per : ℕ)) = 2 * Real.pi * p / per - Real.pi := by
      rw [Nat.cast_sub (by omega)]
      push_cast
      field_simp
    refine ⟨2 * p - per, 2 * per, -1, by omega, by omega, .inr rfl, (neg_one_mul _).symm, ?_⟩
    rw [hangle, Real.sin_sub_pi]
    simp
  case isFalse h3 =>
    have hangle : 2 * Real.pi * ((2 * per - 2 * p : ℕ) / (2 * per : ℕ)) = 2 * Real.pi - 2 * Real.pi * p / per := by
      rw [Nat.cast_sub (by omega)]
      push_cast
      field_simp
    refine ⟨2 * per - 2 * p, 2 * per, -1, by omega, by omega, .inr rfl, (neg_one_mul _).symm, ?_⟩
    rw [hangle, Real.sin_two_pi_sub]
    simp

/-- R9 with assumption 5: the wave is the sine, rounded. -/
theorem abs_sineWave_sub_le (hper : 1 ≤ per) (hp : p < per) :
    |((waveOf .sine p per : ℤ) : ℝ) - 32767 * Real.sin (2 * Real.pi * p / per)| ≤ 1 / 2 + 1 / 1000 := by
  obtain ⟨n, d, σ, hd, hquarter, hσ, hwave, hsin⟩ := sineWave_cases hper hp
  have hbound := abs_quarterSine_sub_le hd hquarter
  have hσ1 : |(σ : ℝ)| = 1 := by obtain rfl | rfl := hσ <;> simp
  rw [hwave, hsin]
  calc _ = |(σ : ℝ) * ((quarterSine n d : ℝ) - 32767 * Real.sin (2 * Real.pi * (n / d)))| := by push_cast; ring_nf
    _ ≤ 1 / 2 + 1 / 1000 := by rwa [abs_mul, hσ1, one_mul]

/-- A phase whose sine is an integer over 32767 has that integer for its wave. -/
theorem sineWave_eq_of_sin {k : ℤ} (hper : 1 ≤ per) (hp : p < per) (h : 32767 * Real.sin (2 * Real.pi * p / per) = k) :
    waveOf .sine p per = k := by
  have hbound := abs_sineWave_sub_le hper hp
  rw [h] at hbound
  have hless : |((waveOf .sine p per - k : ℤ) : ℝ)| < 1 := by
    push_cast
    exact hbound.trans_lt (by norm_num)
  have hzero : |waveOf .sine p per - k| < 1 := by exact_mod_cast hless
  have := Int.abs_lt_one_iff.mp hzero
  omega

/-- The phase of a fraction `a / b` of the period. -/
theorem angle_of_fraction {a b : ℕ} (hper : 1 ≤ per) (hb : 0 < b) (h : b * p = a * per) :
    2 * Real.pi * p / per = 2 * Real.pi * (a / b) := by
  have hper' : (0 : ℝ) < per := by exact_mod_cast hper
  have hb' : (0 : ℝ) < b := by exact_mod_cast hb
  have : (b : ℝ) * p = a * per := by exact_mod_cast h
  field_simp
  linarith

theorem sineWave_of_twelfth (h : 12 * p = per ∨ 12 * p = 5 * per) (hper : 1 ≤ per) : waveOf .sine p per = 16384 := by
  show sineWave p per = _
  unfold sineWave
  obtain h | h := h
  · rw [if_pos (by omega), quarterSine, if_pos (by omega)]
    rfl
  · rw [if_neg (by omega), if_pos (by omega), quarterSine, if_pos (by omega)]
    rfl

theorem sineWave_of_twelfth_low (h : 12 * p = 7 * per ∨ 12 * p = 11 * per) (hper : 1 ≤ per) : waveOf .sine p per = -16384 := by
  show sineWave p per = _
  unfold sineWave
  obtain h | h := h
  · rw [if_neg (by omega), if_neg (by omega), if_pos (by omega), quarterSine, if_pos (by omega)]
    rfl
  · rw [if_neg (by omega), if_neg (by omega), if_neg (by omega), quarterSine, if_pos (by omega)]
    rfl

/-! ## TRIANGLE (R10) -/

theorem divZ_natCast (a b : ℕ) : divZ a b = (a / b : ℕ) := rfl

/-- The quotient of a phase behind its turn. -/
theorem divZ_phase {a : ℕ} (h : a ≤ p) : divZ (131068 * ((p : ℤ) - a)) per = (131068 * (p - a) / per : ℕ) := by
  rw [← Nat.cast_sub h]
  rfl

/-- R10: the three branches of the wave, each with the quotient of its rule. -/
theorem triangleWave_eq (p per : ℕ) : waveOf .triangle p per = clamp (-32767) 32767
    (if p < per / 4 then ((131068 * p / per : ℕ) : ℤ)
      else if p < 3 * per / 4 then 32767 - ((131068 * (p - per / 4) / per : ℕ) : ℤ)
      else -32767 + ((131068 * (p - 3 * per / 4) / per : ℕ) : ℤ)) := by
  show triangleWave p per = _
  unfold triangleWave
  congr 1
  split
  case isTrue => exact divZ_natCast _ _
  case isFalse hrising =>
    split
    case isTrue => rw [divZ_phase (by omega)]
    case isFalse => rw [divZ_phase (by omega)]

/-- Settles O18: the bound gives the value wherever the sine is an integer over 32767; the rest are the branches of the wave. -/
theorem sineFollowsTheSineFunction : Obligations.SineFollowsTheSineFunction := by
  intro p per hper hp
  refine ⟨abs_sineWave_sub_le hper hp, ?_, fun h => ?_, fun h => ?_, fun h => ?_, fun h => sineWave_of_twelfth h hper,
    fun h => sineWave_of_twelfth_low h hper, fun h => ?_, fun h h' => ?_, fun h => ?_⟩
  · exact sineWave_eq_of_sin hper (by omega) (by simp)
  · refine sineWave_eq_of_sin hper hp ?_
    rw [angle_of_fraction (a := 1) (b := 4) hper (by norm_num) (by omega),
      show 2 * Real.pi * ((1 : ℕ) / (4 : ℕ)) = Real.pi / 2 by push_cast; ring, Real.sin_pi_div_two]
    norm_num
  · refine sineWave_eq_of_sin hper hp ?_
    rw [angle_of_fraction (a := 1) (b := 2) hper (by norm_num) (by omega),
      show 2 * Real.pi * ((1 : ℕ) / (2 : ℕ)) = Real.pi by push_cast; ring, Real.sin_pi]
    norm_num
  · refine sineWave_eq_of_sin hper hp ?_
    rw [angle_of_fraction (a := 3) (b := 4) hper (by norm_num) (by omega),
      show 2 * Real.pi * ((3 : ℕ) / (4 : ℕ)) = Real.pi / 2 + Real.pi by push_cast; ring, Real.sin_add_pi, Real.sin_pi_div_two]
    norm_num
  · rw [triangleWave_eq, if_pos h, clamp_eq_max_min (by decide)]
    generalize 131068 * p / per = quotient
    omega
  · rw [triangleWave_eq, if_neg (by omega), if_pos h', clamp_eq_max_min (by decide)]
    generalize 131068 * (p - per / 4) / per = quotient
    omega
  · rw [triangleWave_eq, if_neg (by omega), if_neg (by omega), clamp_eq_max_min (by decide)]
    generalize 131068 * (p - 3 * per / 4) / per = quotient
    omega

end Sys2Proof.Machine
end
